-- ==== Sys2Proof/Word.lean ====
section
/-! DEFINITION. Words, bit fields, bytes, and the plain types that commands and state share. -/

namespace Sys2Proof

/-- A byte on a line, in a buffer or in a datagram. -/
abbrev Byte := BitVec 8

/-- A window word of an access block, a register of 32 bits. -/
abbrev Word32 := BitVec 32

/-- A slot of the object dictionary (R27). -/
abbrev Word64 := BitVec 64

/-- Bits `[hi:lo]` of a number. -/
def bits (v hi lo : Nat) : Nat := (v >>> lo) % 2 ^ (hi + 1 - lo)

/-- Bit `i` of a number. -/
def bit (v i : Nat) : Bool := v.testBit i

/-- `1` for true. -/
def b2n (b : Bool) : Nat := if b then 1 else 0

/-- `v` with bit `i` set or cleared. -/
def setBit (v i : Nat) (b : Bool) : Nat :=
  if v.testBit i = b then v else if b then v + 2 ^ i else v - 2 ^ i

/-- A number kept at or below `top` (a saturating field). -/
def sat (top v : Nat) : Nat := min top v

/-- Round-up division. -/
def ceilDiv (a b : Nat) : Nat := (a + b - 1) / b

/-- A 32-bit two's complement reading. -/
def toI32 (v : Nat) : Int := if v % 2 ^ 32 < 2 ^ 31 then (v % 2 ^ 32 : Nat) else (v % 2 ^ 32 : Nat) - 2 ^ 32

/-- A 64-bit two's complement reading. -/
def toI64 (v : Nat) : Int := if v % 2 ^ 64 < 2 ^ 63 then (v % 2 ^ 64 : Nat) else (v % 2 ^ 64 : Nat) - 2 ^ 64

/-- The 32-bit pattern of an integer. -/
def ofI32 (i : Int) : Nat := (i % 2 ^ 32).toNat

/-- The 64-bit pattern of an integer. -/
def ofI64 (i : Int) : Nat := (i % 2 ^ 64).toNat

/-- An integer saturated to 32 bits. -/
def satI32 (i : Int) : Int := max (-(2 ^ 31)) (min (2 ^ 31 - 1) i)

/-- The low `n` bytes of `v`, most significant first. -/
def be : Nat → Nat → List Byte
  | 0, _ => []
  | n + 1, v => BitVec.ofNat 8 (v / 256 ^ n) :: be n v

/-- The low `n` bytes of `v`, least significant first. -/
def le : Nat → Nat → List Byte
  | 0, _ => []
  | n + 1, v => BitVec.ofNat 8 v :: le n (v / 256)

/-- The number that big-endian bytes spell. -/
def ofBe (bs : List Byte) : Nat := bs.foldl (fun a b => a * 256 + b.toNat) 0

/-- The number that little-endian bytes spell. -/
def ofLe : List Byte → Nat
  | [] => 0
  | b :: bs => b.toNat + 256 * ofLe bs

/-- `len` bytes of `bs` from offset `off`, with zeros past the end. -/
def slice (bs : List Byte) (off len : Nat) : List Byte :=
  let s := (bs.drop off).take len
  s ++ List.replicate (len - s.length) 0

/-- Big-endian field at an offset. -/
def beAt (bs : List Byte) (off len : Nat) : Nat := ofBe (slice bs off len)

/-- Little-endian field at an offset. -/
def leAt (bs : List Byte) (off len : Nat) : Nat := ofLe (slice bs off len)

/-- The bytes of a plain ASCII text. -/
def ascii (s : String) : List Byte := s.toList.map (fun c => BitVec.ofNat 8 c.toNat)

/-- One uppercase hexadecimal digit. -/
def hexDigit (n : Nat) : Byte := if n < 10 then BitVec.ofNat 8 (48 + n) else BitVec.ofNat 8 (55 + n)

/-- `n` uppercase hexadecimal digits of `v`. -/
def hexN : Nat → Nat → List Byte
  | 0, _ => []
  | n + 1, v => hexDigit (v / 16 ^ n % 16) :: hexN n v

/-- Decimal digits of `v`, least significant first, at most `fuel` of them. -/
def decRev : Nat → Nat → List Byte
  | 0, _ => []
  | f + 1, v => BitVec.ofNat 8 (48 + v % 10) :: (if v < 10 then [] else decRev f (v / 10))

/-- Decimal digits of `v` without leading zeros. -/
def decimal (v : Nat) : List Byte := (decRev 20 v).reverse

/-- Exclusive or over bytes (R78). -/
def xorAll (bs : List Byte) : Byte := bs.foldl (fun a b => a ^^^ b) 0

/-- The four transports of the object dictionary, in the order of their Owner codes (R31, R33). -/
inductive Transport where
  | hlb | pcie | sdo | od
  deriving DecidableEq, Repr

/-- The Owner code of a transport (R31). -/
def Transport.code : Transport → Nat
  | .hlb => 1 | .pcie => 2 | .sdo => 3 | .od => 4

/-- One thing per transport. -/
structure ByTr (α : Type) where
  hlb : α
  pcie : α
  sdo : α
  od : α
  deriving DecidableEq, Repr

/-- The thing of one transport. -/
def ByTr.get {α : Type} (b : ByTr α) : Transport → α
  | .hlb => b.hlb | .pcie => b.pcie | .sdo => b.sdo | .od => b.od

/-- Replace the thing of one transport. -/
def ByTr.set {α : Type} (b : ByTr α) (t : Transport) (x : α) : ByTr α :=
  match t with
  | .hlb => { b with hlb := x } | .pcie => { b with pcie := x }
  | .sdo => { b with sdo := x } | .od => { b with od := x }

/-- The tables reached through access blocks (R31). -/
inductive Tbl where
  | stream | lset | probe | name | lastval | group | custody | gate | filter | ledger
  | txgroup | binding | tunnel
  deriving DecidableEq, Repr

/-- The index `T` of a table's access block. -/
def Tbl.index : Tbl → Nat
  | .stream => 0x2300 | .lset => 0x2302 | .probe => 0x2307 | .name => 0x2309
  | .lastval => 0x2311 | .group => 0x2400 | .custody => 0x2520 | .gate => 0x2530
  | .filter => 0x2250 | .ledger => 0x2901 | .txgroup => 0x1C00 | .binding => 0x1C01
  | .tunnel => 0x2710

/-- Every table, in ascending order of access-block index. -/
def Tbl.all : List Tbl :=
  [.txgroup, .binding, .filter, .stream, .lset, .probe, .name, .lastval, .group, .custody,
   .gate, .tunnel, .ledger]

/-- The table whose access block lies at an index. -/
def Tbl.ofIndex (idx : Nat) : Option Tbl := Tbl.all.find? (fun t => t.index == idx)

/-- A character that a serial receiver has decided, with its flags (R273, R277). -/
structure RxChar where
  /-- The data bits. -/
  data : Byte
  /-- The ninth, address, bit. -/
  addr : Bool
  /-- Framing error. -/
  framing : Bool
  /-- Parity error. -/
  parity : Bool
  /-- Break. -/
  brk : Bool
  /-- A loss precedes this character. -/
  overrun : Bool
  deriving DecidableEq, Repr

/-- An event of a CAN controller's error confinement (R294, R304), as ISO 11898-1 tells them apart. -/
inductive CanFault where
  /-- An error is detected: a transmitter sends an error flag. -/
  | error
  /-- A receiver finds a dominant level as the first bit after its error flag. -/
  | dominantAfterFlag
  /-- An error passive transmitter finds no acknowledgement and no dominant level while it sends its passive error flag. -/
  | ackPassive
  /-- A transmitter finds a stuff error during arbitration, at a recessive stuff bit that it reads dominant. -/
  | stuffArbitration
  /-- A bit error while an active error flag or an overload flag is sent, by a transmitter or a receiver. -/
  | flagBit
  /-- So long a dominant level after a flag that the counts rise again, at a transmitter or a receiver. -/
  | dominantRun
  deriving DecidableEq, Repr

/-- The levels that a serial receiver decided for one character (R271): the start bit, the data bits with bit 0 the first,
the address and parity bits where the format has them, and the first stop bit; `true` is high. -/
structure SerBits where
  start : Bool
  data : Byte
  addr : Bool
  parity : Bool
  stop : Bool
  deriving DecidableEq, Repr

/-- A character without flags. -/
def RxChar.plain (b : Byte) : RxChar := ⟨b, false, false, false, false, false⟩

/-- A CAN frame's identity and data (R115). -/
structure CanFrame where
  /-- Identifier, 11 or 29 bits. -/
  ident : Nat
  /-- Extended format. -/
  ide : Bool
  /-- Remote frame. -/
  rtr : Bool
  /-- FD format. -/
  fdf : Bool
  /-- Bit rate switch. -/
  brs : Bool
  /-- Error state indicator. -/
  esi : Bool
  /-- 0 to 64 data bytes. -/
  data : List Byte
  deriving DecidableEq, Repr

/-- A rope frame as it arrives (R182): destination MAC address, and the bytes from the rope header on. -/
structure RopeFrame where
  dst : Nat
  bytes : List Byte
  deriving DecidableEq, Repr

/-- How a request to a remote node ends (R318, R319): the slot value read (0 for a write) with the prefetched slot's value
where one was read, or the target's abort code. -/
inductive Remote where
  | ok (value : Nat) (next : Option Nat)
  | abort (code : Nat)
  deriving DecidableEq, Repr

/-- What a remote request serves: a delayed-read slot, the oldest queued write of a window, or the mailbox. -/
inductive RemoteUse where
  | slot (k : Fin 4)
  | write (win : Fin 8)
  | mailbox
  deriving DecidableEq, Repr

/-- A transmit descriptor as fetched, with its buffer's content (R330). -/
structure TxDesc where
  data : List Byte
  /-- STAMP_VALID with its stamp. -/
  stamp : Option Nat
  /-- TUNNEL with its channel and run kind. -/
  tunnel : Option (Nat × Nat)
  /-- The DMA read failed. -/
  readError : Bool
  deriving DecidableEq, Repr

/-- What a HELLO or an accepted master beacon announces (R152, R153, R183): stamp, period in ticks, source quality, and the
instant at which it arrived. -/
structure Announced where
  stamp : Nat
  period : Nat
  quality : Nat
  arrived : Nat
  deriving DecidableEq, Repr

/-- What a boot or a resume finds outside the block (R153, R191, R349, R355, R364): the instant at which its bounded steps
end, the levels and clocks sampled, and the outcome of root derivation and BIST. -/
structure BootEnv where
  ready : Nat
  /-- CLAIM_IN_N is asserted at the pair-join step. -/
  claimIn : Bool
  /-- PAIR_POS is high at the release of PORST_N. -/
  strapB : Bool
  /-- KA_CLK_IN toggles at the release of PORST_N. -/
  kaClk : Bool
  /-- VDDIO_H is at 1.8 V, not at 3.3 V, at the release of PORST_N (R433). -/
  hostIo18 : Bool := false
  /-- The root derivation of the vault completes (R378). -/
  rootOk : Bool
  /-- Memory BIST: words that it cannot repair, spares used. -/
  badWords : Nat
  spares : Nat
  /-- Logic BIST finds a mismatch. -/
  logicFail : Bool
  /-- The latest HELLO and the latest accepted master beacon by the end of pitch acquisition. -/
  hello : Option Announced
  beacon : Option Announced
  deriving DecidableEq, Repr

/-- What a write to an entry can depend on outside the block: the boot that a reboot request leads to (R37), the level of
CTS_N where a character can start (R282, R286; none: not told), whether a character is in the receive shifter (R275), and the tamper sources that
still alarm (R388). -/
structure Outside where
  boot : BootEnv
  cts : Option Bool
  rxBusy : Bool
  alarming : Nat
  deriving DecidableEq, Repr

/-- When a frame on a CAN bus began, and what an SDO request that it may hold can depend on outside the block (R297). -/
structure CanMoment where
  sof : Nat
  outside : Outside
  deriving DecidableEq, Repr

/-- The beats of one HLB access (R315): the number read, or data and byte enables of each beat written. -/
inductive Beats where
  | read (n : Nat)
  | write (beats : List (Nat × Nat))
  deriving DecidableEq, Repr

/-- An OD-access request (R261): receiving port, source MAC, IPv4 address and UDP port, request ID, target node, entry,
data length, offset and data. -/
structure OdRequest where
  port : Fin 4
  srcMac : Nat
  srcIp : Nat
  srcPort : Nat
  id : Nat
  node : Nat
  idx : Nat
  sub : Nat
  len : Nat
  offset : Nat
  data : List Byte
  deriving DecidableEq, Repr

/-- A part of the core with a reset of its own (R366, R367). -/
inductive Domain where
  | pcie | hlb | port (p : Fin 4) | rope
  deriving DecidableEq, Repr

/-- The bit of a domain in 0x2005:05. -/
def Domain.bit : Domain → Nat
  | .pcie => 0 | .hlb => 1 | .port p => 2 + p.val | .rope => 6

/-- Where the scrubber finds an uncorrectable word (R416). -/
inductive ScrubAt where
  /-- A mirrored segment. -/
  | segment (seg : Nat)
  /-- A last-value slot; its sequence number is correctable or not. -/
  | slot (stream : Nat) (seqOk : Bool)
  | other
  deriving DecidableEq, Repr

/-- The outside of a write that depends on nothing there. -/
def BootEnv.quiet : BootEnv :=
  { ready := 0, claimIn := false, strapB := false, kaClk := false, rootOk := true, badWords := 0, spares := 0
    logicFail := false, hello := none, beacon := none }

/-- Only the boot of a reboot request matters. -/
def Outside.ofBoot (e : BootEnv) : Outside := { boot := e, cts := none, rxBusy := false, alarming := 0 }

/-- Nothing outside matters. -/
def Outside.quiet : Outside := Outside.ofBoot BootEnv.quiet

/-- A sparse list of keyed values: keys strictly rising, no entry equal to what an unlisted key reads as. -/
abbrev SMap (α : Type) := List (Nat × α)

/-- Read a key. -/
def SMap.get {α : Type} (dflt : Nat → α) : SMap α → Nat → α
  | [], k => dflt k
  | (k', v) :: r, k => if k = k' then v else SMap.get dflt r k

/-- Write a key, keeping the canonical form. -/
def SMap.set {α : Type} [DecidableEq α] (dflt : Nat → α) : SMap α → Nat → α → SMap α
  | [], k, v => if v = dflt k then [] else [(k, v)]
  | (k', v') :: r, k, v =>
    if k < k' then (if v = dflt k then (k', v') :: r else (k, v) :: (k', v') :: r)
    else if k = k' then (if v = dflt k then r else (k, v) :: r)
    else (k', v') :: SMap.set dflt r k v

/-- The canonical form: keys above `lo`, strictly rising, no default listed. -/
def SMap.wfFrom {α : Type} [DecidableEq α] (dflt : Nat → α) : Option Nat → SMap α → Bool
  | _, [] => true
  | lo, (k, v) :: r =>
    (match lo with | none => true | some l => decide (l < k)) && decide (v ≠ dflt k)
      && SMap.wfFrom dflt (some k) r

/-- The canonical form of a sparse list. -/
def SMap.wf {α : Type} [DecidableEq α] (dflt : Nat → α) (m : SMap α) : Bool := SMap.wfFrom dflt none m

end Sys2Proof
end

