-- ==== Sys2Proof/Syntax.lean ====
section
/-! DEFINITION. The commands of the block: one constructor per row of the opcode table, in its order. The first operand of each
is its instant in CORE cycles (R354). -/

namespace Sys2Proof

/-- A command. -/
inductive Instr where
  /-- A write to an object dictionary entry that has no row of its own is checked in the order of R36 and either takes
  effect or is rejected (R24). -/
  | odWrite (t : Nat) (tr : Transport) (idx : BitVec 16) (sub : BitVec 8) (size : Option Nat) (v : Word64) (x : Outside)
  /-- A held low word that no high-word write follows within 1 ms is discarded (R28). -/
  | heldLowWordDiscard (t : Nat) (tr : Transport)
  /-- A read of the low word of a 64-bit slot snapshots the whole value for the following high-word read by the same
  initiator (R28). -/
  | lowWordReadSnapshot (t : Nat) (tr : Transport) (idx : BitVec 16) (sub : BitVec 8)
  /-- A write of the domain port Target resets Offset to 0 and discards uncommitted bytes (R30). -/
  | domainTargetWrite (t : Nat) (tr : Transport) (v : Word32)
  /-- A write of domain port Data stores 4 bytes at Offset and adds 4 to Offset (R30). -/
  | domainDataWrite (t : Nat) (tr : Transport) (v : Word32)
  /-- A read of domain port Data returns 4 bytes at Offset and adds 4 to Offset (R30). -/
  | domainDataRead (t : Nat) (tr : Transport)
  /-- Commit code 1 applies the written bytes to the target DOMAIN with length equal to the highest offset written plus 4
  (R30). -/
  | domainCommit (t : Nat) (tr : Transport)
  /-- Commit code 2 discards the uncommitted bytes and leaves the DOMAIN unchanged (R30). -/
  | domainDiscard (t : Nat) (tr : Transport)
  /-- An open domain-port transfer that times out is abandoned with code 0x0504_0000 and the DOMAIN is left unchanged (R36).
  -/
  | domainPortTimeout (t : Nat) (tr : Transport)
  /-- A transport claims an access block by writing its own code to Owner while Owner is 0 (R32). -/
  | accessBlockClaim (t : Nat) (tr : Transport) (tbl : Tbl)
  /-- The holder writes 0 to Owner and the access block becomes free (R32). -/
  | accessBlockRelease (t : Nat) (tr : Transport) (tbl : Tbl)
  /-- Owner returns to 0 after 1 s with no access from the holder (R32). -/
  | accessBlockOwnerTimeout (t : Nat) (tbl : Tbl)
  /-- Operation 1 reads the selected row of a table into the window (R31). -/
  | tableReadRow (t : Nat) (tr : Transport) (tbl : Tbl)
  /-- Operation 2 stages the window as the selected row, or applies it at once in the CONFIG-only blocks, after the row
  checks of its table (R31). -/
  | tableStageRow (t : Nat) (tr : Transport) (tbl : Tbl)
  /-- Operation 3 stages the selected row as empty, or as its reset values, or as a last-value clearing (R31). -/
  | tableStageEmpty (t : Nat) (tr : Transport) (tbl : Tbl)
  /-- The SDO server answers an expedited upload request with the entry value in the request's format (R35). -/
  | sdoExpeditedUpload (t : Nat) (fd : Bool) (idx : BitVec 16) (sub : BitVec 8)
  /-- The SDO server performs an expedited download as a write to the entry (R35). -/
  | sdoExpeditedDownload (t : Nat) (fd : Bool) (idx : BitVec 16) (sub : BitVec 8) (size : Option Nat) (v : Word32) (x :
  Outside)
  /-- The SDO server opens a segmented upload of an entry (R35). -/
  | sdoSegmentedUploadInitiate (t : Nat) (fd : Bool) (idx : BitVec 16) (sub : BitVec 8)
  /-- The SDO server opens a segmented download to an entry (R35). -/
  | sdoSegmentedDownloadInitiate (t : Nat) (fd : Bool) (idx : BitVec 16) (sub : BitVec 8) (size : Option Nat)
  /-- The SDO server sends the next segment of an open segmented upload (R35). -/
  | sdoUploadSegment (t : Nat) (fd : Bool) (toggle : Bool)
  /-- The SDO server takes the next segment of an open segmented download and commits it when it is the last (R35). -/
  | sdoDownloadSegment (t : Nat) (fd : Bool) (toggle : Bool) (last : Bool) (data : List Byte) (x : Outside)
  /-- A block transfer request is answered with abort 0x0601_0000 (R36). -/
  | sdoBlockTransferRequest (t : Nat) (fd : Bool) (idx : BitVec 16) (sub : BitVec 8)
  /-- A request with an invalid or unknown command specifier is answered with abort 0x0504_0001 (R36). -/
  | sdoUnknownCommand (t : Nat) (fd : Bool) (idx : BitVec 16) (sub : BitVec 8)
  /-- A segmented transfer whose next segment has not arrived 1,000 ms after the last is aborted with 0x0504_0000 (R35). -/
  | sdoSegmentTimeout (t : Nat)
  /-- State request 0x02 in SERVICE stops admission at the next rinse and starts the drain towards CONFIG (R38). -/
  | enterConfig (t : Nat) (tr : Transport)
  /-- Once the admitted work has been forwarded through the following leg, the unit enters CONFIG, stops ALIVE_OUT, releases
  its claim and discards open groups (R38). -/
  | configEntry (t : Nat)
  /-- State request 0x03 validates every staged table and either stays in CONFIG with result 3 or awaits the next pitch
  boundary to resume (R38). -/
  | leaveConfig (t : Nat) (tr : Transport)
  /-- At the next pitch boundary after a successful SERVICE request the unit enters SERVICE, applies staged rows and rejoins
  a pair (R38). -/
  | serviceResume (t : Nat)
  /-- State request 0x10 takes a logbook snapshot and reboots the device from the rack (R37). -/
  | rebootFromRack (t : Nat) (tr : Transport) (e : BootEnv)
  /-- An alert whose clearing time has passed, or whose condition has ended, changes state to cleared and is emitted (R40).
  -/
  | alertClear (t : Nat) (code : Nat)
  /-- Writing of a rack copy ends and the copy is checked under R45, with the result reported in 0x2011:03 (R48). -/
  | rackProgramComplete (t : Nat) (ok : Bool)
  /-- Release of PORST_N with supplies in range starts the boot sequence (R349). -/
  | porstNRelease (t : Nat) (e : BootEnv)
  /-- A position-B unit that saw CLAIM_IN_N released through the whole join window asserts its claim and becomes ACTIVE
  (R191). -/
  | joinWindowExpiry (t : Nat)
  /-- A parse lane finishes an item, discarding it as MALFORMED or passing it to tag issue or group assembly (R53). -/
  | parseLaneDone (t : Nat) (k : Fin 8)
  /-- A finished item receives a reserved or shared tag in issue order, waiting while none is free (R55). -/
  | tagIssue (t : Nat)
  /-- An item completes the firewall, group, selection and last-value stages and awaits release in stream order (R104). -/
  | itemStagesComplete (t : Nat) (tag : Nat)
  /-- After a group deadline passes and no earlier-stamped item joins, every held part is discarded as GROUP_INCOMPLETE 1
  (R85). -/
  | groupDeadlineExpiry (t : Nat) (src : Nat)
  /-- An item is released to admission once every earlier item of its stream has been released or discarded (R56). -/
  | orderRelease (t : Nat) (tag : Nat) (virt : Bool)
  /-- After the leg boundary and belay acknowledgement an admitted item is handed to each serial, CAN and host listener's
  custody (R65). -/
  | handover (t : Nat) (cts : Nat)
  /-- A write of Learn select snapshots that learn record into the read entries (R106). -/
  | learnSelect (t : Nat) (tr : Transport) (v : Byte)
  /-- A write of 1 to the learn Clear entry frees every learn record (R106). -/
  | learnClear (t : Nat) (tr : Transport)
  /-- A commit target is accepted as pending or refused for nothing staged, not a leg start or too close (R118). -/
  | commitTargetWrite (t : Nat) (tr : Transport) (v : Word64)
  /-- A write of 1 to Discard empties the staged list and ends a pending commit with status 6 (R118). -/
  | stagedListDiscard (t : Nat) (tr : Transport)
  /-- The phase wraps and the pitch number rises by exactly 1 (R140). -/
  | pitchBoundary (t : Nat)
  /-- At the first CORE cycle of a leg the rinse is checked, plans close and open, and deferred items are re-proposed
  (R158). -/
  | legBoundary (t : Nat)
  /-- The hem of a leg begins; no window may open and every redundancy group is evaluated (R174). -/
  | hemStart (t : Nat)
  /-- A rising PITCH_A edge is filtered and used as a reference point, slewing or declaring a slip (R143). -/
  | pulseEdge (t : Nat) (high : Nat)
  /-- A counted quadrature edge is a reference point for phase n × 2^24 ÷ N (R146). -/
  | quadCountEdge (t : Nat) (astern : Bool)
  /-- A rising PITCH_IDX edge is the reference for pitch boundaries and restarts the count (R146). -/
  | quadIndex (t : Nat)
  /-- The qualify count of consecutive valid edges is reached and the engine locks by slewing or a slip (R147). -/
  | sourceQualified (t : Nat) (source : Fin 4)
  /-- No valid reference point arrives by the source deadline and the engine enters HOLDOVER (R144). -/
  | sourceDeadline (t : Nat)
  /-- The holdover pitch count is reached and the engine moves to the secondary or to FREE (R144). -/
  | holdoverCountReached (t : Nat)
  /-- A slip pitch ends, the engine is aligned and the source is judged present or missing (R145). -/
  | slipPitchEnd (t : Nat)
  /-- The window around the end of a slip pitch closes with no point and the engine enters HOLDOVER (R145). -/
  | slipWindowClose (t : Nat)
  /-- A received pitch beacon is taken as a master beacon, a partner heartbeat, a mode change carrier, or counted as not
  used (R152). -/
  | beaconReceived (t : Nat) (p : Fin 4) (payload : List Byte) (sfd : Nat)
  /-- A master beacon falls due at a phase multiple of 2^(24−b) and is queued for a class-7 window (R151). -/
  | masterBeaconDue (t : Nat)
  /-- A gate window opens on a port, shifted by the schedule shift, and its queues become eligible (R239). -/
  | gateOpen (t : Nat) (p : Fin 4) (entry : Nat)
  /-- A gate window closes on a port at its shifted CLOSE (R239). -/
  | gateClose (t : Nat) (p : Fin 4) (entry : Nat)
  /-- A transmitted frame ends on the wire and the transmitter becomes free (R239). -/
  | portFrameEnd (t : Nat) (p : Fin 4)
  /-- A PAUSE frame holds the transmitter for its quanta within the remaining pause ceiling (R241). -/
  | pauseFrameReceived (t : Nat) (p : Fin 4) (quanta : BitVec 16)
  /-- The honoured pause time ends and the transmitter resumes (R241). -/
  | pauseExpiry (t : Nat) (p : Fin 4)
  /-- The leg's honoured pause reaches the ceiling; the rest is not honoured and the truncation is counted (R177). -/
  | pauseCeilingReached (t : Nat) (p : Fin 4)
  /-- A received HELLO runs the pairing check and forms the team, starts darning or refuses the pair (R184). -/
  | helloReceived (t : Nat) (f : RopeFrame)
  /-- A partner HEARTBEAT refreshes the rope path and reports the partner's role, which can start or complete darning
  (R442). -/
  | heartbeatReceived (t : Nat) (f : RopeFrame)
  /-- Every 1,000 µs until the team forms, the unit sends a HELLO (R183). -/
  | helloTimer (t : Nat)
  /-- At intervals of no more than 20 µs the unit sends a HEARTBEAT (R183). -/
  | heartbeatTimer (t : Nat)
  /-- The rope becomes present again, a new rope session begins and HELLOs are sent (R188). -/
  | ropePresent (t : Nat)
  /-- No valid rope frame for 60 µs or link down loses the rope and the role rules decide (R188). -/
  | ropeLost (t : Nat) (linkDown : Bool)
  /-- No ALIVE_IN edge for 40 µs loses the ALIVE path and the takeover table decides (R188). -/
  | aliveLost (t : Nat) (edge : Nat)
  /-- Four consecutive ALIVE_IN edges within 12 µs make the ALIVE path present (R188). -/
  | alivePresent (t : Nat)
  /-- CLAIM_IN_N high for 2 µs marks the partner's claim released and the takeover table decides (R188). -/
  | claimReleased (t : Nat)
  /-- CLAIM_IN_N low for 2 µs marks the claim asserted; an ACTIVE position-B unit drops to ISOLATED (R192). -/
  | claimAsserted (t : Nat)
  /-- No partner beacon within the backbone heartbeat window loses the backbone path (R188). -/
  | backboneHeartbeatLost (t : Nat)
  /-- 2 µs after asserting its claim the unit samples CLAIM_IN_N and keeps the role or releases it (R194). -/
  | claimSample (t : Nat) (asserted : Bool)
  /-- After a random 100 to 1,000 µs a position-A unit that released its claim retries the join (R194). -/
  | joinRetry (t : Nat)
  /-- A block reporting no progress for 20 µs puts the unit in role HOLD and releases every output (R185). -/
  | progressLost (t : Nat)
  /-- A write of a discrete output's State starts or holds a SET or CLR pulse and sets Confirmation to 0 (R199). -/
  | discreteStateWrite (t : Nat) (tr : Transport) (n : Fin 16) (v : Byte)
  /-- A discrete output pulse ends after its width (R199). -/
  | discretePulseEnd (t : Nat) (n : Fin 16)
  /-- A held discrete write starts its pulse 2 ms after the current pulse ends (R199). -/
  | heldPulseStart (t : Nat) (n : Fin 16)
  /-- A target stamp write with team scope is accepted on an ACTIVE or SOLO unit and relayed to the standby (R202). -/
  | teamModeChangeRequest (t : Nat) (tr : Transport) (target : Word64)
  /-- A target stamp write with domain scope on the pitch master is carried in every master beacon until the target (R203).
  -/
  | domainModeChangeRequest (t : Nat) (tr : Transport) (target : Word64)
  /-- A standby takes a mode relay, acknowledges it and applies it at the target, or goes out of step when it is late
  (R202). -/
  | modeRelayReceived (t : Nat) (f : RopeFrame)
  /-- The active takes the standby's mode acknowledgement (R202). -/
  | modeAckReceived (t : Nat) (f : RopeFrame)
  /-- An ADMIT frame is sent when 60 records wait or 0.2 µs after the first waiting record (R212). -/
  | admitSendTimer (t : Nat)
  /-- The standby takes an ADMIT frame's records, matches them to its shadow hold and acknowledges (R212). -/
  | admitReceived (t : Nat) (f : RopeFrame)
  /-- An acknowledgement closes the belay holds of the records it covers (R213). -/
  | ackReceived (t : Nat) (f : RopeFrame)
  /-- With no acknowledgement 5 µs after an ADMIT frame, the active resends from the first unacknowledged index (R212). -/
  | admitAckTimeout (t : Nat)
  /-- A pending record still unmatched at its deadline is unheld and counted (R214). -/
  | recordPendingExpiry (t : Nat)
  /-- 10 µs after the last possible rinse an unmatched copy is discarded as ORPHAN 1 (R216). -/
  | orphanJudge (t : Nat)
  /-- The standby checks a cairn against its own leg and shadow digest and counts, alerts or re-darns (R220). -/
  | cairnReceived (t : Nat) (f : RopeFrame)
  /-- A cairn not arrived by the rinse plus 50 µs is counted missing (R221). -/
  | cairnMissing (t : Nat)
  /-- The standby applies a delta or whole run by version and acknowledges it (R222). -/
  | mirrorDeltaReceived (t : Nat) (f : RopeFrame)
  /-- The active takes a delta acknowledgement and completes the M writes it covers (R222). -/
  | deltaAckReceived (t : Nat) (f : RopeFrame)
  /-- Unacknowledged deltas are resent after the timeout (R222). -/
  | deltaAckTimeout (t : Nat)
  /-- The standby compares an audit frame's version and CRC and requests, re-darns or counts a mismatch (R223). -/
  | auditFrameReceived (t : Nat) (f : RopeFrame)
  /-- The active answers a segment request with the segment (R223). -/
  | segmentRequestReceived (t : Nat) (f : RopeFrame)
  /-- The joining unit adopts generation, epoch and mode, clears its segments and begins acknowledging records (R224). -/
  | darnBeginReceived (t : Nat) (f : RopeFrame)
  /-- The joining unit applies a darning segment piece and acknowledges the segment once complete (R224). -/
  | darningSegmentReceived (t : Nat) (f : RopeFrame)
  /-- The active takes a segment acknowledgement and sends DARN END after the last (R224). -/
  | segmentAckReceived (t : Nat) (f : RopeFrame)
  /-- The joining unit awaits the cairn of leg L to enter STANDBY (R224). -/
  | darnEndReceived (t : Nat) (f : RopeFrame)
  /-- When the partner still shows DARNING past the step-5 bound plus 20 µs, the active restarts darning (R442). -/
  | darningCompletionTimeout (t : Nat)
  /-- The active proposes a standby's relayed alert or health item under source number 247 (R70). -/
  | relayedItemReceived (t : Nat) (f : RopeFrame)
  /-- With no rope frame waiting for 10 µs, a PRBS-31 pattern frame is sent (R229). -/
  | patternFrameTimer (t : Nat)
  /-- The receiver checks a pattern frame and counts its bit errors (R229). -/
  | patternFrameReceived (t : Nat) (f : RopeFrame)
  /-- A received frame is stamped and checked in order and goes to the bindings, the exception ring or is discarded (R234).
  -/
  | backboneFrameReceived (t : Nat) (p : Fin 5) (bytes : List Byte) (sfd : Nat) (codeError : Bool) (x : Outside)
  /-- A port's LINK_UP rises, clearing 0xA400, and in BIVOUAC can be a wake event (R233). -/
  | linkUp (t : Nat) (p : Fin 5) (status : Nat)
  /-- A port's LINK_UP falls and 0xA400 is raised (R233). -/
  | linkDown (t : Nat) (p : Fin 5)
  /-- A write of 1 to Stamp pop moves the oldest departure stamp record into the read entries (R242). -/
  | stampPop (t : Nat) (tr : Transport) (p : Fin 4)
  /-- In BIVOUAC a frame matching an enabled pattern asserts WAKE_OUT and records the wake cause (R246). -/
  | whistleFrame (t : Nat) (p : Fin 2) (bytes : List Byte) (sfd : Nat) (codeError : Bool)
  /-- An OD-access read request from a listed peer is executed and answered (R261). -/
  | odAccessRead (t : Nat) (q : OdRequest)
  /-- An OD-access write request from a listed peer is executed and answered (R261). -/
  | odAccessWrite (t : Nat) (q : OdRequest) (x : Outside)
  /-- An OD-access domain read reads through this transport's domain port (R261). -/
  | odAccessDomainRead (t : Nat) (q : OdRequest)
  /-- An OD-access domain write writes through this transport's domain port (R261). -/
  | odAccessDomainWrite (t : Nat) (q : OdRequest)
  /-- An OD-access domain commit commits the open transfer (R261). -/
  | odAccessDomainCommit (t : Nat) (q : OdRequest)
  /-- An OD-access domain abort discards the open transfer (R261). -/
  | odAccessDomainAbort (t : Nat) (q : OdRequest)
  /-- An OD-access request of another type is answered with abort 0x0504_0001 (R261). -/
  | odAccessUnknownType (t : Nat) (q : OdRequest) (type : Byte)
  /-- An open OD-access domain transfer idle for 1,000 ms is aborted (R261). -/
  | odAccessDomainTimeout (t : Nat)
  /-- A received character is decided with its flags and passed to the parse context, RAW FIFO, wake buffer or tunnel cutter
  (R273). -/
  | serialCharDecided (t : Nat) (n : Fin 192) (samples : List Bool) (edge : Nat)
  /-- RXD low for Stuck time puts the channel in line-stuck, ending the item in progress (R274). -/
  | lineStuckEntry (t : Nat) (n : Fin 192) (edge : Nat)
  /-- RXD high for one character time leaves line-stuck and re-enables wake (R274). -/
  | lineStuckExit (t : Nat) (n : Fin 192) (edge : Nat)
  /-- A Baud write sets RATE_PEND until transmitter and receiver apply the new divisor (R275). -/
  | baudWrite (t : Nat) (tr : Transport) (n : Fin 192) (v : Word32) (rxBusy : Bool)
  /-- A read of RX status reports the head entry's flags, marking them reported for the next pop (R279). -/
  | rxStatusRead (t : Nat) (tr : Transport) (n : Fin 192)
  /-- A read of RX data pops the FIFO head and sets UNREPORTED when its flags were not reported (R279). -/
  | rxDataRead (t : Nat) (tr : Transport) (n : Fin 192)
  /-- A write of TX data places a character in the RAW transmit FIFO or sets TX_OVF (R286). -/
  | txDataWrite (t : Nat) (tr : Transport) (n : Fin 192) (v : BitVec 16) (cts : Bool)
  /-- A transmitted character completes and the next starts when CTS allows, ending items and measuring custody (R281). -/
  | serialCharSent (t : Nat) (n : Fin 192) (cts : Bool)
  /-- In half duplex a read-back mismatch aborts the transmission and counts a collision (R284). -/
  | serialCollision (t : Nat) (n : Fin 192)
  /-- After the digest-based wait and an idle line the aborted item is resent, or after the fourth collision leaves custody
  unsent (R285). -/
  | collisionRetryTimer (t : Nat) (n : Fin 192) (cts : Bool)
  /-- In BIVOUAC a falling RXD edge on a channel with Wake 1 asserts WAKE_OUT (R288). -/
  | serialStartEdgeWake (t : Nat) (n : Fin 192)
  /-- A watch channel with Wake 2 matching a wake header asserts WAKE_OUT (R289). -/
  | serialHeaderWake (t : Nat) (n : Fin 192)
  /-- A watch channel with Wake 3 matching its address asserts WAKE_OUT (R289). -/
  | serialAddressWake (t : Nat) (n : Fin 192)
  /-- At the first idle instant in SERVICE the watch channel moves to the PORT clock and hands its wake buffer to the parse
  context (R290). -/
  | wakeBufferHandover (t : Nat) (n : Fin 192)
  /-- A received frame is filtered into a frame stream, passed to SDO, NM or shadow matching, or counted (R297). -/
  | canFrameReceived (t : Nat) (n : Fin 16) (f : CanFrame) (m : CanMoment)
  /-- The head custody frame completes on the bus and the next frame starts (R301). -/
  | canFrameSent (t : Nat) (n : Fin 16)
  /-- A bus error updates the error counts and can enter error passive or bus-off (R304). -/
  | canError (t : Nat) (n : Fin 16) (asTx : Bool) (e : CanFault)
  /-- TXD dominant for 32 nominal bit times is forced recessive and the controller enters bus-off (R304). -/
  | txDominantTimeout (t : Nat) (n : Fin 16)
  /-- RXD dominant for Stuck time stops the controller and empties custody (R304). -/
  | canStuckDominant (t : Nat) (n : Fin 16) (edge : Nat)
  /-- RXD recessive for 11 nominal bit times ends the stuck condition (R304). -/
  | canStuckClear (t : Nat) (n : Fin 16) (edge : Nat)
  /-- A write of 1 starts bus-off recovery when AUTO_REC is 0 (R295). -/
  | recoveryRequest (t : Nat) (tr : Transport) (n : Fin 16)
  /-- After 128 occurrences of 11 recessive bits the controller leaves bus-off (R304). -/
  | busOffRecoveryComplete (t : Nat) (n : Fin 16)
  /-- Arm written 1 moves AWAKE to ARMED and starts the report timer (R307). -/
  | armSleep (t : Nat) (tr : Transport) (n : Fin 16)
  /-- Arm written 0 is a wake event and returns the channel towards AWAKE (R307). -/
  | disarmSleep (t : Nat) (tr : Transport) (n : Fin 16)
  /-- A write of 1 to Wake request is a host wake event (R310). -/
  | wakeRequest (t : Nat) (tr : Transport) (n : Fin 16)
  /-- NM timeout passes with no awake request and empty custody; the channel enters AGREED and selective listen (R307). -/
  | sleepAgreement (t : Nat) (n : Fin 16)
  /-- An armed network held awake past Report time is reported with its Keeper (R307). -/
  | reportTimerExpiry (t : Nat) (n : Fin 16)
  /-- Commit delay ends in AGREED, STB_N is released and the re-wake window starts (R307). -/
  | commitDelayExpiry (t : Nat) (n : Fin 16)
  /-- The re-wake window ends and the channel is ASLEEP with the controller stopped (R307). -/
  | rewakeWindowEnd (t : Nat) (n : Fin 16)
  /-- RXD dominant for 5 µs in COMMITTED wakes the channel into WAKING (R310). -/
  | committedBusWake (t : Nat) (n : Fin 16)
  /-- A falling CAN wake input wakes a sleeping channel or, in BIVOUAC, asserts WAKE_OUT (R309). -/
  | canWakeInput (t : Nat) (n : Fin 16)
  /-- No valid communication within T_valid counts a false wake and returns to ASLEEP or AWAKE (R307). -/
  | tValidExpiry (t : Nat) (n : Fin 16)
  /-- Each beat in the local region is one object dictionary access applied in address order (R317). -/
  | hlbLocalAccess (t : Nat) (addr : Word32) (beats : Beats) (x : Outside)
  /-- A delayed write takes effect and its repeat then completes normally (R317). -/
  | delayedWriteComplete (t : Nat) (k : Fin 4)
  /-- A completed delayed write not collected within 10 ms frees its slot (R317). -/
  | delayedWriteSlotExpiry (t : Nat) (k : Fin 4)
  /-- A remote window read claims a delayed-read slot and fetches, or takes a completed fetch or prefetch (R319). -/
  | hlbRemoteRead (t : Nat) (addr : Word32) (beats : Nat) (lock : Bool)
  /-- A remote fetch completes or fails after its attempts, filling its delayed-read slot (R319). -/
  | remoteFetchComplete (t : Nat) (k : Fin 4) (result : Remote)
  /-- A completed slot not taken within 10 ms is abandoned and its data discarded into the holding register (R319). -/
  | delayedReadAbandon (t : Nat) (k : Fin 4)
  /-- A remote window write is posted to the shared queue, or retried when it is full or locked (R322). -/
  | hlbRemoteWrite (t : Nat) (addr : Word32) (beats : List (Nat × Nat)) (lock : Bool)
  /-- A posted write completes at the target or fails and is logged (R322). -/
  | postedWriteComplete (t : Nat) (w : Fin 8) (result : Remote)
  /-- A write of 1 to Pop moves the oldest posted-write error into the read entries (R322). -/
  | postedWriteLogPop (t : Nat) (tr : Transport)
  /-- LOCK_N and CS_N high end the locked sequence and release the semaphore (R323). -/
  | lockSequenceEnd (t : Nat)
  /-- A semaphore held 10 ms with no access is released and counted (R323). -/
  | lockTimeout (t : Nat)
  /-- A PCIe request to BAR0 accesses the local object dictionary or completes with Unsupported Request (R325). -/
  | pcieBar0Access (t : Nat) (addr : Word32) (bytes : Nat) (write : Option (Word64 × Byte)) (x : Outside)
  /-- Command 1 starts a complete slot read through the selected remote window (R326). -/
  | mailboxRead (t : Nat) (w : Fin 8) (slot : Word32)
  /-- Command 2 starts a complete slot write through the selected remote window (R326). -/
  | mailboxWrite (t : Nat) (w : Fin 8) (slot : Word32) (v : Word64)
  /-- A mailbox access completes, fails or is refused, and cause [9] is set (R326). -/
  | mailboxComplete (t : Nat) (result : Remote)
  /-- Setting ENABLE starts a DMA ring (R327). -/
  | ringEnable (t : Nat) (ring : Fin 64) (v : Word32)
  /-- Clearing ENABLE of a receive ring drops the items admitted and not yet written as custody losses (R327). -/
  | ringDisable (t : Nat) (ring : Fin 64) (v : Word32)
  /-- The host hands descriptors to the RVK by writing Producer (R327). -/
  | ringProducerWrite (t : Nat) (ring : Fin 64) (v : BitVec 16) (sizes : List Nat)
  /-- When the ring's parse context can take it, a transmit descriptor is fetched and parsed or cut as a tunnel run (R330).
  -/
  | hostTxDescriptorFetch (t : Nat) (ring : Fin 32) (desc : TxDesc)
  /-- The holdoff timer expires and one MSI-X message covers the completions made meanwhile (R332). -/
  | msixHoldoffExpiry (t : Nat) (ring : Fin 64)
  /-- IDLE character times with no start edge close the open serial tunnel run (R334). -/
  | tunnelIdleGap (t : Nat) (n : Fin 192)
  /-- Power request 0x01 asks for RUN (R339). -/
  | powerRequestRun (t : Nat) (tr : Transport)
  /-- Power request 0x02 asks for TRIM, taking effect at the plan of leg k+2 (R343). -/
  | powerRequestTrim (t : Nat) (tr : Transport)
  /-- Power request 0x03 starts the drain towards BIVOUAC (R344). -/
  | powerRequestBivouac (t : Nat) (tr : Transport)
  /-- Power request 0x04 starts the drain towards SHELTER (R344). -/
  | powerRequestShelter (t : Nat) (tr : Transport)
  /-- A PWR_REQ code held stable for 10 µs under pin control is a power request (R340). -/
  | pwrReqPinRequest (t : Nat) (code : Fin 4)
  /-- After the drain the unit snapshots, hands time to the pitch keeper, arms wake sources and switches off its core
  domains (R344). -/
  | lowPowerEntry (t : Nat) (done : Nat)
  /-- A PWR_REQ change to RUN or TRIM in BIVOUAC or SHELTER wakes the unit and resumes or boots it (R347). -/
  | wakeCommand (t : Nat) (code : Fin 4) (e : BootEnv)
  /-- Under pin control a change to 0b11 in BIVOUAC moves the unit to SHELTER (R340). -/
  | pinShelter (t : Nat)
  /-- Tj at or above 125 °C asserts THERM_N and raises 0xA600 (R350). -/
  | thermAssert (t : Nat) (tj : Int)
  /-- Tj down to 120 °C releases THERM_N and clears 0xA600 (R350). -/
  | thermRelease (t : Nat) (tj : Int)
  /-- Tj at or above 140 °C for 100 µs puts the device in HOLD and journals the trip (R350). -/
  | thermalTrip (t : Nat) (tj : Int)
  /-- A rail below its threshold for 1 µs writes the last-gasp and holds the device in reset (R351). -/
  | brownOut (t : Nat) (rails : Nat) (trip : Option Int)
  /-- Rails in range for 1 ms restart boot at step 2 (R351). -/
  | brownOutRecovery (t : Nat) (e : BootEnv)
  /-- PORST_N low resets everything except RTC, tamper latches and MRAM (R364). -/
  | porstNLow (t : Nat)
  /-- SYSRST_N low for 100 ns resets every domain except keep-alive and RTC (R364). -/
  | sysrstNLow (t : Nat) (e : BootEnv)
  /-- Restoring VDD_KA after its loss resets everything volatile and marks the RTC stopped (R364). -/
  | vddKaRestore (t : Nat) (e : BootEnv)
  /-- PERST, hot reset or link down resets the PCIe domain, clearing ring enables and dropping unwritten items (R367). -/
  | pcieDomainReset (t : Nat)
  /-- HLB_CLK absent for 1 µs resets the HLB domain and abandons the access in progress (R367). -/
  | hlbClockLoss (t : Nat)
  /-- A lane losing PCS lock resets that port's receive MAC domain (R367). -/
  | lanePcsLockLoss (t : Nat) (p : Fin 5) (receiving : Bool)
  /-- A reset domain reloads its configuration by hold and flag and clears its Peer in reset bit (R366). -/
  | domainResetRelease (t : Nat) (domain : Domain)
  /-- A PLL loses lock with the effects of its table and raises 0xA610 (R357). -/
  | pllLockLoss (t : Nat) (mask : Nat)
  /-- KA_CLK_IN stopping for 2 µs switches the keep-alive domain to the RC (R355). -/
  | kaClockLoss (t : Nat) (ppm : Int)
  /-- Once per second the RC is trimmed and checked against its ±0.5% limit (R355). -/
  | rcTrim (t : Nat) (ppm : Int)
  /-- No RTC edge for 1 ms marks the RTC stopped and raises 0xA613 (R356). -/
  | rtcStopDetect (t : Nat)
  /-- The transition's fuses are burnt, staged slots written and the device reboots (R373). -/
  | transitionComplete (t : Nat) (fuseFails : Bool) (salt : Nat) (e : BootEnv)
  /-- The import writes both slot copies or is refused, and reports its result (R379). -/
  | keyImportComplete (t : Nat)
  /-- A write of n erases both copies of slot n (R381). -/
  | slotErase (t : Nat) (tr : Transport) (v : Byte)
  /-- A write of 1 to Start begins the HMAC over the challenge, serial, state and head digest (R383). -/
  | challengeStart (t : Nat) (tr : Transport)
  /-- The challenge computation ends with a response or a refusal (R383). -/
  | challengeComplete (t : Nat)
  /-- A tamper source alarms, latches and zeroises keys according to the device state (R385). -/
  | tamperAlarm (t : Nat) (source : Fin 8) (copyA : Bool) (fused : Bool)
  /-- A W1C write clears latch bits whose source no longer alarms (R388). -/
  | tamperLatchClear (t : Nat) (tr : Transport) (v : Byte) (alarming : Nat)
  /-- One leg after an interval boundary the ledger closes the interval and forms one record per valid string (R396). -/
  | ledgerIntervalClose (t : Nat)
  /-- A ledger record is signed or left UNSIGNED, chained and emitted to MRAM, the ring and a $PEUDL item (R398). -/
  | ledgerRecordSigned (t : Nat)
  /-- The snapshot interval expires and a logbook snapshot is triggered (R408). -/
  | snapshotIntervalExpiry (t : Nat)
  /-- A write of 1 to Snapshot request triggers a logbook snapshot (R408). -/
  | snapshotRequest (t : Nat) (tr : Transport)
  /-- A snapshot's copy, sequence number and CRC are written and a held trigger starts the next snapshot (R408). -/
  | snapshotComplete (t : Nat) (fault : Option Nat)
  /-- A write of Histogram select copies that histogram's bins at one instant (R414). -/
  | histogramSelect (t : Nat) (tr : Transport) (v : Byte)
  /-- A read of the export at offset 0 takes a copy of the whole export for that transport (R415). -/
  | exportSnapshot (t : Nat) (tr : Transport)
  /-- The scrubber completes a pass, correcting words and handling uncorrectable ones by location (R416). -/
  | scrubPass (t : Nat) (corrected : Nat) (bad : List (Nat × ScrubAt))
  /-- TRST_N or PORST_N resets the TAP (R425). -/
  | tapReset (t : Nat)
  /-- The BYPASS instruction selects the bypass register (R425). -/
  | bypass (t : Nat)
  /-- The IDCODE instruction returns 0x1740_8767 (R425). -/
  | idcode (t : Nat)
  /-- SAMPLE/PRELOAD samples the pins and preloads the boundary cells (R425). -/
  | samplePreload (t : Nat) (pins : List Bool) (cells : List Bool)
  /-- EXTEST enters HOLD, releases functional outputs and drives the pins from the boundary cells (R426). -/
  | extest (t : Nat) (pins : List Bool)
  /-- CLAMP enters HOLD and holds the pins from the boundary cells with bypass selected (R426). -/
  | clamp (t : Nat)
  /-- HIGHZ enters HOLD and releases every output (R426). -/
  | highz (t : Nat)
  /-- EXTEST_PULSE enters HOLD and tests AC-coupled lanes with pulses (R427). -/
  | extestPulse (t : Nat) (pins : List Bool)
  /-- EXTEST_TRAIN enters HOLD and tests AC-coupled lanes with pulse trains (R427). -/
  | extestTrain (t : Nat) (pins : List Bool)
  /-- While healthy, ALIVE_OUT toggles every 10 µs within the leg, in addition to the toggle at the start of each leg
  (R185). -/
  | aliveOutToggle (t : Nat)
  /-- CTS_N becoming asserted lets a serial transmitter stopped by CTS start its waiting character (R282). -/
  | ctsAsserted (t : Nat) (n : Fin 192)
  /-- U_DE falls one bit time after the end of the last stop bit when no further character has started (R283). -/
  | deRelease (t : Nat) (n : Fin 192)
  /-- A remote window request attempt reaches its Request timeout and is repeated with the same request ID, or the access
  fails after the last attempt (R318). -/
  | remoteRequestTimeout (t : Nat) (use : RemoteUse)
  /-- A host write to a ring's Base or Size is stored, or ignored with alert 0xA7F2 while ENABLE is 1 (R327). -/
  | ringBaseSizeWrite (t : Nat) (ring : Fin 64) (offset : Fin 64) (v : Word32)
  /-- Unmasking an MSI-X vector whose pending bit is set sends its message under the PCIe MSI-X rules (R332). -/
  | msixVectorUnmask (t : Nat) (v : Fin 32)
  /-- A PLL regains lock, letting links and the PCIe domain recover and clearing 0xA610 once every PLL in use is locked
  (R369). -/
  | pllLockRegain (t : Nat) (mask : Nat)
  /-- An RTC edge arrives after the RTC was marked stopped, so the RTC runs again and 0xA613 clears (R356). -/
  | rtcRestart (t : Nat)
  /-- Loss of VDD_KA holds the device in reset with every output released and loses every volatile state, the RTC and the
  tamper latches, leaving the device OFF (R364). -/
  | vddKaLoss (t : Nat)
  /-- Each second the junction temperature and VDD_CORE and VDD_SRAM histograms gain one count in the bin of the present
  reading (R407). -/
  | dwellSecond (t : Nat) (core : Nat) (sram : Nat)
  /-- Every 1 ms the junction temperature entry is updated and the peak junction temperature is raised when exceeded (R439).
  -/
  | temperatureSample (t : Nat) (tj : Int)
  /-- A boot held at step 2 by a thermal trip record continues once Tj falls below 125 °C (R349). -/
  | bootThermalHoldEnd (t : Nat) (tj : Int) (e : BootEnv)
  /-- A started CAN controller sees 11 consecutive recessive bits, integrates with the bus and sets SYNC (R304). -/
  | canBusIntegration (t : Nat) (n : Fin 16)
  /-- PITCH_OUT rises at the configured phase offset and falls after the configured width, subject to the quality gate
  (R155). -/
  | pitchOutEdge (t : Nat) (rising : Bool)
  /-- The active sends the next darning segment piece when the darning share allows (R224). -/
  | darningSegmentSend (t : Nat)
  /-- A read of 0x2231:01 snapshots the last-discard record and its stamp for the reading initiator (R69). -/
  | lastDiscardRead (t : Nat) (tr : Transport)
  deriving DecidableEq, Repr

end Sys2Proof
end

