-- ==== Sys2Proof/Config.lean ====
section
/-! DEFINITION. What one device fixes and the spec leaves open: opaque constants, so that nothing proved about the
model can rest on a value of theirs. Standards that the spec names without restating (SHA-256, AES, ECDSA) and the
parts of the rack image that it does not lay out are functions of this kind. -/

namespace Sys2Proof

/-- What a rack image holds beyond its header: the spec gives neither the section types nor their encoding (R44). -/
structure RackContent where
  /-- Values of P entries: index, subindex, slot value. -/
  od : List (Nat × Nat × Word64)
  /-- Contents of P DOMAIN entries. -/
  domains : List (Nat × Nat × List Byte)
  /-- Base rows: table, row number, words. -/
  rows : List (Tbl × Nat × List Word32)
  /-- Mode overlays: mode, table, row number, words (R201). -/
  overlays : List (Nat × Tbl × Nat × List Word32)
  deriving DecidableEq, Repr, Inhabited

/-- A free value: the `n`-th value the spec leaves undefined. -/
opaque Config.freeValue : Nat → Word64

/-- Whether CTS_N of a serial channel is asserted in a CORE cycle at which no command tells it (R282). -/
opaque Config.ctsLevel : Nat → Nat → Bool

/-- Whether a character is in the receive shifter of a serial channel that hears its pin, by channel and CORE cycle (R291). -/
opaque Config.rxBusy : Nat → Nat → Bool

/-- The full 64-bit device serial (R2, R370). -/
opaque Config.serial : Word64

/-- How far the ROM firmware revision lies above its lowest value 0x0001 (R2). -/
opaque Config.romRevisionAbove : Fin 0xFFFF

/-- The ROM firmware revision, 0x1018:03 [15:0]: 0x0001 or higher on B0 (R2). -/
def Config.romRevision : Nat := Config.romRevisionAbove.val + 1

/-- The sections of a rack image (R44, R46). -/
opaque Config.rackContent : List Byte → RackContent

/-- Whether a set of stream keys places a further key within 8 displacements (R99, R118): the hash functions are
internal to the device and to Kolxieb. -/
opaque Config.placeable : List Word64 → Word64 → Bool

/-- The fixed receive-path delay of a backbone port, in ns (R152: the spec names it and gives no figure). -/
opaque Config.receivePathDelay : Nat

/-- SHA-256 (R44). -/
opaque Config.sha256 : List Byte → BitVec 256

/-- HMAC-SHA-256 of a key and a message (R383). -/
opaque Config.hmac : BitVec 256 → List Byte → BitVec 256

/-- The rack verification key fused in Eundatos production test, X then Y (R371). -/
opaque Config.factoryKey : List Byte

/-- ECDSA P-256 verification of a message's signature (r, s) under a public key (R45, R372). -/
opaque Config.ecdsaVerify : List Byte → List Byte → List Byte → Bool

/-- ECDSA P-256 signature of a message under a key (R398). -/
opaque Config.ecdsaSign : BitVec 256 → List Byte → BitVec 512

/-- AES-256-GCM tag of additional data and ciphertext under a key and IV (R256, R382). -/
opaque Config.gcmTag : BitVec 256 → List Byte → List Byte → List Byte → BitVec 128

/-- AES-256-GCM keystream encryption of a plaintext under a key and IV (R382). -/
opaque Config.gcmCrypt : BitVec 256 → List Byte → List Byte → List Byte

/-- AES-CMAC under a key (R378). -/
opaque Config.cmac : BitVec 256 → List Byte → BitVec 128

/-- Unwrapping of an import package's wrapped key with a key (R379): `none` when the integrity check fails. -/
opaque Config.keyUnwrap : BitVec 256 → List Byte → Option (List Byte)

/-- The X coordinate that ECDH gives between the device's import key of a life-cycle state and a public key; `none` when
that key is no point on P-256 (R380). -/
opaque Config.ecdh : Nat → List Byte → Option (BitVec 256)

/-- The device's import public key of a life-cycle state, X then Y (R370). -/
opaque Config.importKey : Nat → BitVec 512

/-- Key derivation from a pair key for a rope session: key, context (R382). -/
opaque Config.kdf : BitVec 256 → List Byte → BitVec 256

/-- The counter number of a keep class L entry (R406: the numbering is ROM's). -/
opaque Config.counterNumber : Nat → Nat × Nat

end Sys2Proof
end

