-- ==== Sys2Proof/Machine/Dict.lean ====
section
/-! DEFINITION. The object dictionary's entries: index and subindex ranges, type, access right, default and
keep class, transcribed row by row from the entry tables of the spec (R22 to R25; each row names its rule). -/

namespace Sys2Proof.Machine

/-- Entry types (R23). -/
inductive OdType where
  | bool | u8 | u16 | u32 | u64 | i32 | i64 | phase | stamp | domain
  deriving DecidableEq, Repr

/-- Access rights (R24). -/
inductive OdAccess where
  | ro | rw | wo | rwc | const
  deriving DecidableEq, Repr

/-- Keep classes (R25). -/
inductive OdKeep where
  | P | V | M | L
  deriving DecidableEq, Repr

/-- One row of the dictionary: every index of `[ilo, ihi]` has every subindex of `[slo, shi]` with these properties. -/
structure OdRow where
  ilo : Nat
  ihi : Nat
  slo : Nat
  shi : Nat
  ty : OdType
  acc : OdAccess
  dflt : Nat
  keep : OdKeep
  deriving DecidableEq, Repr

/-- Bytes of a value of a type in an SDO or OD-access transfer (R23, R261). -/
def OdType.size : OdType → Nat
  | .bool | .u8 => 1 | .u16 => 2 | .u32 | .i32 | .phase => 4 | .u64 | .i64 | .stamp => 8
  | .domain => 0

/-- Whether a value fills both words of its slot (R27). -/
def OdType.wide : OdType → Bool
  | .u64 | .i64 | .stamp => true | _ => false

/-- The values that the type alone admits (R23). -/
def OdType.fits (t : OdType) (v : Nat) : Bool :=
  match t with
  | .bool => v < 2 | .u8 => v < 2 ^ 8 | .u16 => v < 2 ^ 16 | .u32 | .i32 => v < 2 ^ 32
  | .phase => v < 2 ^ 24 | .u64 | .i64 | .stamp => v < 2 ^ 64 | .domain => false

/-- Entries 0x1001 to 0x1C04: R2, R22, R31, R40, R251, R262, R263. -/
def dictIdentity : List OdRow := [
  ⟨0x1001, 0x1001, 0x0, 0x0, .u8, .ro, 0x0, .V⟩,
  ⟨0x1018, 0x1018, 0x0, 0x0, .u8, .const, 0x4, .P⟩,
  ⟨0x1018, 0x1018, 0x1, 0x1, .u32, .const, 0x455544, .P⟩,
  ⟨0x1018, 0x1018, 0x2, 0x2, .u32, .const, 0x7408, .P⟩,
  ⟨0x1018, 0x1018, 0x3, 0x3, .u32, .const, 0x0, .P⟩,
  ⟨0x1018, 0x1018, 0x4, 0x4, .u32, .const, 0x0, .P⟩,
  ⟨0x1C00, 0x1C00, 0x0, 0x0, .u8, .const, 0x1F, .P⟩,
  ⟨0x1C00, 0x1C00, 0x1, 0x1, .u32, .rw, 0x0, .V⟩,
  ⟨0x1C00, 0x1C00, 0x2, 0x2, .u8, .wo, 0x0, .V⟩,
  ⟨0x1C00, 0x1C00, 0x3, 0x3, .u8, .ro, 0x0, .V⟩,
  ⟨0x1C00, 0x1C00, 0x4, 0x4, .u8, .rw, 0x0, .V⟩,
  ⟨0x1C00, 0x1C00, 0x10, 0x1F, .u32, .rw, 0x0, .V⟩,
  ⟨0x1C01, 0x1C01, 0x0, 0x0, .u8, .const, 0x1F, .P⟩,
  ⟨0x1C01, 0x1C01, 0x1, 0x1, .u32, .rw, 0x0, .V⟩,
  ⟨0x1C01, 0x1C01, 0x2, 0x2, .u8, .wo, 0x0, .V⟩,
  ⟨0x1C01, 0x1C01, 0x3, 0x3, .u8, .ro, 0x0, .V⟩,
  ⟨0x1C01, 0x1C01, 0x4, 0x4, .u8, .rw, 0x0, .V⟩,
  ⟨0x1C01, 0x1C01, 0x10, 0x1F, .u32, .rw, 0x0, .V⟩,
  ⟨0x1C02, 0x1C02, 0x0, 0x0, .u8, .const, 0x10, .P⟩,
  ⟨0x1C02, 0x1C02, 0x1, 0x10, .u64, .rwc, 0x0, .P⟩,
  ⟨0x1C03, 0x1C03, 0x0, 0x0, .u8, .const, 0x5, .P⟩,
  ⟨0x1C03, 0x1C03, 0x1, 0x4, .u32, .rwc, 0x0, .P⟩,
  ⟨0x1C03, 0x1C03, 0x5, 0x5, .u64, .rwc, 0x0, .P⟩,
  ⟨0x1C04, 0x1C04, 0x0, 0x0, .u8, .const, 0x7, .P⟩,
  ⟨0x1C04, 0x1C04, 0x1, 0x1, .u64, .ro, 0x0, .L⟩,
  ⟨0x1C04, 0x1C04, 0x2, 0x2, .u64, .ro, 0x0, .L⟩,
  ⟨0x1C04, 0x1C04, 0x3, 0x3, .u64, .ro, 0x0, .L⟩,
  ⟨0x1C04, 0x1C04, 0x4, 0x4, .u64, .ro, 0x0, .L⟩,
  ⟨0x1C04, 0x1C04, 0x5, 0x5, .u64, .ro, 0x0, .L⟩,
  ⟨0x1C04, 0x1C04, 0x6, 0x6, .u64, .ro, 0x0, .L⟩,
  ⟨0x1C04, 0x1C04, 0x7, 0x7, .u64, .ro, 0x0, .L⟩]

/-- Entries 0x2000 to 0x2007: R11, R22, R34, R37, R41, R47, R339, R342, R358, R365, R439. -/
def dictUnit1 : List OdRow := [
  ⟨0x2000, 0x2000, 0x0, 0x0, .u8, .const, 0x10, .P⟩,
  ⟨0x2000, 0x2000, 0x1, 0x1, .u8, .ro, 0x0, .V⟩,
  ⟨0x2000, 0x2000, 0x2, 0x2, .u8, .wo, 0x0, .V⟩,
  ⟨0x2000, 0x2000, 0x3, 0x3, .u8, .ro, 0x0, .V⟩,
  ⟨0x2000, 0x2000, 0x4, 0x4, .u32, .rwc, 0x0, .P⟩,
  ⟨0x2000, 0x2000, 0x5, 0x5, .u16, .ro, 0xFFFF, .V⟩,
  ⟨0x2000, 0x2000, 0x6, 0x6, .u8, .rwc, 0x0, .P⟩,
  ⟨0x2000, 0x2000, 0x7, 0x7, .u8, .rwc, 0x40, .P⟩,
  ⟨0x2000, 0x2000, 0x8, 0x8, .u8, .rwc, 0xFF, .P⟩,
  ⟨0x2000, 0x2000, 0x9, 0x9, .bool, .rwc, 0x0, .P⟩,
  ⟨0x2000, 0x2000, 0xA, 0xA, .u32, .ro, 0x0, .V⟩,
  ⟨0x2000, 0x2000, 0xB, 0xB, .u64, .ro, 0x0, .V⟩,
  ⟨0x2000, 0x2000, 0xC, 0xC, .u32, .ro, 0x0, .V⟩,
  ⟨0x2000, 0x2000, 0xD, 0xD, .u32, .ro, 0x0, .V⟩,
  ⟨0x2000, 0x2000, 0xE, 0xE, .u64, .ro, 0x0, .V⟩,
  ⟨0x2000, 0x2000, 0x10, 0x10, .u32, .rwc, 0xF, .P⟩,
  ⟨0x2001, 0x2001, 0x0, 0x0, .u8, .const, 0x8, .P⟩,
  ⟨0x2001, 0x2001, 0x1, 0x1, .u8, .wo, 0x0, .V⟩,
  ⟨0x2001, 0x2001, 0x2, 0x2, .u8, .ro, 0x1, .V⟩,
  ⟨0x2001, 0x2001, 0x3, 0x3, .u8, .ro, 0x0, .V⟩,
  ⟨0x2001, 0x2001, 0x4, 0x4, .bool, .rwc, 0x0, .P⟩,
  ⟨0x2001, 0x2001, 0x5, 0x5, .u8, .ro, 0x0, .V⟩,
  ⟨0x2001, 0x2001, 0x6, 0x6, .u32, .ro, 0x0, .V⟩,
  ⟨0x2001, 0x2001, 0x7, 0x7, .stamp, .ro, 0x0, .V⟩,
  ⟨0x2001, 0x2001, 0x8, 0x8, .bool, .rwc, 0x0, .P⟩,
  ⟨0x2002, 0x2002, 0x0, 0x0, .u8, .const, 0x7, .P⟩,
  ⟨0x2002, 0x2002, 0x1, 0x7, .u32, .rw, 0x0, .P⟩,
  ⟨0x2005, 0x2005, 0x0, 0x0, .u8, .const, 0x7, .P⟩,
  ⟨0x2005, 0x2005, 0x1, 0x1, .u32, .ro, 0x0, .V⟩,
  ⟨0x2005, 0x2005, 0x2, 0x2, .u8, .ro, 0x0, .V⟩,
  ⟨0x2005, 0x2005, 0x3, 0x3, .i32, .ro, 0x0, .V⟩,
  ⟨0x2005, 0x2005, 0x4, 0x4, .u8, .ro, 0x0, .V⟩,
  ⟨0x2005, 0x2005, 0x5, 0x5, .u32, .ro, 0x0, .V⟩,
  ⟨0x2005, 0x2005, 0x6, 0x6, .u64, .ro, 0x0, .L⟩,
  ⟨0x2005, 0x2005, 0x7, 0x7, .u64, .ro, 0x0, .L⟩,
  ⟨0x2006, 0x2006, 0x0, 0x0, .u8, .const, 0x2, .P⟩,
  ⟨0x2006, 0x2006, 0x1, 0x1, .u8, .ro, 0x0, .V⟩,
  ⟨0x2006, 0x2006, 0x2, 0x2, .u64, .ro, 0x0, .L⟩,
  ⟨0x2007, 0x2007, 0x0, 0x0, .u8, .const, 0x2, .P⟩,
  ⟨0x2007, 0x2007, 0x1, 0x1, .i32, .ro, 0x0, .V⟩]

/-- Entries 0x2007 to 0x2020: R22, R30, R48, R201, R439. -/
def dictUnit2 : List OdRow := [
  ⟨0x2007, 0x2007, 0x2, 0x2, .i32, .rw, 0xFFFFFFD8, .V⟩,
  ⟨0x2010, 0x2010, 0x0, 0x0, .u8, .const, 0x5, .P⟩,
  ⟨0x2010, 0x2010, 0x1, 0x1, .u32, .rw, 0x0, .V⟩,
  ⟨0x2010, 0x2010, 0x2, 0x2, .u32, .rw, 0x0, .V⟩,
  ⟨0x2010, 0x2010, 0x3, 0x3, .u32, .rw, 0x0, .V⟩,
  ⟨0x2010, 0x2010, 0x4, 0x4, .u8, .wo, 0x0, .V⟩,
  ⟨0x2010, 0x2010, 0x5, 0x5, .u8, .ro, 0x0, .V⟩,
  ⟨0x2011, 0x2011, 0x0, 0x0, .u8, .const, 0x3, .P⟩,
  ⟨0x2011, 0x2011, 0x1, 0x1, .domain, .rw, 0x0, .V⟩,
  ⟨0x2011, 0x2011, 0x2, 0x2, .u8, .rw, 0x1, .V⟩,
  ⟨0x2011, 0x2011, 0x3, 0x3, .u8, .ro, 0x0, .V⟩,
  ⟨0x2020, 0x2020, 0x0, 0x0, .u8, .const, 0x6, .P⟩,
  ⟨0x2020, 0x2020, 0x1, 0x1, .u8, .ro, 0x0, .M⟩,
  ⟨0x2020, 0x2020, 0x2, 0x2, .u32, .ro, 0x0, .M⟩,
  ⟨0x2020, 0x2020, 0x3, 0x3, .u8, .rw, 0x0, .V⟩,
  ⟨0x2020, 0x2020, 0x4, 0x4, .stamp, .wo, 0x0, .V⟩,
  ⟨0x2020, 0x2020, 0x5, 0x5, .u8, .rw, 0x0, .V⟩,
  ⟨0x2020, 0x2020, 0x6, 0x6, .u8, .ro, 0x0, .V⟩]

/-- Entries 0x2100 to 0x2111: R138, R155, R156. -/
def dictPitch : List OdRow := [
  ⟨0x2100, 0x2100, 0x0, 0x0, .u8, .const, 0xF, .P⟩,
  ⟨0x2100, 0x2100, 0x1, 0x1, .u8, .rwc, 0x1, .P⟩,
  ⟨0x2100, 0x2100, 0x2, 0x2, .u8, .rwc, 0x0, .P⟩,
  ⟨0x2100, 0x2100, 0x3, 0x3, .u32, .rwc, 0xBEBC200, .P⟩,
  ⟨0x2100, 0x2100, 0x4, 0x4, .u32, .rwc, 0xBE8B4C0, .P⟩,
  ⟨0x2100, 0x2100, 0x5, 0x5, .u32, .rwc, 0xBEECF40, .P⟩,
  ⟨0x2100, 0x2100, 0x6, 0x6, .u8, .rwc, 0xA, .P⟩,
  ⟨0x2100, 0x2100, 0x7, 0x7, .u8, .rwc, 0x4, .P⟩,
  ⟨0x2100, 0x2100, 0x8, 0x8, .u8, .rwc, 0x10, .P⟩,
  ⟨0x2100, 0x2100, 0x9, 0x9, .u32, .rwc, 0x20014, .P⟩,
  ⟨0x2100, 0x2100, 0xA, 0xA, .u32, .rwc, 0x1000, .P⟩,
  ⟨0x2100, 0x2100, 0xB, 0xB, .u16, .rwc, 0xA, .P⟩,
  ⟨0x2100, 0x2100, 0xC, 0xC, .u16, .rwc, 0x0, .P⟩,
  ⟨0x2100, 0x2100, 0xD, 0xD, .i32, .rwc, 0x0, .P⟩,
  ⟨0x2100, 0x2100, 0xE, 0xE, .bool, .rwc, 0x0, .P⟩,
  ⟨0x2100, 0x2100, 0xF, 0xF, .u8, .rwc, 0xA, .P⟩,
  ⟨0x2101, 0x2101, 0x0, 0x0, .u8, .const, 0x4, .P⟩,
  ⟨0x2101, 0x2101, 0x1, 0x1, .u8, .rw, 0x0, .P⟩,
  ⟨0x2101, 0x2101, 0x2, 0x2, .phase, .rw, 0x0, .P⟩,
  ⟨0x2101, 0x2101, 0x3, 0x3, .u32, .rw, 0x4E20, .P⟩,
  ⟨0x2101, 0x2101, 0x4, 0x4, .u8, .rw, 0x1, .P⟩,
  ⟨0x2110, 0x2110, 0x0, 0x0, .u8, .const, 0x9, .P⟩,
  ⟨0x2110, 0x2110, 0x1, 0x1, .stamp, .ro, 0x0, .V⟩,
  ⟨0x2110, 0x2110, 0x2, 0x2, .u8, .ro, 0x0, .V⟩,
  ⟨0x2110, 0x2110, 0x3, 0x3, .u8, .ro, 0x2, .V⟩,
  ⟨0x2110, 0x2110, 0x4, 0x4, .u32, .ro, 0x0, .V⟩,
  ⟨0x2110, 0x2110, 0x5, 0x5, .i32, .ro, 0x0, .V⟩,
  ⟨0x2110, 0x2110, 0x6, 0x6, .u8, .ro, 0x0, .V⟩,
  ⟨0x2110, 0x2110, 0x7, 0x7, .u8, .ro, 0x0, .V⟩,
  ⟨0x2110, 0x2110, 0x8, 0x8, .u8, .ro, 0x0, .V⟩,
  ⟨0x2110, 0x2110, 0x9, 0x9, .i32, .ro, 0x0, .V⟩,
  ⟨0x2111, 0x2111, 0x0, 0x0, .u8, .const, 0x8, .P⟩,
  ⟨0x2111, 0x2111, 0x1, 0x1, .u64, .ro, 0x0, .L⟩,
  ⟨0x2111, 0x2111, 0x2, 0x2, .u64, .ro, 0x0, .L⟩,
  ⟨0x2111, 0x2111, 0x3, 0x3, .u64, .ro, 0x0, .L⟩,
  ⟨0x2111, 0x2111, 0x4, 0x4, .u64, .ro, 0x0, .L⟩,
  ⟨0x2111, 0x2111, 0x5, 0x5, .u64, .ro, 0x0, .L⟩,
  ⟨0x2111, 0x2111, 0x6, 0x6, .u64, .ro, 0x0, .L⟩,
  ⟨0x2111, 0x2111, 0x7, 0x7, .u64, .ro, 0x0, .L⟩,
  ⟨0x2111, 0x2111, 0x8, 0x8, .u64, .ro, 0x0, .L⟩]

/-- Entries 0x2212 to 0x2234: R68, R69, R71, R93. -/
def dictEngine1 : List OdRow := [
  ⟨0x2212, 0x2212, 0x0, 0x0, .u8, .const, 0x3, .P⟩,
  ⟨0x2212, 0x2212, 0x1, 0x1, .u32, .rwc, 0x3FFFD, .P⟩,
  ⟨0x2212, 0x2212, 0x2, 0x2, .u32, .rwc, 0x3FFFE, .P⟩,
  ⟨0x2212, 0x2212, 0x3, 0x3, .u32, .rwc, 0x3FFFF, .P⟩,
  ⟨0x2220, 0x2220, 0x0, 0x0, .u8, .const, 0x8, .P⟩,
  ⟨0x2220, 0x2220, 0x1, 0x1, .u16, .ro, 0x0, .V⟩,
  ⟨0x2220, 0x2220, 0x2, 0x2, .u16, .rw, 0x0, .V⟩,
  ⟨0x2220, 0x2220, 0x3, 0x3, .u16, .ro, 0x32C, .V⟩,
  ⟨0x2220, 0x2220, 0x4, 0x4, .u32, .rw, 0x0, .V⟩,
  ⟨0x2220, 0x2220, 0x5, 0x5, .u64, .ro, 0x0, .L⟩,
  ⟨0x2220, 0x2220, 0x6, 0x6, .u64, .ro, 0x0, .L⟩,
  ⟨0x2220, 0x2220, 0x7, 0x7, .u64, .ro, 0x0, .L⟩,
  ⟨0x2220, 0x2220, 0x8, 0x8, .u64, .ro, 0x0, .L⟩,
  ⟨0x2230, 0x2230, 0x0, 0x0, .u8, .const, 0x6, .P⟩,
  ⟨0x2230, 0x2230, 0x1, 0x1, .u64, .ro, 0x0, .L⟩,
  ⟨0x2230, 0x2230, 0x2, 0x2, .u64, .ro, 0x0, .L⟩,
  ⟨0x2230, 0x2230, 0x3, 0x3, .u64, .ro, 0x0, .L⟩,
  ⟨0x2230, 0x2230, 0x4, 0x4, .u64, .ro, 0x0, .L⟩,
  ⟨0x2230, 0x2230, 0x5, 0x5, .u64, .ro, 0x0, .L⟩,
  ⟨0x2230, 0x2230, 0x6, 0x6, .u64, .ro, 0x0, .L⟩,
  ⟨0x2231, 0x2231, 0x0, 0x0, .u8, .const, 0x2, .P⟩,
  ⟨0x2231, 0x2231, 0x1, 0x1, .u32, .ro, 0x0, .V⟩,
  ⟨0x2231, 0x2231, 0x2, 0x2, .stamp, .ro, 0x0, .V⟩,
  ⟨0x2232, 0x2232, 0x0, 0x0, .u8, .const, 0x8, .P⟩,
  ⟨0x2232, 0x2232, 0x1, 0x1, .u64, .ro, 0x0, .L⟩,
  ⟨0x2232, 0x2232, 0x2, 0x2, .u64, .ro, 0x0, .L⟩,
  ⟨0x2232, 0x2232, 0x3, 0x3, .u64, .ro, 0x0, .L⟩,
  ⟨0x2232, 0x2232, 0x4, 0x4, .u64, .ro, 0x0, .L⟩,
  ⟨0x2232, 0x2232, 0x5, 0x5, .u64, .ro, 0x0, .L⟩,
  ⟨0x2232, 0x2232, 0x6, 0x6, .u64, .ro, 0x0, .L⟩,
  ⟨0x2232, 0x2232, 0x7, 0x7, .u64, .ro, 0x0, .L⟩,
  ⟨0x2232, 0x2232, 0x8, 0x8, .u64, .ro, 0x0, .L⟩,
  ⟨0x2233, 0x2233, 0x0, 0x0, .u8, .const, 0x3, .P⟩,
  ⟨0x2233, 0x2233, 0x1, 0x1, .u64, .ro, 0x0, .L⟩,
  ⟨0x2233, 0x2233, 0x2, 0x2, .u16, .ro, 0x0, .V⟩,
  ⟨0x2233, 0x2233, 0x3, 0x3, .u64, .ro, 0x0, .L⟩,
  ⟨0x2234, 0x2234, 0x0, 0x0, .u8, .const, 0x8, .P⟩,
  ⟨0x2234, 0x2234, 0x1, 0x1, .u64, .ro, 0x0, .L⟩,
  ⟨0x2234, 0x2234, 0x2, 0x2, .u64, .ro, 0x0, .L⟩,
  ⟨0x2234, 0x2234, 0x3, 0x3, .u64, .ro, 0x0, .L⟩]

/-- Entries 0x2234 to 0x2250: R22, R31, R74, R93. -/
def dictEngine2 : List OdRow := [
  ⟨0x2234, 0x2234, 0x4, 0x4, .u64, .ro, 0x0, .L⟩,
  ⟨0x2234, 0x2234, 0x5, 0x5, .u64, .ro, 0x0, .L⟩,
  ⟨0x2234, 0x2234, 0x6, 0x6, .u64, .ro, 0x0, .L⟩,
  ⟨0x2234, 0x2234, 0x7, 0x7, .u64, .ro, 0x0, .L⟩,
  ⟨0x2234, 0x2234, 0x8, 0x8, .u64, .ro, 0x0, .L⟩,
  ⟨0x2240, 0x2247, 0x0, 0x0, .u8, .const, 0x2, .P⟩,
  ⟨0x2240, 0x2247, 0x1, 0x1, .u32, .rwc, 0x11, .P⟩,
  ⟨0x2240, 0x2247, 0x2, 0x2, .u32, .rwc, 0x186A0, .P⟩,
  ⟨0x2248, 0x2248, 0x0, 0x0, .u8, .const, 0xF4, .P⟩,
  ⟨0x2248, 0x2248, 0x1, 0xF4, .u8, .rwc, 0x0, .P⟩,
  ⟨0x2250, 0x2250, 0x0, 0x0, .u8, .const, 0x1F, .P⟩,
  ⟨0x2250, 0x2250, 0x1, 0x1, .u32, .rw, 0x0, .V⟩,
  ⟨0x2250, 0x2250, 0x2, 0x2, .u8, .wo, 0x0, .V⟩,
  ⟨0x2250, 0x2250, 0x3, 0x3, .u8, .ro, 0x0, .V⟩,
  ⟨0x2250, 0x2250, 0x4, 0x4, .u8, .rw, 0x0, .V⟩,
  ⟨0x2250, 0x2250, 0x10, 0x1F, .u32, .rw, 0x0, .V⟩]

/-- Entries 0x2300 to 0x2308: R22, R31, R106, R114, R118. -/
def dictStream1 : List OdRow := [
  ⟨0x2300, 0x2300, 0x0, 0x0, .u8, .const, 0x1F, .P⟩,
  ⟨0x2300, 0x2300, 0x1, 0x1, .u32, .rw, 0x0, .V⟩,
  ⟨0x2300, 0x2300, 0x2, 0x2, .u8, .wo, 0x0, .V⟩,
  ⟨0x2300, 0x2300, 0x3, 0x3, .u8, .ro, 0x0, .V⟩,
  ⟨0x2300, 0x2300, 0x4, 0x4, .u8, .rw, 0x0, .V⟩,
  ⟨0x2300, 0x2300, 0x10, 0x1F, .u32, .rw, 0x0, .V⟩,
  ⟨0x2301, 0x2301, 0x0, 0x0, .u8, .const, 0x6, .P⟩,
  ⟨0x2301, 0x2301, 0x1, 0x1, .u16, .ro, 0x0, .V⟩,
  ⟨0x2301, 0x2301, 0x2, 0x2, .stamp, .wo, 0x0, .V⟩,
  ⟨0x2301, 0x2301, 0x3, 0x3, .u8, .ro, 0x0, .V⟩,
  ⟨0x2301, 0x2301, 0x4, 0x4, .u8, .wo, 0x0, .V⟩,
  ⟨0x2301, 0x2301, 0x5, 0x5, .u8, .ro, 0x0, .V⟩,
  ⟨0x2301, 0x2301, 0x6, 0x6, .stamp, .ro, 0x0, .V⟩,
  ⟨0x2302, 0x2302, 0x0, 0x0, .u8, .const, 0x1F, .P⟩,
  ⟨0x2302, 0x2302, 0x1, 0x1, .u32, .rw, 0x0, .V⟩,
  ⟨0x2302, 0x2302, 0x2, 0x2, .u8, .wo, 0x0, .V⟩,
  ⟨0x2302, 0x2302, 0x3, 0x3, .u8, .ro, 0x0, .V⟩,
  ⟨0x2302, 0x2302, 0x4, 0x4, .u8, .rw, 0x0, .V⟩,
  ⟨0x2302, 0x2302, 0x10, 0x1F, .u32, .rw, 0x0, .V⟩,
  ⟨0x2304, 0x2304, 0x0, 0x0, .u8, .const, 0x26, .P⟩,
  ⟨0x2304, 0x2304, 0x1, 0x26, .u32, .rwc, 0x0, .P⟩,
  ⟨0x2305, 0x2305, 0x0, 0x0, .u8, .const, 0x1F, .P⟩,
  ⟨0x2305, 0x2305, 0x1, 0x1F, .u32, .rwc, 0x0, .P⟩,
  ⟨0x2306, 0x2306, 0x0, 0x0, .u8, .const, 0x8, .P⟩,
  ⟨0x2306, 0x2306, 0x1, 0x8, .u8, .rwc, 0xFF, .P⟩,
  ⟨0x2307, 0x2307, 0x0, 0x0, .u8, .const, 0x1F, .P⟩,
  ⟨0x2307, 0x2307, 0x1, 0x1, .u32, .rw, 0x0, .V⟩,
  ⟨0x2307, 0x2307, 0x2, 0x2, .u8, .wo, 0x0, .V⟩,
  ⟨0x2307, 0x2307, 0x3, 0x3, .u8, .ro, 0x0, .V⟩,
  ⟨0x2307, 0x2307, 0x4, 0x4, .u8, .rw, 0x0, .V⟩,
  ⟨0x2307, 0x2307, 0x10, 0x1F, .u32, .rw, 0x0, .V⟩,
  ⟨0x2308, 0x2308, 0x0, 0x0, .u8, .const, 0xA, .P⟩,
  ⟨0x2308, 0x2308, 0x1, 0x1, .bool, .rw, 0x1, .P⟩,
  ⟨0x2308, 0x2308, 0x2, 0x2, .u8, .ro, 0x0, .V⟩,
  ⟨0x2308, 0x2308, 0x3, 0x3, .u8, .rw, 0x0, .V⟩,
  ⟨0x2308, 0x2308, 0x4, 0x4, .u64, .ro, 0x0, .V⟩,
  ⟨0x2308, 0x2308, 0x5, 0x5, .u64, .ro, 0x0, .V⟩,
  ⟨0x2308, 0x2308, 0x6, 0x6, .stamp, .ro, 0x0, .V⟩,
  ⟨0x2308, 0x2308, 0x7, 0x7, .stamp, .ro, 0x0, .V⟩,
  ⟨0x2308, 0x2308, 0x8, 0x8, .u32, .ro, 0x0, .V⟩]

/-- Entries 0x2308 to 0x2311: R22, R31, R106, R121. -/
def dictStream2 : List OdRow := [
  ⟨0x2308, 0x2308, 0x9, 0x9, .u8, .wo, 0x0, .V⟩,
  ⟨0x2308, 0x2308, 0xA, 0xA, .u64, .ro, 0x0, .L⟩,
  ⟨0x2309, 0x2309, 0x0, 0x0, .u8, .const, 0x1F, .P⟩,
  ⟨0x2309, 0x2309, 0x1, 0x1, .u32, .rw, 0x0, .V⟩,
  ⟨0x2309, 0x2309, 0x2, 0x2, .u8, .wo, 0x0, .V⟩,
  ⟨0x2309, 0x2309, 0x3, 0x3, .u8, .ro, 0x0, .V⟩,
  ⟨0x2309, 0x2309, 0x4, 0x4, .u8, .rw, 0x0, .V⟩,
  ⟨0x2309, 0x2309, 0x10, 0x1F, .u32, .rw, 0x0, .V⟩,
  ⟨0x2310, 0x2310, 0x0, 0x0, .u8, .const, 0xA, .P⟩,
  ⟨0x2310, 0x2310, 0x1, 0x1, .u64, .ro, 0x0, .L⟩,
  ⟨0x2310, 0x2310, 0x2, 0x2, .u64, .ro, 0x0, .L⟩,
  ⟨0x2310, 0x2310, 0x3, 0x3, .u64, .ro, 0x0, .L⟩,
  ⟨0x2310, 0x2310, 0x4, 0x4, .u64, .ro, 0x0, .L⟩,
  ⟨0x2310, 0x2310, 0x5, 0x5, .u64, .ro, 0x0, .L⟩,
  ⟨0x2310, 0x2310, 0x6, 0x6, .u64, .ro, 0x0, .L⟩,
  ⟨0x2310, 0x2310, 0x7, 0x7, .u64, .ro, 0x0, .L⟩,
  ⟨0x2310, 0x2310, 0x8, 0x8, .u64, .ro, 0x0, .L⟩,
  ⟨0x2310, 0x2310, 0x9, 0x9, .u64, .ro, 0x0, .L⟩,
  ⟨0x2310, 0x2310, 0xA, 0xA, .u64, .ro, 0x0, .L⟩,
  ⟨0x2311, 0x2311, 0x0, 0x0, .u8, .const, 0x1F, .P⟩,
  ⟨0x2311, 0x2311, 0x1, 0x1, .u32, .rw, 0x0, .V⟩,
  ⟨0x2311, 0x2311, 0x2, 0x2, .u8, .wo, 0x0, .V⟩,
  ⟨0x2311, 0x2311, 0x3, 0x3, .u8, .ro, 0x0, .V⟩,
  ⟨0x2311, 0x2311, 0x4, 0x4, .u8, .rw, 0x0, .V⟩,
  ⟨0x2311, 0x2311, 0x10, 0x1F, .u32, .rw, 0x0, .V⟩]

/-- Entries 0x2400 to 0x2410: R22, R31, R136. -/
def dictGroups : List OdRow := [
  ⟨0x2400, 0x2400, 0x0, 0x0, .u8, .const, 0x1F, .P⟩,
  ⟨0x2400, 0x2400, 0x1, 0x1, .u32, .rw, 0x0, .V⟩,
  ⟨0x2400, 0x2400, 0x2, 0x2, .u8, .wo, 0x0, .V⟩,
  ⟨0x2400, 0x2400, 0x3, 0x3, .u8, .ro, 0x0, .V⟩,
  ⟨0x2400, 0x2400, 0x4, 0x4, .u8, .rw, 0x0, .V⟩,
  ⟨0x2400, 0x2400, 0x10, 0x1F, .u32, .rw, 0x0, .V⟩,
  ⟨0x2410, 0x2410, 0x0, 0x0, .u8, .const, 0x7, .P⟩,
  ⟨0x2410, 0x2410, 0x1, 0x1, .u64, .ro, 0x0, .L⟩,
  ⟨0x2410, 0x2410, 0x2, 0x2, .u64, .ro, 0x0, .L⟩,
  ⟨0x2410, 0x2410, 0x3, 0x3, .u64, .ro, 0x0, .L⟩,
  ⟨0x2410, 0x2410, 0x4, 0x4, .u64, .ro, 0x0, .L⟩,
  ⟨0x2410, 0x2410, 0x5, 0x5, .u64, .ro, 0x0, .L⟩,
  ⟨0x2410, 0x2410, 0x6, 0x6, .u64, .ro, 0x0, .L⟩,
  ⟨0x2410, 0x2410, 0x7, 0x7, .u64, .ro, 0x0, .L⟩]

/-- Entries 0x2500 to 0x2530: R22, R31, R165, R177, R179. -/
def dictAdmission : List OdRow := [
  ⟨0x2500, 0x2500, 0x0, 0x0, .u8, .const, 0x1, .P⟩,
  ⟨0x2500, 0x2500, 0x1, 0x1, .u16, .rwc, 0x400, .P⟩,
  ⟨0x2502, 0x2502, 0x0, 0x0, .u8, .const, 0x4, .P⟩,
  ⟨0x2502, 0x2502, 0x1, 0x4, .u16, .rwc, 0x0, .P⟩,
  ⟨0x2510, 0x2510, 0x0, 0x0, .u8, .const, 0x7, .P⟩,
  ⟨0x2510, 0x2510, 0x1, 0x1, .u64, .ro, 0x0, .L⟩,
  ⟨0x2510, 0x2510, 0x2, 0x2, .u64, .ro, 0x0, .L⟩,
  ⟨0x2510, 0x2510, 0x3, 0x3, .u64, .ro, 0x0, .L⟩,
  ⟨0x2510, 0x2510, 0x4, 0x4, .u64, .ro, 0x0, .L⟩,
  ⟨0x2510, 0x2510, 0x5, 0x5, .u64, .ro, 0x0, .L⟩,
  ⟨0x2510, 0x2510, 0x6, 0x6, .u64, .ro, 0x0, .L⟩,
  ⟨0x2510, 0x2510, 0x7, 0x7, .u64, .ro, 0x0, .L⟩,
  ⟨0x2512, 0x2512, 0x0, 0x0, .u8, .const, 0x3, .P⟩,
  ⟨0x2512, 0x2512, 0x1, 0x1, .u16, .rw, 0x0, .V⟩,
  ⟨0x2512, 0x2512, 0x2, 0x2, .u32, .ro, 0x0, .V⟩,
  ⟨0x2512, 0x2512, 0x3, 0x3, .u32, .rw, 0x0, .V⟩,
  ⟨0x2520, 0x2520, 0x0, 0x0, .u8, .const, 0x1F, .P⟩,
  ⟨0x2520, 0x2520, 0x1, 0x1, .u32, .rw, 0x0, .V⟩,
  ⟨0x2520, 0x2520, 0x2, 0x2, .u8, .wo, 0x0, .V⟩,
  ⟨0x2520, 0x2520, 0x3, 0x3, .u8, .ro, 0x0, .V⟩,
  ⟨0x2520, 0x2520, 0x4, 0x4, .u8, .rw, 0x0, .V⟩,
  ⟨0x2520, 0x2520, 0x10, 0x1F, .u32, .rw, 0x0, .V⟩,
  ⟨0x2530, 0x2530, 0x0, 0x0, .u8, .const, 0x1F, .P⟩,
  ⟨0x2530, 0x2530, 0x1, 0x1, .u32, .rw, 0x0, .V⟩,
  ⟨0x2530, 0x2530, 0x2, 0x2, .u8, .wo, 0x0, .V⟩,
  ⟨0x2530, 0x2530, 0x3, 0x3, .u8, .ro, 0x0, .V⟩,
  ⟨0x2530, 0x2530, 0x4, 0x4, .u8, .rw, 0x0, .V⟩,
  ⟨0x2530, 0x2530, 0x10, 0x1F, .u32, .rw, 0x0, .V⟩]

/-- Entries 0x2600 to 0x2604: R189, R205, R230. -/
def dictRope1 : List OdRow := [
  ⟨0x2600, 0x2600, 0x0, 0x0, .u8, .const, 0x6, .P⟩,
  ⟨0x2600, 0x2600, 0x1, 0x1, .u8, .ro, 0x0, .V⟩,
  ⟨0x2600, 0x2600, 0x2, 0x2, .u32, .ro, 0x0, .V⟩,
  ⟨0x2600, 0x2600, 0x3, 0x3, .u16, .rwc, 0x7D0, .P⟩,
  ⟨0x2600, 0x2600, 0x4, 0x4, .u32, .rwc, 0xBB8, .P⟩,
  ⟨0x2600, 0x2600, 0x5, 0x5, .u16, .ro, 0xFFFF, .V⟩,
  ⟨0x2600, 0x2600, 0x6, 0x6, .stamp, .ro, 0x0, .V⟩,
  ⟨0x2601, 0x2601, 0x0, 0x0, .u8, .const, 0xA, .P⟩,
  ⟨0x2601, 0x2601, 0x1, 0x1, .u64, .ro, 0x0, .L⟩,
  ⟨0x2601, 0x2601, 0x2, 0x2, .u64, .ro, 0x0, .L⟩,
  ⟨0x2601, 0x2601, 0x3, 0x3, .u64, .ro, 0x0, .L⟩,
  ⟨0x2601, 0x2601, 0x4, 0x4, .u64, .ro, 0x0, .L⟩,
  ⟨0x2601, 0x2601, 0x5, 0x5, .u64, .ro, 0x0, .L⟩,
  ⟨0x2601, 0x2601, 0x6, 0x6, .u64, .ro, 0x0, .L⟩,
  ⟨0x2601, 0x2601, 0x7, 0x7, .u64, .ro, 0x0, .L⟩,
  ⟨0x2601, 0x2601, 0x8, 0x8, .u64, .ro, 0x0, .L⟩,
  ⟨0x2601, 0x2601, 0x9, 0x9, .u64, .ro, 0x0, .L⟩,
  ⟨0x2601, 0x2601, 0xA, 0xA, .u64, .ro, 0x0, .L⟩,
  ⟨0x2602, 0x2602, 0x0, 0x0, .u8, .const, 0x3, .P⟩,
  ⟨0x2602, 0x2602, 0x1, 0x1, .u8, .rwc, 0x4, .P⟩,
  ⟨0x2602, 0x2602, 0x2, 0x2, .u8, .rwc, 0x4, .P⟩,
  ⟨0x2602, 0x2602, 0x3, 0x3, .u32, .ro, 0x0, .M⟩,
  ⟨0x2603, 0x2603, 0x0, 0x0, .u8, .const, 0xC, .P⟩,
  ⟨0x2603, 0x2603, 0x1, 0x1, .u64, .ro, 0x0, .L⟩,
  ⟨0x2603, 0x2603, 0x2, 0x2, .u64, .ro, 0x0, .L⟩,
  ⟨0x2603, 0x2603, 0x3, 0x3, .u64, .ro, 0x0, .L⟩,
  ⟨0x2603, 0x2603, 0x4, 0x4, .u64, .ro, 0x0, .L⟩,
  ⟨0x2603, 0x2603, 0x5, 0x5, .u64, .ro, 0x0, .L⟩,
  ⟨0x2603, 0x2603, 0x6, 0x6, .u64, .ro, 0x0, .L⟩,
  ⟨0x2603, 0x2603, 0x7, 0x7, .u64, .ro, 0x0, .L⟩,
  ⟨0x2603, 0x2603, 0x8, 0x8, .u64, .ro, 0x0, .L⟩,
  ⟨0x2603, 0x2603, 0x9, 0x9, .u64, .ro, 0x0, .L⟩,
  ⟨0x2603, 0x2603, 0xA, 0xA, .u64, .ro, 0x0, .L⟩,
  ⟨0x2603, 0x2603, 0xB, 0xB, .u64, .ro, 0x0, .L⟩,
  ⟨0x2603, 0x2603, 0xC, 0xC, .u64, .ro, 0x0, .L⟩,
  ⟨0x2604, 0x2604, 0x0, 0x0, .u8, .const, 0x5, .P⟩,
  ⟨0x2604, 0x2604, 0x1, 0x1, .u8, .ro, 0x0, .V⟩,
  ⟨0x2604, 0x2604, 0x2, 0x2, .u32, .ro, 0x0, .V⟩,
  ⟨0x2604, 0x2604, 0x3, 0x3, .u32, .ro, 0x0, .V⟩,
  ⟨0x2604, 0x2604, 0x4, 0x4, .stamp, .ro, 0x0, .V⟩]

/-- Entries 0x2604 to 0x2604: R230. -/
def dictRope2 : List OdRow := [
  ⟨0x2604, 0x2604, 0x5, 0x5, .u32, .ro, 0x0, .V⟩]

/-- Entries 0x2700 to 0x2740: R22, R31, R318, R322, R329, R331, R332, R336. -/
def dictBridge1 : List OdRow := [
  ⟨0x2700, 0x2700, 0x1, 0x1, .u8, .rwc, 0x1F, .P⟩,
  ⟨0x2701, 0x2708, 0x0, 0x0, .u8, .const, 0x7, .P⟩,
  ⟨0x2701, 0x2708, 0x1, 0x1, .u8, .rwc, 0x0, .P⟩,
  ⟨0x2701, 0x2708, 0x2, 0x2, .u16, .rwc, 0x0, .P⟩,
  ⟨0x2701, 0x2708, 0x3, 0x3, .u32, .rwc, 0x0, .P⟩,
  ⟨0x2701, 0x2708, 0x4, 0x4, .u32, .rwc, 0x0, .P⟩,
  ⟨0x2701, 0x2708, 0x5, 0x5, .u16, .rwc, 0x14, .P⟩,
  ⟨0x2701, 0x2708, 0x6, 0x6, .u8, .rwc, 0x3, .P⟩,
  ⟨0x2701, 0x2708, 0x7, 0x7, .u32, .ro, 0x0, .V⟩,
  ⟨0x2710, 0x2710, 0x0, 0x0, .u8, .const, 0x1F, .P⟩,
  ⟨0x2710, 0x2710, 0x1, 0x1, .u32, .rw, 0x0, .V⟩,
  ⟨0x2710, 0x2710, 0x2, 0x2, .u8, .wo, 0x0, .V⟩,
  ⟨0x2710, 0x2710, 0x3, 0x3, .u8, .ro, 0x0, .V⟩,
  ⟨0x2710, 0x2710, 0x4, 0x4, .u8, .rw, 0x0, .V⟩,
  ⟨0x2710, 0x2710, 0x10, 0x1F, .u32, .rw, 0x0, .V⟩,
  ⟨0x2720, 0x2720, 0x0, 0x0, .u8, .const, 0x3, .P⟩,
  ⟨0x2720, 0x2720, 0x1, 0x1, .u32, .rw, 0x0, .V⟩,
  ⟨0x2720, 0x2720, 0x2, 0x2, .u32, .rw, 0x0, .P⟩,
  ⟨0x2720, 0x2720, 0x3, 0x3, .u8, .rw, 0x0, .P⟩,
  ⟨0x2730, 0x2730, 0x0, 0x0, .u8, .const, 0x7, .P⟩,
  ⟨0x2730, 0x2730, 0x1, 0x1, .u8, .ro, 0x0, .V⟩,
  ⟨0x2730, 0x2730, 0x2, 0x2, .u8, .wo, 0x0, .V⟩,
  ⟨0x2730, 0x2730, 0x3, 0x3, .u32, .ro, 0x0, .V⟩,
  ⟨0x2730, 0x2730, 0x4, 0x4, .u32, .ro, 0x0, .V⟩,
  ⟨0x2730, 0x2730, 0x5, 0x5, .u32, .ro, 0x0, .V⟩,
  ⟨0x2730, 0x2730, 0x6, 0x6, .u32, .ro, 0x0, .V⟩,
  ⟨0x2730, 0x2730, 0x7, 0x7, .stamp, .ro, 0x0, .V⟩,
  ⟨0x2731, 0x2731, 0x0, 0x0, .u8, .const, 0x2, .P⟩,
  ⟨0x2731, 0x2731, 0x1, 0x1, .u32, .ro, 0x0, .V⟩,
  ⟨0x2731, 0x2731, 0x2, 0x2, .u32, .ro, 0x0, .V⟩,
  ⟨0x2740, 0x2740, 0x0, 0x0, .u8, .const, 0xC, .P⟩,
  ⟨0x2740, 0x2740, 0x1, 0x1, .u64, .ro, 0x0, .L⟩,
  ⟨0x2740, 0x2740, 0x2, 0x2, .u64, .ro, 0x0, .L⟩,
  ⟨0x2740, 0x2740, 0x3, 0x3, .u64, .ro, 0x0, .L⟩,
  ⟨0x2740, 0x2740, 0x4, 0x4, .u64, .ro, 0x0, .L⟩,
  ⟨0x2740, 0x2740, 0x5, 0x5, .u64, .ro, 0x0, .L⟩,
  ⟨0x2740, 0x2740, 0x6, 0x6, .u64, .ro, 0x0, .L⟩,
  ⟨0x2740, 0x2740, 0x7, 0x7, .u64, .ro, 0x0, .L⟩,
  ⟨0x2740, 0x2740, 0x8, 0x8, .u64, .ro, 0x0, .L⟩,
  ⟨0x2740, 0x2740, 0x9, 0x9, .u64, .ro, 0x0, .L⟩]

/-- Entries 0x2740 to 0x2740: R336. -/
def dictBridge2 : List OdRow := [
  ⟨0x2740, 0x2740, 0xA, 0xA, .u64, .ro, 0x0, .L⟩,
  ⟨0x2740, 0x2740, 0xB, 0xB, .u64, .ro, 0x0, .L⟩,
  ⟨0x2740, 0x2740, 0xC, 0xC, .u64, .ro, 0x0, .L⟩]

/-- Entries 0x2800 to 0x2840: R370, R372, R376, R379, R381, R383, R384, R389. -/
def dictVault1 : List OdRow := [
  ⟨0x2800, 0x2800, 0x0, 0x0, .u8, .const, 0xA, .P⟩,
  ⟨0x2800, 0x2800, 0x1, 0x1, .u8, .ro, 0x0, .V⟩,
  ⟨0x2800, 0x2800, 0x2, 0x2, .u8, .ro, 0x0, .V⟩,
  ⟨0x2800, 0x2800, 0x3, 0x3, .u64, .const, 0x0, .P⟩,
  ⟨0x2800, 0x2800, 0x4, 0x4, .domain, .ro, 0x0, .V⟩,
  ⟨0x2800, 0x2800, 0x5, 0x5, .bool, .rwc, 0x0, .P⟩,
  ⟨0x2800, 0x2800, 0x6, 0x6, .u8, .ro, 0x0, .V⟩,
  ⟨0x2800, 0x2800, 0x7, 0x7, .u8, .ro, 0x0, .V⟩,
  ⟨0x2800, 0x2800, 0x8, 0x8, .u8, .rwc, 0x3F, .P⟩,
  ⟨0x2800, 0x2800, 0x9, 0x9, .u32, .ro, 0x0, .L⟩,
  ⟨0x2800, 0x2800, 0xA, 0xA, .u32, .ro, 0x0, .L⟩,
  ⟨0x2801, 0x2801, 0x0, 0x0, .u8, .const, 0x40, .P⟩,
  ⟨0x2801, 0x2801, 0x1, 0x40, .u32, .ro, 0x0, .V⟩,
  ⟨0x2810, 0x2810, 0x0, 0x0, .u8, .const, 0x2, .P⟩,
  ⟨0x2810, 0x2810, 0x1, 0x1, .domain, .rw, 0x0, .V⟩,
  ⟨0x2810, 0x2810, 0x2, 0x2, .u8, .ro, 0x0, .V⟩,
  ⟨0x2811, 0x2811, 0x0, 0x0, .u8, .const, 0x1, .P⟩,
  ⟨0x2811, 0x2811, 0x1, 0x1, .u8, .wo, 0x0, .V⟩,
  ⟨0x2812, 0x2812, 0x0, 0x0, .u8, .const, 0x2, .P⟩,
  ⟨0x2812, 0x2812, 0x1, 0x1, .domain, .rw, 0x0, .V⟩,
  ⟨0x2812, 0x2812, 0x2, 0x2, .u8, .ro, 0x0, .V⟩,
  ⟨0x2820, 0x2820, 0x0, 0x0, .u8, .const, 0x5, .P⟩,
  ⟨0x2820, 0x2820, 0x1, 0x1, .u32, .rwc, 0x0, .P⟩,
  ⟨0x2820, 0x2820, 0x2, 0x2, .u32, .rwc, 0x30, .P⟩,
  ⟨0x2820, 0x2820, 0x3, 0x3, .u8, .rwc, 0x7, .P⟩,
  ⟨0x2820, 0x2820, 0x4, 0x4, .u32, .rw, 0x0, .V⟩,
  ⟨0x2820, 0x2820, 0x5, 0x5, .stamp, .ro, 0x0, .V⟩,
  ⟨0x2830, 0x2830, 0x0, 0x0, .u8, .const, 0x5, .P⟩,
  ⟨0x2830, 0x2830, 0x1, 0x1, .domain, .rw, 0x0, .V⟩,
  ⟨0x2830, 0x2830, 0x2, 0x2, .u8, .rw, 0x0, .P⟩,
  ⟨0x2830, 0x2830, 0x3, 0x3, .u8, .wo, 0x0, .V⟩,
  ⟨0x2830, 0x2830, 0x4, 0x4, .u8, .ro, 0x0, .V⟩,
  ⟨0x2830, 0x2830, 0x5, 0x5, .domain, .ro, 0x0, .V⟩,
  ⟨0x2840, 0x2840, 0x0, 0x0, .u8, .const, 0x7, .P⟩,
  ⟨0x2840, 0x2840, 0x1, 0x1, .u64, .ro, 0x0, .L⟩,
  ⟨0x2840, 0x2840, 0x2, 0x2, .u64, .ro, 0x0, .L⟩,
  ⟨0x2840, 0x2840, 0x3, 0x3, .u64, .ro, 0x0, .L⟩,
  ⟨0x2840, 0x2840, 0x4, 0x4, .u64, .ro, 0x0, .L⟩,
  ⟨0x2840, 0x2840, 0x5, 0x5, .u64, .ro, 0x0, .L⟩,
  ⟨0x2840, 0x2840, 0x6, 0x6, .u64, .ro, 0x0, .L⟩]

/-- Entries 0x2840 to 0x2840: R389. -/
def dictVault2 : List OdRow := [
  ⟨0x2840, 0x2840, 0x7, 0x7, .u64, .ro, 0x0, .L⟩]

/-- Entries 0x2900 to 0x2920: R22, R31, R392, R400, R403. -/
def dictLedger : List OdRow := [
  ⟨0x2900, 0x2900, 0x0, 0x0, .u8, .const, 0x3, .P⟩,
  ⟨0x2900, 0x2900, 0x1, 0x1, .u32, .rwc, 0xE10, .P⟩,
  ⟨0x2900, 0x2900, 0x2, 0x2, .u8, .rwc, 0x0, .P⟩,
  ⟨0x2900, 0x2900, 0x3, 0x3, .u8, .rwc, 0xFF, .P⟩,
  ⟨0x2901, 0x2901, 0x0, 0x0, .u8, .const, 0x1F, .P⟩,
  ⟨0x2901, 0x2901, 0x1, 0x1, .u32, .rw, 0x0, .V⟩,
  ⟨0x2901, 0x2901, 0x2, 0x2, .u8, .wo, 0x0, .V⟩,
  ⟨0x2901, 0x2901, 0x3, 0x3, .u8, .ro, 0x0, .V⟩,
  ⟨0x2901, 0x2901, 0x4, 0x4, .u8, .rw, 0x0, .V⟩,
  ⟨0x2901, 0x2901, 0x10, 0x1F, .u32, .rw, 0x0, .V⟩,
  ⟨0x2910, 0x2910, 0x0, 0x0, .u8, .const, 0x6, .P⟩,
  ⟨0x2910, 0x2910, 0x1, 0x1, .u32, .rw, 0x0, .V⟩,
  ⟨0x2910, 0x2910, 0x2, 0x2, .domain, .ro, 0x0, .V⟩,
  ⟨0x2910, 0x2910, 0x3, 0x3, .u32, .ro, 0x0, .M⟩,
  ⟨0x2910, 0x2910, 0x4, 0x4, .domain, .ro, 0x0, .M⟩,
  ⟨0x2910, 0x2910, 0x5, 0x5, .u32, .ro, 0x0, .V⟩,
  ⟨0x2910, 0x2910, 0x6, 0x6, .u64, .ro, 0x0, .M⟩,
  ⟨0x2911, 0x2911, 0x0, 0x0, .u8, .const, 0x3, .P⟩,
  ⟨0x2911, 0x2911, 0x1, 0x1, .u8, .rw, 0x0, .V⟩,
  ⟨0x2911, 0x2911, 0x2, 0x2, .u64, .ro, 0x0, .V⟩,
  ⟨0x2911, 0x2911, 0x3, 0x3, .u64, .ro, 0x0, .V⟩,
  ⟨0x2920, 0x2920, 0x0, 0x0, .u8, .const, 0x8, .P⟩,
  ⟨0x2920, 0x2920, 0x1, 0x1, .u64, .ro, 0x0, .L⟩,
  ⟨0x2920, 0x2920, 0x2, 0x2, .u64, .ro, 0x0, .L⟩,
  ⟨0x2920, 0x2920, 0x3, 0x3, .u64, .ro, 0x0, .L⟩,
  ⟨0x2920, 0x2920, 0x4, 0x4, .u64, .ro, 0x0, .L⟩,
  ⟨0x2920, 0x2920, 0x5, 0x5, .u64, .ro, 0x0, .L⟩,
  ⟨0x2920, 0x2920, 0x6, 0x6, .u64, .ro, 0x0, .L⟩,
  ⟨0x2920, 0x2920, 0x7, 0x7, .u64, .ro, 0x0, .L⟩,
  ⟨0x2920, 0x2920, 0x8, 0x8, .u64, .ro, 0x0, .L⟩]

/-- Entries 0x2A00 to 0x2A20: R414, R416. -/
def dictLogbook : List OdRow := [
  ⟨0x2A00, 0x2A00, 0x0, 0x0, .u8, .const, 0x6, .P⟩,
  ⟨0x2A00, 0x2A00, 0x1, 0x1, .u32, .rwc, 0x258, .P⟩,
  ⟨0x2A00, 0x2A00, 0x2, 0x2, .u8, .wo, 0x0, .V⟩,
  ⟨0x2A00, 0x2A00, 0x3, 0x3, .stamp, .ro, 0x0, .V⟩,
  ⟨0x2A00, 0x2A00, 0x4, 0x4, .u32, .ro, 0x0, .V⟩,
  ⟨0x2A00, 0x2A00, 0x5, 0x5, .u32, .ro, 0x0, .V⟩,
  ⟨0x2A00, 0x2A00, 0x6, 0x6, .u64, .ro, 0x0, .L⟩,
  ⟨0x2A01, 0x2A01, 0x0, 0x0, .u8, .const, 0x3, .P⟩,
  ⟨0x2A01, 0x2A01, 0x1, 0x1, .u16, .rw, 0x0, .V⟩,
  ⟨0x2A01, 0x2A01, 0x2, 0x2, .u64, .ro, 0x0, .V⟩,
  ⟨0x2A01, 0x2A01, 0x3, 0x3, .u32, .ro, 0x0, .V⟩,
  ⟨0x2A02, 0x2A02, 0x0, 0x0, .u8, .const, 0x2, .P⟩,
  ⟨0x2A02, 0x2A02, 0x1, 0x1, .u8, .rw, 0x0, .V⟩,
  ⟨0x2A02, 0x2A02, 0x2, 0x2, .domain, .ro, 0x0, .V⟩,
  ⟨0x2A03, 0x2A03, 0x0, 0x0, .u8, .const, 0x2, .P⟩,
  ⟨0x2A03, 0x2A03, 0x1, 0x1, .u32, .rw, 0x0, .V⟩,
  ⟨0x2A03, 0x2A03, 0x2, 0x2, .domain, .ro, 0x0, .V⟩,
  ⟨0x2A04, 0x2A04, 0x0, 0x0, .u8, .const, 0x1, .P⟩,
  ⟨0x2A04, 0x2A04, 0x1, 0x1, .domain, .ro, 0x0, .V⟩,
  ⟨0x2A10, 0x2A10, 0x0, 0x0, .u8, .const, 0x1, .P⟩,
  ⟨0x2A10, 0x2A10, 0x1, 0x1, .domain, .ro, 0x0, .V⟩,
  ⟨0x2A20, 0x2A20, 0x0, 0x0, .u8, .const, 0x4, .P⟩,
  ⟨0x2A20, 0x2A20, 0x1, 0x1, .u64, .ro, 0x0, .L⟩,
  ⟨0x2A20, 0x2A20, 0x2, 0x2, .u64, .ro, 0x0, .L⟩,
  ⟨0x2A20, 0x2A20, 0x3, 0x3, .u64, .ro, 0x0, .L⟩,
  ⟨0x2A20, 0x2A20, 0x4, 0x4, .u64, .ro, 0x0, .L⟩]

/-- Entries 0x2B00 to 0x2B10: R418, R428. -/
def dictTest : List OdRow := [
  ⟨0x2B00, 0x2B00, 0x0, 0x0, .u8, .const, 0x11, .P⟩,
  ⟨0x2B00, 0x2B00, 0x1, 0xC, .u32, .rwc, 0x0, .V⟩,
  ⟨0x2B00, 0x2B00, 0xD, 0xD, .u32, .rwc, 0x0, .V⟩,
  ⟨0x2B00, 0x2B00, 0xE, 0xE, .u32, .rwc, 0x0, .V⟩,
  ⟨0x2B00, 0x2B00, 0xF, 0xF, .u64, .rwc, 0x0, .V⟩,
  ⟨0x2B00, 0x2B00, 0x10, 0x10, .bool, .rwc, 0x0, .V⟩,
  ⟨0x2B00, 0x2B00, 0x11, 0x11, .bool, .ro, 0x0, .V⟩,
  ⟨0x2B10, 0x2B10, 0x0, 0x0, .u8, .const, 0x3, .P⟩,
  ⟨0x2B10, 0x2B10, 0x1, 0x1, .u32, .ro, 0x0, .V⟩,
  ⟨0x2B10, 0x2B10, 0x2, 0x2, .u8, .ro, 0x0, .V⟩,
  ⟨0x2B10, 0x2B10, 0x3, 0x3, .u16, .ro, 0x0, .L⟩]

/-- Entries 0x2C10 to 0x2C20: R289, R306. -/
def dictSleep : List OdRow := [
  ⟨0x2C10, 0x2C1F, 0x0, 0x0, .u8, .const, 0x26, .P⟩,
  ⟨0x2C10, 0x2C1F, 0x1, 0x1, .bool, .rw, 0x0, .M⟩,
  ⟨0x2C10, 0x2C1F, 0x2, 0x2, .u8, .wo, 0x0, .V⟩,
  ⟨0x2C10, 0x2C1F, 0x3, 0x3, .u8, .ro, 0x0, .V⟩,
  ⟨0x2C10, 0x2C1F, 0x4, 0x4, .u32, .rwc, 0x0, .P⟩,
  ⟨0x2C10, 0x2C1F, 0x5, 0x5, .u32, .rwc, 0x0, .P⟩,
  ⟨0x2C10, 0x2C1F, 0x6, 0x6, .u32, .rwc, 0x110, .P⟩,
  ⟨0x2C10, 0x2C1F, 0x7, 0x7, .u32, .rwc, 0x7D0, .P⟩,
  ⟨0x2C10, 0x2C1F, 0x8, 0x8, .u16, .rwc, 0x64, .P⟩,
  ⟨0x2C10, 0x2C1F, 0x9, 0x9, .u16, .rwc, 0x3E8, .P⟩,
  ⟨0x2C10, 0x2C1F, 0xA, 0xA, .u32, .rwc, 0x2710, .P⟩,
  ⟨0x2C10, 0x2C1F, 0xB, 0xB, .bool, .rw, 0x1, .P⟩,
  ⟨0x2C10, 0x2C1F, 0xC, 0xC, .u32, .ro, 0x0, .V⟩,
  ⟨0x2C10, 0x2C1F, 0xD, 0xD, .stamp, .ro, 0x0, .V⟩,
  ⟨0x2C10, 0x2C1F, 0x20, 0x26, .u64, .ro, 0x0, .L⟩,
  ⟨0x2C20, 0x2C20, 0x0, 0x0, .u8, .const, 0x8, .P⟩,
  ⟨0x2C20, 0x2C20, 0x1, 0x8, .u64, .rw, 0x0, .P⟩]

/-- Entries 0x3000 to 0x310F: R266, R292, R295, R305. -/
def dictChannels1 : List OdRow := [
  ⟨0x3000, 0x30BF, 0x0, 0x0, .u8, .const, 0x2B, .P⟩,
  ⟨0x3000, 0x30BF, 0x1, 0x1, .u8, .rwc, 0x1, .P⟩,
  ⟨0x3000, 0x30BF, 0x2, 0x2, .u32, .rw, 0x12C0, .P⟩,
  ⟨0x3000, 0x30BF, 0x3, 0x3, .u32, .rwc, 0x20, .P⟩,
  ⟨0x3000, 0x30BF, 0x4, 0x4, .u32, .rwc, 0x30100000, .P⟩,
  ⟨0x3000, 0x30BF, 0x5, 0x5, .u32, .rwc, 0x0, .P⟩,
  ⟨0x3000, 0x30BF, 0x6, 0x6, .u16, .rwc, 0xFA, .P⟩,
  ⟨0x3000, 0x30BF, 0x7, 0x7, .u8, .rw, 0x0, .P⟩,
  ⟨0x3000, 0x30BF, 0x8, 0x8, .u32, .ro, 0x0, .V⟩,
  ⟨0x3000, 0x30BF, 0x9, 0x9, .u32, .ro, 0x0, .V⟩,
  ⟨0x3000, 0x30BF, 0xA, 0xA, .u8, .rw, 0x0, .V⟩,
  ⟨0x3000, 0x30BF, 0x10, 0x10, .u16, .ro, 0x0, .V⟩,
  ⟨0x3000, 0x30BF, 0x11, 0x11, .u16, .ro, 0x0, .V⟩,
  ⟨0x3000, 0x30BF, 0x12, 0x12, .u8, .ro, 0x0, .V⟩,
  ⟨0x3000, 0x30BF, 0x13, 0x13, .u16, .wo, 0x0, .V⟩,
  ⟨0x3000, 0x30BF, 0x14, 0x14, .u8, .ro, 0x0, .V⟩,
  ⟨0x3000, 0x30BF, 0x20, 0x20, .u64, .ro, 0x0, .L⟩,
  ⟨0x3000, 0x30BF, 0x21, 0x21, .u64, .ro, 0x0, .L⟩,
  ⟨0x3000, 0x30BF, 0x22, 0x22, .u64, .ro, 0x0, .L⟩,
  ⟨0x3000, 0x30BF, 0x23, 0x23, .u64, .ro, 0x0, .L⟩,
  ⟨0x3000, 0x30BF, 0x24, 0x24, .u64, .ro, 0x0, .L⟩,
  ⟨0x3000, 0x30BF, 0x25, 0x25, .u64, .ro, 0x0, .L⟩,
  ⟨0x3000, 0x30BF, 0x26, 0x26, .u64, .ro, 0x0, .L⟩,
  ⟨0x3000, 0x30BF, 0x27, 0x27, .u64, .ro, 0x0, .L⟩,
  ⟨0x3000, 0x30BF, 0x28, 0x28, .u64, .ro, 0x0, .L⟩,
  ⟨0x3000, 0x30BF, 0x29, 0x29, .u64, .ro, 0x0, .L⟩,
  ⟨0x3000, 0x30BF, 0x2A, 0x2A, .u64, .ro, 0x0, .L⟩,
  ⟨0x3000, 0x30BF, 0x2B, 0x2B, .u64, .ro, 0x0, .L⟩,
  ⟨0x3100, 0x310F, 0x0, 0x0, .u8, .const, 0x2B, .P⟩,
  ⟨0x3100, 0x310F, 0x1, 0x1, .u8, .rwc, 0x1, .P⟩,
  ⟨0x3100, 0x310F, 0x2, 0x2, .u32, .rwc, 0x7550C0C, .P⟩,
  ⟨0x3100, 0x310F, 0x3, 0x3, .u32, .rwc, 0x120404, .P⟩,
  ⟨0x3100, 0x310F, 0x4, 0x4, .u32, .rwc, 0x3, .P⟩,
  ⟨0x3100, 0x310F, 0x5, 0x5, .u16, .rwc, 0xFA, .P⟩,
  ⟨0x3100, 0x310F, 0x6, 0x6, .u32, .ro, 0x0, .V⟩,
  ⟨0x3100, 0x310F, 0x7, 0x7, .u8, .rw, 0x0, .V⟩,
  ⟨0x3100, 0x310F, 0x8, 0x8, .u8, .wo, 0x0, .V⟩,
  ⟨0x3100, 0x310F, 0x20, 0x20, .u64, .ro, 0x0, .L⟩,
  ⟨0x3100, 0x310F, 0x21, 0x21, .u64, .ro, 0x0, .L⟩,
  ⟨0x3100, 0x310F, 0x22, 0x22, .u64, .ro, 0x0, .L⟩]

/-- Entries 0x3100 to 0x3203: R233, R242, R245, R305. -/
def dictChannels2 : List OdRow := [
  ⟨0x3100, 0x310F, 0x23, 0x23, .u64, .ro, 0x0, .L⟩,
  ⟨0x3100, 0x310F, 0x24, 0x24, .u64, .ro, 0x0, .L⟩,
  ⟨0x3100, 0x310F, 0x25, 0x25, .u64, .ro, 0x0, .L⟩,
  ⟨0x3100, 0x310F, 0x26, 0x26, .u64, .ro, 0x0, .L⟩,
  ⟨0x3100, 0x310F, 0x27, 0x27, .u64, .ro, 0x0, .L⟩,
  ⟨0x3100, 0x310F, 0x28, 0x28, .u64, .ro, 0x0, .L⟩,
  ⟨0x3100, 0x310F, 0x29, 0x29, .u64, .ro, 0x0, .L⟩,
  ⟨0x3100, 0x310F, 0x2A, 0x2A, .u64, .ro, 0x0, .L⟩,
  ⟨0x3100, 0x310F, 0x2B, 0x2B, .u64, .ro, 0x0, .L⟩,
  ⟨0x3200, 0x3203, 0x0, 0x0, .u8, .const, 0x2B, .P⟩,
  ⟨0x3200, 0x3203, 0x1, 0x1, .u8, .rwc, 0x1, .P⟩,
  ⟨0x3200, 0x3203, 0x2, 0x2, .u32, .rwc, 0x3, .P⟩,
  ⟨0x3200, 0x3203, 0x3, 0x3, .u16, .rwc, 0x5F2, .P⟩,
  ⟨0x3200, 0x3203, 0x4, 0x4, .u32, .ro, 0x0, .V⟩,
  ⟨0x3200, 0x3203, 0x5, 0x5, .u8, .rw, 0x0, .V⟩,
  ⟨0x3200, 0x3203, 0x6, 0x6, .u32, .rwc, 0x0, .P⟩,
  ⟨0x3200, 0x3203, 0x7, 0x7, .u32, .rwc, 0xFAC688, .P⟩,
  ⟨0x3200, 0x3203, 0x8, 0x8, .u64, .rwc, 0x0, .P⟩,
  ⟨0x3200, 0x3203, 0x9, 0x9, .u8, .rwc, 0x80, .P⟩,
  ⟨0x3200, 0x3203, 0xA, 0xA, .u16, .ro, 0x0, .V⟩,
  ⟨0x3200, 0x3203, 0xB, 0xB, .u8, .wo, 0x0, .V⟩,
  ⟨0x3200, 0x3203, 0xC, 0xC, .stamp, .ro, 0x0, .V⟩,
  ⟨0x3200, 0x3203, 0xD, 0xD, .u32, .ro, 0x0, .V⟩,
  ⟨0x3200, 0x3203, 0xE, 0xE, .u32, .ro, 0x0, .V⟩,
  ⟨0x3200, 0x3200, 0x10, 0x10, .u32, .rw, 0x0, .P⟩,
  ⟨0x3200, 0x3200, 0x11, 0x18, .domain, .rw, 0x0, .P⟩,
  ⟨0x3200, 0x3203, 0x20, 0x20, .u64, .ro, 0x0, .L⟩,
  ⟨0x3200, 0x3203, 0x21, 0x21, .u64, .ro, 0x0, .L⟩,
  ⟨0x3200, 0x3203, 0x22, 0x22, .u64, .ro, 0x0, .L⟩,
  ⟨0x3200, 0x3203, 0x23, 0x23, .u64, .ro, 0x0, .L⟩,
  ⟨0x3200, 0x3203, 0x24, 0x24, .u64, .ro, 0x0, .L⟩,
  ⟨0x3200, 0x3203, 0x25, 0x25, .u64, .ro, 0x0, .L⟩,
  ⟨0x3200, 0x3203, 0x26, 0x26, .u64, .ro, 0x0, .L⟩,
  ⟨0x3200, 0x3203, 0x27, 0x27, .u64, .ro, 0x0, .L⟩,
  ⟨0x3200, 0x3203, 0x28, 0x28, .u64, .ro, 0x0, .L⟩,
  ⟨0x3200, 0x3203, 0x29, 0x29, .u64, .ro, 0x0, .L⟩,
  ⟨0x3200, 0x3203, 0x2A, 0x2A, .u64, .ro, 0x0, .L⟩,
  ⟨0x3200, 0x3203, 0x2B, 0x2B, .u64, .ro, 0x0, .L⟩,
  ⟨0x3201, 0x3201, 0x10, 0x10, .u32, .rw, 0x0, .P⟩,
  ⟨0x3201, 0x3201, 0x11, 0x18, .domain, .rw, 0x0, .P⟩]

/-- Entries 0x3210 to 0x330F: R198, R247. -/
def dictChannels3 : List OdRow := [
  ⟨0x3210, 0x3210, 0x0, 0x0, .u8, .const, 0x24, .P⟩,
  ⟨0x3210, 0x3210, 0x1, 0x1, .u8, .rwc, 0x1, .P⟩,
  ⟨0x3210, 0x3210, 0x2, 0x2, .u32, .rwc, 0xB, .P⟩,
  ⟨0x3210, 0x3210, 0x4, 0x4, .u32, .ro, 0x0, .V⟩,
  ⟨0x3210, 0x3210, 0x5, 0x5, .u8, .rw, 0x0, .V⟩,
  ⟨0x3210, 0x3210, 0x20, 0x23, .u64, .ro, 0x0, .L⟩,
  ⟨0x3210, 0x3210, 0x24, 0x24, .u64, .ro, 0x0, .L⟩,
  ⟨0x3300, 0x330F, 0x0, 0x0, .u8, .const, 0x4, .P⟩,
  ⟨0x3300, 0x330F, 0x1, 0x1, .bool, .rw, 0x0, .M⟩,
  ⟨0x3300, 0x330F, 0x2, 0x2, .u16, .rwc, 0x14, .P⟩,
  ⟨0x3300, 0x330F, 0x3, 0x3, .u8, .ro, 0x1, .V⟩,
  ⟨0x3300, 0x330F, 0x4, 0x4, .u64, .ro, 0x0, .L⟩]

/-- The rows that can hold an index (R26 gives the ranges and their owners). -/
def dictRows (idx : Nat) : List OdRow :=
  if idx ≤ 0x1FFF then dictIdentity
  else if idx ≤ 0x20FF then dictUnit1 ++ dictUnit2
  else if idx ≤ 0x21FF then dictPitch
  else if idx ≤ 0x22FF then dictEngine1 ++ dictEngine2
  else if idx ≤ 0x23FF then dictStream1 ++ dictStream2
  else if idx ≤ 0x24FF then dictGroups
  else if idx ≤ 0x25FF then dictAdmission
  else if idx ≤ 0x26FF then dictRope1 ++ dictRope2
  else if idx ≤ 0x27FF then dictBridge1 ++ dictBridge2
  else if idx ≤ 0x28FF then dictVault1 ++ dictVault2
  else if idx ≤ 0x29FF then dictLedger
  else if idx ≤ 0x2AFF then dictLogbook
  else if idx ≤ 0x2BFF then dictTest
  else if idx ≤ 0x2CFF then dictSleep
  else if idx ≤ 0x3FFF then dictChannels1 ++ dictChannels2 ++ dictChannels3
  else []

/-- Whether a row covers an entry. -/
def OdRow.covers (r : OdRow) (idx sub : Nat) : Bool :=
  r.ilo ≤ idx && idx ≤ r.ihi && r.slo ≤ sub && sub ≤ r.shi

/-- The entry at an index and subindex, when it exists (R22). -/
def dictFind (idx sub : Nat) : Option OdRow := (dictRows idx).find? (fun r => r.covers idx sub)

/-- Whether an index exists at all (R36). -/
def dictHasIndex (idx : Nat) : Bool := (dictRows idx).any (fun r => r.ilo ≤ idx && idx ≤ r.ihi)

/-- The default of an entry; `0` where there is no entry. -/
def dictDefault (idx sub : Nat) : Nat := match dictFind idx sub with | some r => r.dflt | none => 0

end Sys2Proof.Machine
end

