-- ==== Sys2Proof/Machine/Dev.lean ====
section
/-! DEFINITION. The block's state as plain data, part by part; `State` (Machine/State.lean) is the block with its
queue of commands. Every field names the rule that gives it. -/

namespace Sys2Proof.Machine

/-! ### Object dictionary, alerts, device state (chapter 02) -/

/-- An active alert (R40). -/
structure Alert where
  code : Nat
  sev : Nat
  detail : Nat
  /-- Stamp of the change to raised. -/
  stamp : Nat
  /-- Stamp of the latest raise. -/
  latest : Nat
  deriving DecidableEq, Repr

/-- Device states (R37, R341): OFF covers unpowered and held in reset. -/
inductive DevState where
  | off | boot | config | service | bivouac | shelter | hold
  deriving DecidableEq, Repr

/-- The domain port of one transport (R30). -/
structure DomainPort where
  target : Nat := 0
  offset : Nat := 0
  status : Nat := 0
  /-- Uncommitted bytes: offset and four bytes each, latest first. -/
  written : List (Nat × List Byte) := []
  /-- Highest offset written, plus 4; 0 when nothing is written. -/
  len : Nat := 0
  /-- Instant of the last access of an open transfer. -/
  last : Nat := 0
  /-- The export copy taken by this transport (R415). -/
  copy : List Byte := []
  deriving DecidableEq, Repr

/-- Torn-access protection of one transport (R28) and of the discard record (R69). -/
structure WordPair where
  /-- Held low word of a write: index, subindex, value, instant. -/
  held : Option (Nat × Nat × Nat × Nat) := none
  /-- Snapshot of the last low-word read: index, subindex, whole value. -/
  snap : Option (Nat × Nat × Nat) := none
  /-- Stamp of the last-discard snapshot. -/
  discard : Option Nat := none
  deriving DecidableEq, Repr

/-- The window and control of one access block (R31). -/
structure Block where
  row : Nat := 0
  status : Nat := 0
  owner : Nat := 0
  /-- Last access of the holder. -/
  last : Nat := 0
  window : List Word32 := List.replicate 16 0
  /-- Snapshot of a last-value slot, with its stream and the transport that read it (R117). -/
  slotSnap : Option (Nat × Nat × List Word32) := none
  deriving DecidableEq, Repr

/-- An open SDO segmented transfer (R35). -/
structure SdoTransfer where
  upload : Bool
  idx : Nat
  sub : Nat
  fd : Bool
  /-- Bytes still to send, or received so far. -/
  data : List Byte
  last : Nat
  deriving DecidableEq, Repr

/-! ### Items on the sentence path (chapters 03 to 06) -/

/-- What an item's bytes are (R207). -/
inductive Form where
  | sentence | can | run
  deriving DecidableEq, Repr

/-- One part of an item, with the TAG values kept with it (R80). -/
structure Part where
  bytes : List Byte
  /-- Sentence digest (R207). -/
  digest : Nat
  tagN : Option Nat := none
  tagC : Option (List Byte) := none
  deriving DecidableEq, Repr

/-- An item between arrival and admission. -/
structure Item where
  /-- Source number (R51). -/
  src : Nat
  /-- KIND of its key (R95). -/
  kind : Nat
  form : Form
  parts : List Part
  /-- Arrival stamp and origin stamp (R91). -/
  stamp : Nat
  origin : Nat
  /-- T_last in CORE cycles (R50). -/
  tLast : Nat
  /-- Instant its lane finishes it (R53). -/
  finish : Nat := 0
  /-- NAME (R98). -/
  name : Nat := 0xFFF
  /-- The s: value. -/
  sval : Option (List Byte) := none
  /-- TAG g: part, total, id. -/
  gtag : Option (Nat × Nat × Nat) := none
  /-- Global stream ID, frame stream, tunnel channel, internal stream or group number, by KIND. -/
  sel : Nat := 0
  /-- Part mark, sequence and generation of a twin record (R255). -/
  mark : Nat := 0
  seq : Nat := 0
  gen : Nat := 0
  /-- Slot under which the carrying datagram's tag was verified (R256). -/
  verified : Option Nat := none
  /-- Epoch-foreign, and the mode epoch of the twin datagram that carried the item (R258, R328). -/
  foreign : Bool := false
  epoch : Option Nat := none
  /-- Source-quality code (R148). -/
  quality : Nat := 2
  /-- Marked disputed (R132). -/
  disputed : Bool := false
  /-- Kind byte and CONT state of a tunnel run (R259). -/
  runKind : Nat := 0
  /-- A classic frame of a fast-packet stream (R87). -/
  fp : Bool := false
  /-- Deferrals charged under R63. -/
  charged : Nat := 0
  /-- Number of the backbone frame that carried it, 0 for none, and its number among the items that entered the lanes (R55). -/
  frame : Nat := 0
  order : Nat := 0
  /-- Another part of its twin record was discarded: the window does not advance (R90). -/
  spoiled : Bool := false
  deriving DecidableEq, Repr

/-- A parse lane: the item it works on, and the instant at which it became free (R53). -/
structure Lane where
  item : Option Item := none
  freeAt : Nat := 0
  deriving DecidableEq, Repr

/-- Where the parse state machine stands (R76). -/
inductive ParseState where
  | hunt | tag | tagck | tagend | body | cks | crwait | skip
  deriving DecidableEq, Repr

/-- A parse context (R76). -/
structure Context where
  st : ParseState := .hunt
  /-- Length count, or TAG count, so far. -/
  len : Nat := 0
  xor : Byte := 0
  /-- Characters of the sentence so far, latest first. -/
  chars : List Byte := []
  /-- Characters of the TAG block body so far, latest first. -/
  tag : List Byte := []
  /-- Checksum digits held. -/
  digits : List Byte := []
  /-- Stamp of the item. -/
  stamp : Nat := 0
  quality : Nat := 2
  sval : Option (List Byte) := none
  gtag : Option (Nat × Nat × Nat) := none
  tagN : Option Nat := none
  tagC : Option (List Byte) := none
  deriving DecidableEq, Repr

/-- What becomes of a tagged item (R56). -/
inductive Fate where
  /-- Still in the stages between classification and ordering. -/
  | working
  /-- Completed, awaiting release in stream order. -/
  | ready
  /-- Completed and consumed: only its last value is updated (R67). -/
  | consumed
  deriving DecidableEq, Repr

/-- An item that holds a tag, with the rows in force when the tag was issued (R105). -/
structure Tagged where
  tag : Nat
  /-- The virtual item attached to the tag (R57). -/
  virt : Bool := false
  shared : Bool
  item : Item
  stream : Nat
  row : List Word32
  /-- Its listener set as a bit mask. -/
  set : Nat
  /-- The probe rows of its chain, index and words. -/
  probes : List (Nat × List Word32)
  /-- ALT sets of its probes, by probe index. -/
  alts : List (Nat × Nat)
  /-- The virtual output stream of the group that its row names, with that stream's row and listener set, and the group's
  comparison probe (R105). -/
  virtRow : Option (Nat × List Word32) := none
  virtSet : Nat := 0
  cmp : List Word32 := []
  /-- Its stream's row has been superseded since: the commit that did so, and the TAT of the superseded row; and the probes of
  its chain whose rows have been superseded (R108, R113, R119). -/
  oldTat : Option (Nat × Nat) := none
  stale : List Nat := []
  issued : Nat
  fate : Fate := .working
  eset : Nat := 0
  probeInvalid : Bool := false
  /-- Number of parts of the group this item completes, or 1. -/
  members : Nat := 1
  deriving DecidableEq, Repr

/-- An open multi-part context (R84). -/
structure GroupCtx where
  src : Nat
  /-- The group key (R83, R87, R255). -/
  key : List Nat
  total : Nat
  /-- Parts held, first first. -/
  parts : List Part
  /-- Data bytes collected, for a fast-packet sequence. -/
  data : List Byte
  need : Nat
  deadline : Nat
  opened : Nat
  /-- The first part, tagged as it was when the group opened. -/
  first : Tagged
  /-- Sequence number of the last twin part. -/
  lastSeq : Nat := 0
  deriving DecidableEq, Repr

/-- A learn record (R106). -/
structure Learn where
  key : Nat := 0
  name : Nat := 0
  first : Nat := 0
  last : Nat := 0
  count : Nat := 0
  deriving DecidableEq, Repr

/-- A staged row; `none` stages the row as empty (R118). -/
structure Staged where
  tbl : Tbl
  row : Nat
  words : List Word32
  /-- Operation 3. -/
  empty : Bool
  deriving DecidableEq, Repr

/-- A last-value slot (R115). -/
structure Slot where
  value : List Byte := []
  valid : Bool := false
  can : Bool := false
  fromActive : Bool := false
  stamp : Nat := 0
  deriving DecidableEq, Repr

/-- A member record, kept by group and member stream (R126). -/
structure MemberRec where
  arrival : Nat
  origin : Nat
  valid : Bool
  value : Option Int
  /-- Its latest item was outvoted (R132). -/
  outvoted : Bool
  deriving DecidableEq, Repr

/-- What a boundary makes of a group (R129): NONE, SEL, HCOUNT, whether a change is immediate. -/
structure SelNext where
  none : Bool
  sel : Nat
  hcount : Nat
  immediate : Bool
  deriving DecidableEq, Repr

/-- The selection state of one group (R124 words 14 and 15, R134, R135). -/
structure Sel where
  none : Bool := true
  disputed : Bool := false
  sel : Nat := 0
  cand : Nat := 0
  hcount : Nat := 0
  switches : Nat := 0
  /-- Outcome of the last selection point, applied at the boundary. -/
  pend : Option SelNext := Option.none
  /-- Leg ordinal of the last 0xA2B2. -/
  lastDis : Option Nat := Option.none
  /-- The active's decision, received before the boundary (R135). -/
  decision : Option Nat := Option.none
  deriving DecidableEq, Repr

/-! ### Pitch (chapter 07) -/

/-- Engine states (R147, 0x2110:07). -/
inductive EngState where
  | boot | free | locked | holdover | slip
  deriving DecidableEq, Repr

/-- Stages of a slip (R145). -/
inductive SlipStage where
  | none | awaiting | inside | window
  deriving DecidableEq, Repr

/-- A stretch of the stamp counter at one rate: pitch number, phase in 2^-16 pu at its first tick, rate (R140). -/
structure PitchSeg where
  num : Nat
  ref16 : Nat
  refTick : Nat
  rateN : Nat
  rateD : Nat
  /-- Phase in 2^-16 pu at which the engine waits for a count of the shaft (R146). -/
  wait : Option Nat := none
  deriving DecidableEq, Repr

/-- The last valid reference point of a source, and the slew that it would start (R142, R143). -/
structure RefPoint where
  /-- Tick of the point; none before the first. -/
  tick : Option Nat := none
  /-- Error ε in pu. -/
  eps : Int := 0
  /-- Δ in pu, as a fraction, and I in ticks. -/
  deltaN : Nat := 16777216
  deltaD : Nat := 1
  ival : Nat := 0
  /-- Tick of the reference boundary predicted from it (R145). -/
  predict : Nat := 0
  /-- The source's measured period. -/
  period : Nat := 0
  deriving DecidableEq, Repr

/-- The pitch engine. -/
structure Pitch where
  num : Nat := 0
  /-- Phase at `refTick`, in units of 2^-16 pu (R140). -/
  ref16 : Nat := 0
  refTick : Nat := 0
  /-- Rate in pu per tick, as a fraction. -/
  rateN : Nat := 16777216
  rateD : Nat := 200000000
  /-- QUAD: the phase at which the engine waits for the next count, in 2^-16 pu from the start of the present pitch
  (R146). -/
  wait : Option Nat := none
  /-- Stretches before the present one, latest first: a stamp read for an edge that lies in one is the stamp it had
  then (R9, R49). -/
  past : List PitchSeg := []
  /-- Changes of the source-quality code, latest first: tick, code until then (R148). -/
  qpast : List (Nat × Nat) := []
  st : EngState := .boot
  /-- Source followed, 0 FREE to 3 BEACON. -/
  src : Nat := 0
  quality : Nat := 2
  /-- Measured period of the source followed, in ticks. -/
  period : Nat := 0
  lastErr : Int := 0
  holdover : Nat := 0
  /-- Tick of the engine's last pitch boundary. -/
  boundTick : Nat := 0
  /-- Tick of the boundary before it. -/
  boundPrev : Nat := 0
  /-- Per source: tick of the last filtered edge, if any. -/
  lastEdge : Option Nat := none
  /-- Consecutive valid points of PULSE, QUAD, BEACON. -/
  qualPulse : Nat := 0
  qualQuad : Nat := 0
  qualBeacon : Nat := 0
  /-- Last valid point of PULSE, QUAD, BEACON. -/
  refPulse : RefPoint := {}
  refQuad : RefPoint := {}
  refBeacon : RefPoint := {}
  /-- QUAD: counts since the index, tick of the last count, direction. -/
  qcount : Nat := 0
  qTick : Option Nat := none
  /-- QUAD: the last count interval in ticks, 0 before the first (R146). -/
  qIval : Nat := 0
  qDir : Nat := 0
  qIndex : Option Nat := none
  slip : SlipStage := .none
  /-- Predicted reference boundary, tick. -/
  predict : Nat := 0
  /-- Length of the slip pitch in ticks and the tick at which it ends. -/
  slipLen : Nat := 0
  slipEnd : Nat := 0
  /-- A point inside the slip pitch that falls in its closing window: its tick. -/
  slipPoint : Option Nat := none
  /-- Beacons: tick of the last accepted master beacon, master period, offset. -/
  lastBeacon : Option Nat := none
  offset : Int := 0
  /-- The level that PITCH_OUT is driven to, and the tick of its last rising edge (R155). -/
  out : Bool := false
  outAt : Nat := 0
  deriving DecidableEq, Repr

/-! ### Admission (chapter 08) -/

/-- One admitted item of a leg plan. -/
structure PlanItem where
  /-- Stamp of the start of the leg of its plan. -/
  leg : Nat
  /-- Position of its first record in the plan's admission order. -/
  index : Nat
  item : Item
  stream : Nat
  /-- Sequence number of its first part (R61). -/
  seq : Nat
  cls : Nat
  defer : Nat
  eset : Nat
  /-- Its belay hold is open (R213). -/
  held : Bool
  /-- Custody listeners still to be handed the item. -/
  hand : Nat
  /-- The characters that egress sends for it, by serial listener: each with its address bit (R281). -/
  chars : List (Nat × List (Byte × Bool))
  /-- Parts whose record a standby could not match: it sends nothing for them (R215). -/
  skip : List Nat := []
  deriving DecidableEq, Repr

/-- One record of a frame: plan item index, part number, its bytes on the wire. -/
structure FrameRec where
  index : Nat
  part : Nat
  bytes : List Byte
  deriving DecidableEq, Repr

/-- A frame that admission packs (R166), or an unscheduled frame (R165). -/
structure PlanFrame where
  port : Nat
  /-- Gate entry of its window. -/
  window : Nat
  group : Nat
  format : Nat
  cls : Nat
  recs : List FrameRec
  /-- Sum of the record lengths. -/
  size : Nat
  /-- Datagram number of a twin datagram, given at its first departure (R254). -/
  number : Option Nat
  deriving DecidableEq, Repr

/-- A leg plan (R158). -/
structure Plan where
  /-- Stamp of the start of its leg. -/
  leg : Nat := 0
  /-- Predicted start of its leg, in picoseconds of the model's clock (R167). -/
  start : Nat := 0
  items : List PlanItem := []
  frames : List PlanFrame := []
  /-- Bytes charged per window: key 256 × port + entry. -/
  charges : SMap Nat := []
  /-- Records admitted. -/
  count : Nat := 0
  /-- Twin datagrams sent with this leg stamp. -/
  datagrams : Nat := 0
  /-- First index not acknowledged (R212). -/
  acked : Nat := 0
  /-- Records handed to ADMIT frames. -/
  sent : Nat := 0
  /-- Running CRC of the admission digest (R219). -/
  digest : Nat := 0xFFFFFFFFFFFFFFFF
  /-- A standby's next record to charge to the plan (R178, R253). -/
  cursor : Nat := 0
  /-- Datagrams that have departed: group, records, payload; one datagram carries the same bytes on every port (R250). -/
  built : List (Nat × List FrameRec × List Byte) := []
  deriving DecidableEq, Repr

/-- A proposed item with its deferrals (R172). -/
structure Proposal where
  item : Item
  stream : Nat
  cls : Nat
  defer : Nat
  eset : Nat
  deferred : Nat
  /-- A new active admits it as an orphan (R196): where it cannot, it is discarded as ORPHAN (R15). -/
  orphan : Bool := false
  /-- Parts whose record a standby could not match (R215). -/
  skip : List Nat := []
  deriving DecidableEq, Repr

/-- A copy in the standby's shadow hold (R214). -/
structure Shadow where
  prop : Proposal
  /-- Start stamp of the leg in which it was proposed. -/
  leg : Nat
  order : Nat
  deriving DecidableEq, Repr

/-- An admission record on the wire (R211). -/
structure AdmRec where
  mark : Nat
  gsid : Nat
  seq : Nat
  stamp : Nat
  digest : Nat
  deriving DecidableEq, Repr

/-- A record that waits for an ADMIT frame: plan leg, admission index, and the instant at which it was queued (R212). -/
structure WaitRec where
  leg : Nat
  index : Nat
  since : Nat
  adm : AdmRec
  deriving DecidableEq, Repr

/-- A record received by the standby (R214, R219). -/
structure RecvRec where
  leg : Nat
  index : Nat
  adm : AdmRec
  arrived : Nat
  /-- 0 pending, 1 matched, 2 unheld, 3 of the active's internal streams. -/
  state : Nat
  /-- SEQ of its stream on this unit before R217 updated it. -/
  ownSeq : Nat
  /-- Position of its part within its item. -/
  part : Nat
  /-- The matched copy of its item. -/
  copy : Option Proposal
  deriving DecidableEq, Repr

/-! ### Rope team (chapters 09 and 10) -/

/-- Roles (R189). -/
inductive Role where
  | none | solo | active | standby | darning | isolated | hold
  deriving DecidableEq, Repr

/-- The encoding of 0x2600:01. -/
def Role.code : Role → Nat
  | .none => 0 | .solo => 1 | .active => 2 | .standby => 3 | .darning => 4 | .isolated => 5
  | .hold => 6

/-- A pending mode change (R202, R203). -/
structure ModeChange where
  mode : Nat
  target : Nat
  epoch : Nat
  domain : Bool
  deriving DecidableEq, Repr

/-- A discrete output's pulse machinery (R199). -/
structure Discrete where
  /-- The pulse in progress: SET?, end instant. -/
  pulse : Option (Bool × Nat) := Option.none
  /-- A held write. -/
  held : Option Bool := Option.none
  /-- Instant at which the held write may start. -/
  ready : Nat := 0
  deriving DecidableEq, Repr

/-- Role logic. -/
structure Team where
  role : Role := .none
  /-- Strap sampled at the release of PORST_N (R181). -/
  posB : Bool := false
  refused : Bool := false
  reason : Nat := 0
  rope : Bool := false
  ropeLink : Bool := false
  alive : Bool := false
  claimIn : Bool := false
  backbone : Bool := false
  serOwn : Bool := false
  claimOut : Bool := false
  aliveOut : Bool := false
  degraded : Bool := false
  wiring : Bool := false
  aliveFault : Bool := false
  formed : Bool := false
  /-- The pairing check has passed in this rope session; the session key is derived; a HELLO has been received. -/
  passed : Bool := false
  keyed : Bool := false
  peerKnown : Bool := false
  /-- A rope session has begun and no loss of the rope has ended it. -/
  session : Bool := false
  /-- Reason of the refusal in force, on either side; 0 for none (R184). -/
  refusal : Nat := 0
  /-- Partner's role and position known in this rope session. -/
  partnerRole : Role := .none
  partnerB : Option Bool := Option.none
  /-- Instant of the last edge on ALIVE_IN. -/
  lastAlive : Nat := 0
  /-- Instants of the last valid rope frame and of the last HELLO sent, and the stamp by which a partner beacon is due
  (R150, R183, R188). -/
  lastRope : Nat := 0
  lastHello : Nat := 0
  beaconDue : Nat := 0
  /-- Claim asserted awaiting its sample: instant, last row of R193?, warm?, cold start? -/
  claiming : Option (Nat × Bool × Bool × Bool) := Option.none
  /-- Join retry awaited since. -/
  retry : Option Nat := Option.none
  /-- The pair-join window is open since. -/
  joining : Option Nat := Option.none
  /-- Frame counter of the rope session. -/
  frameCtr : Nat := 0
  ropeEpoch : Nat := 0
  peerEpoch : Nat := 0
  peerCtr : Option Nat := Option.none
  /-- Mode, epoch are entries 0x2020; the pending change. -/
  change : Option ModeChange := Option.none
  /-- The last domain change that this unit took, reported late or was relayed (R203, R204). -/
  lastDomain : Option ModeChange := Option.none
  /-- The leg at whose start a mode change was last applied (R224). -/
  modeLeg : Option Nat := Option.none
  /-- HEARTBEATs in a row, each within 25 µs of the one before, and the instant of the last (R188). -/
  beats : Nat := 0
  lastBeat : Nat := 0
  /-- Instant of the last rope frame sent (R229). -/
  lastSent : Nat := 0
  deriving DecidableEq, Repr

/-- An unacknowledged mirror delta (R222). -/
structure Delta where
  seq : Nat
  seg : Nat
  version : Nat
  offset : Nat
  cont : Bool
  data : List Byte
  /-- Instant of its latest transmission. -/
  sent : Nat := 0
  deriving DecidableEq, Repr

/-- An answer that a transport owes (R35, R209, R261). -/
inductive Answer where
  | sdo (f : CanFrame)
  /-- Peer row, the request without its data, the reply's datagram. -/
  | od (peer : Nat) (q : OdRequest) (reply : List Byte)
  deriving DecidableEq, Repr

/-- Mirroring, belay and darning. -/
structure Mirror where
  /-- Records waiting for an ADMIT frame, oldest first (R212). -/
  waiting : List WaitRec := []
  /-- The body of a cairn that waits for the records of its plan to leave, and audits due in this leg (R218, R223, R247). -/
  cairnOwed : Option (List Byte) := Option.none
  auditDue : Bool := false
  /-- Records sent and not acknowledged: plan leg, index, record. -/
  unacked : List (Nat × Nat × AdmRec) := []
  /-- ADMIT frames not acknowledged: plan leg, last index, instant sent. -/
  admits : List (Nat × Nat × Nat) := []
  /-- Belay is in force from the plan with this leg stamp on (R213). -/
  belayFrom : Option Nat := Option.none
  /-- This unit acknowledges records from this plan on (R224). -/
  ackFrom : Option Nat := Option.none
  shadow : List Shadow := []
  shadowNext : Nat := 0
  recv : List RecvRec := []
  /-- Next index expected, per plan leg. -/
  expect : SMap Nat := []
  /-- A cairn whose digest awaits this unit's own: plan leg, digest, cairn leg. -/
  cairnCheck : Option (Nat × Nat × Nat) := Option.none
  /-- Leg stamp of the last cairn, its delta count, cairns missing in a row, the last leg judged missing. -/
  cairnLeg : Option Nat := Option.none
  cairnDeltas : Option Nat := Option.none
  cairnsMissed : Nat := 0
  missedLeg : Option Nat := Option.none
  /-- The cairn that a warm takeover still awaits: its leg stamp (R226). -/
  cairnDue : Option Nat := Option.none
  /-- A mode change or commit was applied at the start of the leg in progress (R218). -/
  applied : Bool := false
  /-- Records unheld in the leg in progress. -/
  unheldLeg : Nat := 0
  /-- Versions per segment, and the segments this unit holds. -/
  versions : SMap Nat := []
  held : SMap Bool := []
  /-- Deltas issued since the team formed; those not acknowledged. -/
  deltaSeq : Nat := 0
  deltas : List Delta := []
  /-- Next delta expected, and those of a run awaiting its last, oldest first. -/
  deltaIn : Nat := 0
  run : List Delta := []
  /-- Segments whose next delta is sent though nothing of them changed: a write to an M entry (R209). -/
  force : List Nat := []
  /-- The active's alert states as mirrored to this unit (R208). -/
  alertSeg : List Byte := []
  /-- A standby sends twin datagrams from the plan with this leg stamp on (R224). -/
  twinFrom : Nat := 0
  /-- Darning on the active: segment in progress with its version and next piece; segments not sent, pieces left of the segment in progress, segments not acknowledged. -/
  darning : Bool := false
  darnNow : Option (Nat × Nat × Nat) := Option.none
  darnQueue : List Nat := []
  darnPieces : List (List Byte) := []
  darnWait : List Nat := []
  /-- Segments that the standby has acknowledged since its darning began (R222). -/
  peerHeld : List Nat := []
  darnStart : Nat := 0
  darnLegL : Option Nat := Option.none
  /-- Step 2 awaits a pending mode change, or the next heartbeat (R224). -/
  darnOwed : Bool := false
  /-- Pieces of segments being received: segment, offset, data. -/
  pieces : List (Nat × Nat × List Byte) := []
  /-- Segments requested of the active and not yet received. -/
  requested : List Nat := []
  auditNext : Nat := 0
  /-- Answers to M writes that wait for the acknowledgement of their delta (R209). -/
  mwrites : List (Nat × Answer) := []
  /-- Pattern generator and checker (R229). -/
  prbsTx : Nat := 0x7FFFFFFF
  prbsRx : Option Nat := Option.none
  /-- Counts of the present pitch for the health report (R228). -/
  hCairns : Nat := 0
  hDiv : Nat := 0
  hAudit : Bool := false
  hCause : Nat := 0
  hPattern : Nat := 0
  hScrub : Nat := 0
  hUncorr : Nat := 0
  deriving DecidableEq, Repr

/-! ### Backbone ports (chapters 11 and 12) -/

/-- An unscheduled frame (R165). -/
inductive Unsched where
  /-- A beacon of a backbone group; it is filled in as it leaves (R260). -/
  | beacon (group : Nat) (master : Bool)
  /-- An OD-access reply: the frame up to its FCS, untagged. -/
  | reply (bytes : List Byte)
  deriving DecidableEq, Repr

/-- What a transmitter is sending. -/
inductive Sending where
  | idle
  /-- A frame of a plan until an instant: frame, leg stamp. -/
  | plan (f : PlanFrame) (leg : Nat) (left : Bool) (until_ : Nat)
  | other (u : Unsched) (until_ : Nat)
  deriving DecidableEq, Repr

/-- A frame queued on a port: plan frame with its plan's leg stamp. -/
structure Queued where
  frame : PlanFrame
  leg : Nat
  /-- Left over from an ended leg (R175). -/
  left : Bool
  deriving DecidableEq, Repr

/-- One departure-stamp record (R242). -/
structure StampRec where
  stamp : Nat
  queue : Nat
  number : Nat
  gap : Bool
  lost : Nat
  deriving DecidableEq, Repr

/-- One backbone port. Times are in picoseconds of the model's clock. -/
structure Port where
  linkUp : Bool := false
  /-- Bits [5:1] of link status as last reported (R233). -/
  link : Nat := 0
  /-- Its link fell and has not returned: 0xA400 (R248). -/
  fell : Bool := false
  tx : Sending := .idle
  queue : List Queued := []
  unsched : List Unsched := []
  reserveUsed : Nat := 0
  /-- Gate entries whose windows are open. -/
  opened : List Nat := []
  /-- A master beacon is due and not yet queued (R151). -/
  masterDue : Bool := false
  /-- A pause in progress: the end that its frame asks for; and since when it holds the transmitter (R241). -/
  pause : Option Nat := Option.none
  pausedSince : Option Nat := Option.none
  /-- Pause honoured in the leg before `pausedSince` (R176). -/
  honoured : Nat := 0
  /-- Start of the present stretch held by pause or leftovers, and the schedule shift before it (R176). -/
  heldSince : Option Nat := Option.none
  shift : Nat := 0
  stamps : List StampRec := []
  lostPending : Nat := 0
  /-- Transmitted-frame counter (R242). -/
  frames : Nat := 0
  /-- The popped record: stamp, info, frame number. -/
  popped : Nat × Nat × Nat := (0, 0, 0)
  /-- Frames in the receive buffer: T_last and bytes; a frame leaves it when no item of it waits for a tag (R52). -/
  buffer : List (Nat × Nat) := []
  /-- Discards under orders 1 to 3 of R234 in this pitch (R248). -/
  discards : Nat := 0
  /-- The receive MAC domain is in reset (R367). -/
  inReset : Bool := false
  deriving DecidableEq, Repr

/-- A kept OD-access reply of one peer row: request ID, source port, and the reply's datagram, empty while the request is still
executing (R262). -/
structure KeptReply where
  id : Nat
  port : Nat
  reply : List Byte
  deriving DecidableEq, Repr

/-! ### Serial channels (chapter 13) -/

/-- A custody item of a serial listener: its characters, address bits included, and what completion needs. -/
structure SerItem where
  stream : Nat
  /-- Characters to send, each with its address bit. -/
  chars : List (Byte × Bool)
  /-- Sentence digest of its first part, for retries (R285). -/
  digest : Nat
  deadline : Nat
  /-- Instant at which the leg of handover began, for WORST (R171). -/
  startNow : Nat
  deriving DecidableEq, Repr

/-- One serial channel. -/
structure SerCh where
  /-- Divisor in force at the transmitter and at the receiver (R275). -/
  txDiv : Nat := 666667
  rxDiv : Nat := 666667
  txPend : Bool := false
  rxPend : Bool := false
  muted : Bool := true
  stuck : Bool := false
  /-- The level of the line before the samples that the receiver takes next: a falling edge needs a high one (R271). -/
  high : Bool := true
  /-- CTS_N as last told, asserted or not, and the CORE cycle for which it was told (R282). -/
  cts : Bool := false
  ctsAt : Option Nat := none
  rts : Bool := true
  /-- The item that is, or was last, in the second buffer of the parse context, by its number among all items (R277). -/
  second : Option Nat := none
  de : Bool := false
  /-- RAW receive FIFO, oldest first. -/
  rx : List RxChar := []
  /-- A loss awaits the next character stored (R277, R278). -/
  overrun : Bool := false
  /-- Transports whose most recent access was an RX status read (R279). -/
  statusRead : ByTr Bool := ⟨false, false, false, false⟩
  /-- RAW transmit FIFO, oldest first. -/
  tx : List (Byte × Bool) := []
  custody : List SerItem := []
  /-- Characters already sent of the head item. -/
  sent : Nat := 0
  /-- A character is in the shifter: the character, and whether it comes from the RAW FIFO. -/
  shift : Option (Byte × Bool) := none
  shiftRaw : Bool := false
  /-- Retry in progress: attempts made, wait not before. -/
  attempts : Nat := 0
  waitUntil : Option Nat := none
  /-- Line count of n: for TXTAG 2 (R281). -/
  lineNo : Nat := 1
  /-- Instant at which the last transmission ended (R283). -/
  txEnd : Nat := 0
  /-- Half duplex: the receiver delivers nothing until the line has been high for one character time from `quiet` on
  (R284). -/
  blind : Bool := false
  quiet : Nat := 0
  /-- Losses and collisions in the present pitch. -/
  lost : Nat := 0
  coll : Nat := 0
  /-- The receiver runs from the keep-alive clock (R288). -/
  ka : Bool := false
  /-- Wake buffer: each character with the instant of its first edge; its match, by row or address, and whether the wake
  event has been given (R289, R290). -/
  wakeBuf : List (RxChar × Nat) := []
  wakeHit : Option Nat := none
  wakeTold : Bool := false
  /-- Lengths of the wake buffer at which the line became stuck: the item in progress ended there (R274). -/
  wakeCuts : List Nat := []
  /-- Tunnel run being cut: stamp and source quality of its first edge, bytes, instant of its last stop-bit sample
  (R334). -/
  run : Option (Nat × Nat × List Byte × Nat) := none
  deriving DecidableEq, Repr

/-! ### CAN channels (chapter 14) -/

/-- A custody item of a CAN listener. -/
structure CanItem where
  stream : Nat
  frames : List CanFrame
  deadline : Nat
  startNow : Nat
  deriving DecidableEq, Repr

/-- The queues of a CAN controller, in their order (R301, R335). -/
inductive CanQueue where
  | prio | tunnel | custody
  deriving DecidableEq, Repr

/-- Sleep states (R306). -/
inductive Sleep where
  | awake | armed | agreed | committed | asleep | waking
  deriving DecidableEq, Repr

/-- The encoding of 0x2C1n:03. -/
def Sleep.code : Sleep → Nat
  | .awake => 0 | .armed => 1 | .agreed => 2 | .committed => 3 | .asleep => 4 | .waking => 5

/-- One CAN channel. -/
structure CanCh where
  /-- Integrated with the bus (R304, R305). -/
  sync : Bool := false
  /-- Transmit and receive error counts. -/
  txErr : Nat := 0
  rxErr : Nat := 0
  busOff : Bool := false
  recovering : Bool := false
  stuck : Bool := false
  /-- The frame in transmission, and whether it is of `prio`, of `tunnel` or of the custody FIFO. -/
  tx : Option (CanQueue × CanFrame) := none
  custody : List CanItem := []
  /-- SDO replies and alert frames waiting, oldest first (R301). -/
  prio : List CanFrame := []
  /-- Tunnel frames waiting, at most 16 (R335). -/
  tunnel : List CanFrame := []
  sleep : Sleep := .awake
  /-- Agreement deadlines as stamps: of the latest awake request, and of arming; a request has been seen since arming
  (R307, R308). -/
  reqBy : Option Nat := none
  armBy : Nat := 0
  seen : Bool := false
  /-- Report, commit, re-wake and T_valid deadlines as stamps; the report of this arming has been made. -/
  reported : Bool := false
  reportBy : Nat := 0
  commitBy : Nat := 0
  windowBy : Nat := 0
  validBy : Nat := 0
  /-- At BIVOUAC entry, until the return to SERVICE: its state then, and stuck then; a wake input seen since (R309). -/
  before : Sleep := .awake
  stuckThen : Bool := false
  woke : Bool := false
  deriving DecidableEq, Repr

/-! ### Host ports, bridge and tunnels (chapter 15) -/

/-- What a delayed-read or delayed-write slot holds (R317, R319). -/
inductive SlotState where
  | free
  /-- A read waits for earlier posted writes to its window (R322). -/
  | queued
  | fetching | fetched
  /-- A local delayed write runs, or has taken effect. -/
  | writing | written
  deriving DecidableEq, Repr

/-- A delayed-read or delayed-write slot (R317, R319). -/
structure BridgeSlot where
  st : SlotState := .free
  /-- HLB address and burst length of the access that claimed it. -/
  addr : Nat := 0
  beats : Nat := 0
  /-- Data and byte enables of each beat of a delayed write. -/
  data : List (Nat × Nat) := []
  /-- Earlier posted writes to the window still to complete. -/
  behind : Nat := 0
  /-- Slot value fetched; none when the fetch failed. -/
  value : Option Nat := none
  /-- The fetch also reads the slot that follows (R321). -/
  prefetch : Bool := false
  /-- Instant of the present attempt, or of completion. -/
  since : Nat := 0
  attempts : Nat := 0
  request : Nat := 0
  /-- Delta sequence whose acknowledgement completes a delayed M write; none for a write to an L entry. -/
  delta : Option Nat := none
  deriving DecidableEq, Repr

/-- What the bridge keeps of one remote window: slot address and value each (R28, R321). -/
structure Window where
  prefetch : Option (Nat × Nat) := none
  holding : Option (Nat × Nat) := none
  /-- Snapshot of a low-word read. -/
  snap : Option (Nat × Nat) := none
  /-- Held low word of a write, with its instant. -/
  low : Option (Nat × Nat × Nat) := none
  deriving DecidableEq, Repr

/-- A slot write queued for a window (R322); one of a locked sequence is not posted (R323). -/
structure Posted where
  win : Nat
  /-- HLB address, and the value written. -/
  addr : Nat
  data : Nat
  locked : Bool
  /-- Its request has been sent: attempts and instant of the present one. -/
  sent : Bool := false
  attempts : Nat := 0
  since : Nat := 0
  request : Nat := 0
  deriving DecidableEq, Repr

/-- An error-log entry (R322). -/
structure LogEntry where
  addr : Nat
  data : Nat
  node : Nat
  code : Nat
  abort : Nat
  stamp : Nat
  deriving DecidableEq, Repr

/-- The mailbox registers, and its access in progress (R326). -/
structure Mailbox where
  win : Nat := 0
  slot : Nat := 0
  low : Nat := 0
  high : Nat := 0
  command : Nat := 0
  status : Nat := 0
  abort : Nat := 0
  /-- Earlier posted writes to the window still to complete; the request is sent at 0. -/
  behind : Nat := 0
  since : Nat := 0
  attempts : Nat := 0
  request : Nat := 0
  deriving DecidableEq, Repr

/-- The bridge. -/
structure Bridge where
  slots : List BridgeSlot := List.replicate 4 {}
  windows : SMap Window := []
  posted : List Posted := []
  log : List LogEntry := []
  nextRequest : Nat := 0
  /-- Semaphore: window, slot address, last access (R323). -/
  sem : Option (Nat × Nat × Nat) := none
  /-- A write of the locked sequence: HLB address, data, and whether it has completed at the target. -/
  lockWrite : Option (Nat × Nat × Bool) := none
  mailbox : Mailbox := {}
  deriving DecidableEq, Repr

/-- A DMA ring (R327). -/
structure Ring where
  base : Nat := 0
  size : Nat := 16
  enable : Bool := false
  vector : Nat := 0
  holdoff : Nat := 0
  producer : Nat := 0
  consumer : Nat := 0
  /-- Buffer sizes of the receive descriptors handed over and not yet completed, oldest first: what the host wrote into
  them (R328). -/
  buffers : List Nat := []
  /-- Instant of the first completion not yet signalled (R332). -/
  signal : Option Nat := none
  deriving DecidableEq, Repr

/-- MSI-X: per vector masked and pending. -/
structure Msix where
  masked : List Bool := List.replicate 32 true
  pending : List Bool := List.replicate 32 false
  deriving DecidableEq, Repr

/-! ### Power, pins and start-up (chapters 16 and 22) -/

/-- What a drain leads to (R38, R344). -/
inductive DrainGoal where
  | config | bivouac | shelter
  deriving DecidableEq, Repr

/-- Power state, device state and the sensors. -/
structure Power where
  st : DevState := .off
  /-- Reset causes applied since the last boot: bit c for cause c of 0x2006:01. -/
  causes : Nat := 0
  /-- PORST_N is low, or VDD_KA is absent. -/
  porst : Bool := true
  noKa : Bool := false
  /-- Held in reset by a brown-out. -/
  brown : Bool := false
  /-- TRIM is the power state; the masks taken at its entry, subindex 1 to 7. -/
  trim : Bool := false
  masks : List Nat := []
  /-- Budgets of the plans being opened count the masks. -/
  trimPlan : Bool := false
  /-- An accepted RUN or TRIM change: TRIM?, start stamp of leg k + 2 (R343). -/
  change : Option (Bool × Nat) := none
  /-- The drain in progress: goal, leg boundaries still to come, rinse at which admission stops passed. -/
  drain : Option (DrainGoal × Nat) := none
  /-- The drain is over and its goal awaited. -/
  drained : Bool := false
  /-- A validated SERVICE request awaits the pitch boundary that ends this pitch (R38). -/
  resume : Option Nat := none
  /-- Arming instant and completion of the last low-power entry (R344, R345). -/
  armedAt : Nat := 0
  entryDone : Nat := 0
  armed : Bool := false
  /-- A wake event fell during the entry: its SOURCE. -/
  wakeDuring : Option Nat := none
  /-- The first wake event: alert code and detail. -/
  wakeAlert : Option (Nat × Nat) := none
  wakeOut : Bool := false
  /-- Wake command instant awaiting SERVICE, for histogram 21. -/
  wakeAt : Option Nat := none
  /-- PWR_REQ1:0 as they stand. -/
  pwrPins : Nat := 0
  /-- VDDIO_H as sensed at the last release of PORST_N, at 1.8 V?: held until the next (R433). -/
  hostIo18 : Option Bool := none
  /-- Tj in whole degrees, THERM_N asserted. -/
  tj : Int := 25
  therm : Bool := false
  /-- Thermal trip record in the keep-alive domain and MRAM: peak Tj. -/
  trip : Option Int := none
  /-- A boot is held at step 2 by the thermal trip record (R349). -/
  heldBoot : Bool := false
  /-- Alerts of the boot in progress, oldest first: code, severity, detail; raised once it has ended (R40). -/
  owed : List (Nat × Nat × Nat) := []
  /-- Memory BIST found unrepairable words at the last boot; logic BIST failed (flags of R228). -/
  bistFail : Bool := false
  logicFail : Bool := false
  deriving DecidableEq, Repr

/-- Boundary-scan instructions (R425). -/
inductive TapInstr where
  | bypass | idcode | samplePreload | extest | clamp | highz | extestPulse | extestTrain
  deriving DecidableEq, Repr

/-- The TAP: instruction in force, data register last captured, boundary cells preloaded. -/
structure Tap where
  instr : TapInstr := .idcode
  dr : Nat := 0
  cells : List Bool := []
  /-- The boundary cells, not the functions, drive the pins. -/
  drives : Bool := false
  deriving DecidableEq, Repr

/-! ### Clocks and resets (chapter 17) -/

/-- PLLs, the RTC, the keep-alive source and the reset domains. -/
structure Clocks where
  /-- Locked PLLs, bits of 0x2005:01. -/
  pll : Nat := 0
  /-- RTC: runs, stopped mark, time counted up to `rtcFrom` in CORE cycles. -/
  rtcRuns : Bool := true
  rtcMark : Bool := false
  rtcBase : Nat := 0
  rtcFrom : Nat := 0
  /-- Domains in reset, bits of 0x2005:05. -/
  inReset : Nat := 0
  /-- Keep-alive source of 0x2005:02. -/
  kaSrc : Nat := 0
  deriving DecidableEq, Repr

/-! ### Vault (chapter 18) -/

/-- Life-cycle states (R370, R371). -/
inductive Life where
  | blank | factory | owned | service | secondLife | retired
  deriving DecidableEq, Repr

/-- The code of a life-cycle state. -/
def Life.code : Life → Nat
  | .blank => 0 | .factory => 1 | .owned => 2 | .service => 3 | .secondLife => 4 | .retired => 5

/-- The state of a code. -/
def Life.ofCode : Nat → Option Life
  | 0 => some .blank | 1 => some .factory | 2 => some .owned | 3 => some .service
  | 4 => some .secondLife | 5 => some .retired | _ => none

/-- The moves that R371 permits by a transition package. -/
def Life.permits : Life → Life → Bool
  | .factory, .owned | .factory, .retired | .owned, .service | .owned, .retired
  | .service, .secondLife | .service, .retired | .secondLife, .retired => true
  | _, _ => false

/-- Key slot copy: key, metadata, whether its tag passes (R374). -/
structure KeyCopy where
  key : List Byte
  mask : Nat
  bind : Nat
  carry : Bool
  len : Nat
  version : Nat
  tagOk : Bool
  deriving DecidableEq, Repr

/-- A key slot: copies A and B (R374) and its status (R375, R376). -/
structure KeySlot where
  a : Option KeyCopy := none
  b : Option KeyCopy := none
  status : Nat := 0
  deriving DecidableEq, Repr

/-- The fuses (R371 to R373): the state, spare rows for the next transition, and what was fused when the state was
entered. -/
structure Otp where
  life : Life
  spare : Nat
  /-- The rack verification key of the state, X then Y. -/
  verify : List Byte
  salt : Nat
  deriving DecidableEq, Repr

/-- A life-cycle transition under way: target, new verification key, slots carried (R372). -/
structure Transition where
  target : Life
  verify : List Byte
  carry : Bool
  deriving DecidableEq, Repr

/-- The vault. -/
structure Vault where
  /-- 0 SEALED, 1 UNSEALED, 2 KEYLESS. -/
  st : Nat := 0
  cause : Nat := 0
  slots : SMap KeySlot := []
  /-- The verification key of the fuses, as boot step 3 read it. -/
  verify : List Byte := []
  /-- A running import: package, and the wrapping key it was started with. -/
  importing : Option (List Byte × Option (List Byte)) := none
  transition : Option Transition := none
  /-- A running challenge: message, key. -/
  challenge : Option (List Byte × List Byte) := none
  response : List Byte := []
  /-- Tamper latch and stamp, and whether an alarm latched in BIVOUAC or SHELTER. -/
  latch : Nat := 0
  stamp : Nat := 0
  coldAlarm : Bool := false
  /-- 0xA500 owed at the next SERVICE. -/
  owed : Bool := false
  /-- The next boot is the first after a transition: old state code, new state code. -/
  moved : Option (Nat × Nat) := none
  deriving DecidableEq, Repr

/-! ### Ledger (chapter 19) -/

/-- The ledger state of one string (R393 to R396, R401). -/
structure LString where
  chg : Nat := 0
  dis : Nat := 0
  refC : Int := 0
  refD : Int := 0
  refStamp : Nat := 0
  refP : Int := 0
  s : Nat := 0
  t : Nat := 0
  c : Nat := 0
  valid : Bool := false
  start : Nat := 0
  /-- Remainders in units of 2^-32 mWh. -/
  remC : Nat := 0
  remD : Nat := 0
  bins : SMap Nat := []
  /-- Dwell not yet counted, in units of 2^-24 tick (R395). -/
  remMs : Nat := 0
  /-- Energy, remainders and bins of the interval that follows, while the closed one awaits its close. -/
  nextC : Nat := 0
  nextD : Nat := 0
  nextBins : SMap Nat := []
  /-- Flags of the record of the running interval and of the next (R397). -/
  flags : Nat := 0
  nextFlags : Nat := 0
  deriving DecidableEq, Repr

/-- A ledger record that is formed and signed: string, number, bytes, interval end. -/
structure LRecord where
  string : Nat
  number : Nat
  bytes : List Byte
  finish : Nat
  /-- Sequence number of the delta whose acknowledgement releases it (R401). -/
  waits : Option Nat
  deriving DecidableEq, Repr

/-- The ledger. -/
structure Ledger where
  strings : SMap LString := []
  /-- An interval boundary that has passed and waits for its close. -/
  closing : Option Nat := none
  /-- End of the interval last closed, and the strings whose record of it is still to be formed. -/
  lastEnd : Nat := 0
  pending : List Nat := []
  /-- Records formed and not yet emitted, oldest first. -/
  owed : List LRecord := []
  /-- Records retained in MRAM, newest first: number, bytes. -/
  records : List (Nat × List Byte) := []
  /-- Chain digest of the latest record. -/
  head : List Byte := List.replicate 32 0
  /-- The next record is the first of a life-cycle state, or the first after a cold takeover. -/
  stateChange : Bool := false
  restart : Bool := false
  deriving DecidableEq, Repr

/-! ### Logbook (chapter 20) -/

/-- A journal entry (R412). -/
structure JEntry where
  stamp : Nat
  number : Nat
  code : Nat
  flags : Nat
  quality : Nat
  detail : Nat
  lost : Nat
  rtc : Nat
  deriving DecidableEq, Repr

/-- The pitch record of a snapshot or a last-gasp (R153). -/
structure PitchRecord where
  stamp : Nat
  period : Nat
  rtc : Nat
  deriving DecidableEq, Repr

/-- One snapshot copy (R405, R408). -/
structure Snap where
  seq : Nat
  stamp : Nat
  counters : SMap Nat
  hist : SMap Nat
  strings : SMap LString
  pitch : PitchRecord
  deriving DecidableEq, Repr

/-- The last-gasp record (R411). -/
structure Gasp where
  cause : Nat
  lost : Nat
  stamp : Nat
  period : Nat
  rtc : Nat
  generation : Nat
  latch : Nat
  next : Nat
  peak : Int
  entries : List JEntry
  deriving DecidableEq, Repr

/-- The logbook: MRAM content and its working copies. -/
structure Logbook where
  a : Option Snap := none
  b : Option Snap := none
  running : Option Snap := none
  heldTrigger : Bool := false
  /-- Journal in MRAM, newest first; the write queue, oldest first, each with its instant. -/
  journal : List JEntry := []
  queue : List (JEntry × Nat) := []
  next : Nat := 0
  lost : Nat := 0
  lostSince : Nat := 0
  /-- Generation of R225 in MRAM. -/
  generation : Nat := 0
  gasp : Option Gasp := none
  gaspRead : List Byte := []
  hist : SMap Nat := []
  histCopy : List Nat := List.replicate 32 0
  /-- Instant at which the snapshot interval last restarted. -/
  since : Nat := 0
  /-- A trigger of BIVOUAC entry, reboot and the like has been given: accumulators written with a record. -/
  accum : SMap LString := []
  deriving DecidableEq, Repr

/-! ### Loops (chapter 21) -/

/-- The loops that took effect at the last entry to SERVICE (R418). -/
structure Loops where
  serial : List Nat := []
  can : Nat := 0
  ports : Nat := 0
  ingest : Nat := 0
  pitch : Bool := false
  deriving DecidableEq, Repr

/-- A loop is set. -/
def Loops.any (l : Loops) : Bool := l.serial.any (· ≠ 0) || l.can ≠ 0 || l.ports ≠ 0 || l.ingest ≠ 0 || l.pitch

/-! ### What the block sends -/

/-- An output of the block, as the model records it. -/
inductive Out where
  /-- The head of a frame leaves a backbone port: port, bytes without FCS, departure stamp. -/
  | frame (port : Nat) (bytes : List Byte) (stamp : Nat)
  /-- A far-end loop sends the bytes that a port received, FCS included, again: port, 4 being the rope port (R422). -/
  | resent (port : Nat) (bytes : List Byte)
  /-- A rope frame from its destination address on, without padding and FCS (R182). -/
  | rope (frame : List Byte)
  | can (ch : Nat) (f : CanFrame)
  | serial (ch : Nat) (b : Byte) (addr : Bool)
  /-- Answer to an HLB beat or request. -/
  | hlbData (v : Nat)
  | hlbRetry
  | hlbDone
  /-- Answer to a PCIe request: data, completion, Unsupported Request. -/
  | pcieData (v : Nat)
  | pcieDone
  | pcieUnsupported
  /-- A descriptor written to host memory: ring, position, what the block writes of the descriptor, and the buffer. -/
  | dma (ring pos : Nat) (desc data : List Byte)
  | msix (vector : Nat)
  /-- An alert change: code, raised?, detail. -/
  | alert (code : Nat) (raised : Bool) (detail : Nat)
  /-- A coil pulse starts: output, SET?. -/
  | pulse (n : Nat) (set : Bool)
  /-- PITCH_OUT and ALIVE_OUT levels. -/
  | pitchOut (level : Option Bool)
  | aliveOut (level : Bool)
  /-- A bridge request to another node: window, request ID, slot address, the value of a write. -/
  | request (win id slot : Nat) (value : Option Nat)
  /-- The TAP's data register after a scan. -/
  | tdo (v : Nat)
  deriving DecidableEq, Repr

end Sys2Proof.Machine
end

