-- ==== Sys2Proof/Machine/Block.lean ====
section
/-! DEFINITION. Everything of the block but its queue of commands and its fuses. -/

namespace Sys2Proof.Machine

/-- The receiver window of one twin origin: stream, generation and newest sequence (R17, R257). -/
structure TwinWindow where
  stream : Nat
  gen : Nat
  seq : Nat
  /-- Instant of its last advance. -/
  last : Nat
  deriving DecidableEq, Repr

/-- A rack copy being programmed (R48). -/
structure Programming where
  copyB : Bool
  bytes : List Byte
  deriving DecidableEq, Repr

/-- A window of 2 µs at tag issue (R63): index of the window, items, sentence bytes, already counted. -/
structure Load where
  window : Nat := 0
  items : Nat := 0
  bytes : Nat := 0
  counted : Bool := false
  deriving DecidableEq, Repr

/-- The block. -/
structure Dev where
  /-- Instant of the last command, in CORE cycles (R354). -/
  now : Nat := 0
  /-- Free values taken (the model's own field). -/
  free : Nat := 0
  /-- Instant at which the leg in progress began. -/
  legAt : Nat := 0
  /-- What the block has sent, newest first, with its instant (the model's own field). -/
  out : List (Nat × Out) := []
  /-- Entries that differ from their defaults; key 256 × index + subindex (R22). -/
  od : SMap Nat := []
  /-- Instant of the last sticky condition, and the sticky bits set at it, by entry (R244, R291, R305, R331). -/
  stuckAt : Nat := 0
  stuckBits : SMap Nat := []
  alerts : List Alert := []
  pw : Power := {}
  tap : Tap := {}
  clk : Clocks := {}
  vault : Vault := {}
  ledger : Ledger := {}
  log : Logbook := {}
  loops : Loops := {}
  pitch : Pitch := {}
  team : Team := {}
  mirror : Mirror := {}
  discrete : SMap Discrete := []
  /-- Torn-access protection, domain ports, access blocks by index, SDO transfer (chapter 02). -/
  words : ByTr WordPair := ⟨{}, {}, {}, {}⟩
  dom : ByTr DomainPort := ⟨{}, {}, {}, {}⟩
  blocks : SMap Block := []
  sdo : Option SdoTransfer := none
  /-- Contents of P and V DOMAIN entries written by commits: key as `od`. -/
  domains : SMap (List Byte) := []
  /-- QSPI flash copies A and B (R44). -/
  flashA : List Byte := []
  flashB : List Byte := []
  programming : Option Programming := none
  /-- No valid rack: forwarding stopped until a reboot (R46). -/
  noRack : Bool := true
  /-- Base rows in force, by `rowKey`, and mode overlays, by `overlayKey` (R31, R121). -/
  rows : SMap (List Word32) := []
  overlays : SMap (List Word32) := []
  staged : List Staged := []
  commit : Option Nat := none
  /-- Staged-list applications: number of commits applied, for cairns (R119). -/
  commits : Nat := 0
  /-- Parse contexts by source (R76). -/
  ctx : SMap Context := []
  /-- The eight parse lanes, and the items that wait for one, oldest first (R53). -/
  lanes : List Lane := List.replicate 8 {}
  laneQueue : List Item := []
  /-- Backbone frames cut so far, and items that have entered the lanes (R55). -/
  framesCut : Nat := 0
  entered : Nat := 0
  waitTag : List Item := []
  tagged : List Tagged := []
  /-- Next tag-issue number, for issue order. -/
  issue : Nat := 0
  load : Load := {}
  groups : List GroupCtx := []
  learn : List Learn := []
  /-- Rate-rule theoretical arrival times by stream, change-probe values and failure runs by stream and probe. -/
  tat : SMap Nat := []
  probeLast : SMap (Option Int) := []
  probeFails : SMap Nat := []
  slots : SMap Slot := []
  /-- Next sequence numbers by stream (R61). -/
  seqs : SMap Nat := []
  members : SMap (Option MemberRec) := []
  sels : SMap Sel := []
  /-- Per-pitch MALFORMED counts by source; alert counts "since raised" by code. -/
  malformed : SMap Nat := []
  since : SMap Nat := []
  /-- The plan being filled, the plan of the leg in progress, the plan of the leg before it, and the plans of older legs
  that have something left, oldest first (R158, R175); deferred proposals. -/
  plan : Plan := {}
  sending : Plan := {}
  previous : Plan := {}
  older : List Plan := []
  /-- Per listener: custody horizon in picoseconds (R167), OUTSTANDING, OVERRUNS and WORST (R170). -/
  horizon : SMap Nat := []
  owed : SMap Nat := []
  overruns : SMap Nat := []
  worst : SMap Nat := []
  /-- Budgets of the plan last closed and high waters of charges, by 256 × port + entry (R179). -/
  budgets : SMap Nat := []
  highs : SMap Nat := []
  /-- Per backbone group: n: line count before the next line, g: id (R253). -/
  lineNo : SMap Nat := []
  groupId : SMap Nat := []
  deferred : List Proposal := []
  admStop : Bool := false
  ports : SMap Port := []
  /-- Frames that a loop returns to a receive path: port, bytes, stamp, ingest loop? (R422, R423). -/
  looped : List (Nat × List Byte × Nat × Bool) := []
  twins : List TwinWindow := []
  /-- Twin datagram numbers and GMAC counts by group. -/
  twinSeq : SMap Nat := []
  gmac : Nat := 0
  kept : SMap (List KeptReply) := []
  /-- The domain transfer open over OD-access: its peer row, and its last write request without its data (R261). -/
  odOpen : Option (Nat × OdRequest) := none
  ser : SMap SerCh := []
  /-- Mode and Format of each serial channel when the unit left SERVICE for CONFIG: 2^32 × Mode + Format (R266). -/
  serBefore : SMap Nat := []
  can : SMap CanCh := []
  bridge : Bridge := {}
  rings : SMap Ring := []
  msix : Msix := {}
  deriving DecidableEq, Repr

end Sys2Proof.Machine
end

