-- ==== Sys2Proof/Machine/Ops.lean ====
section
/-! DEFINITION. The operations that the commands share: entries and counters, time and stamps, outputs, the journal,
alerts, discards, rows of the tables, roles and keys, and what the block sends over the rope. -/

namespace Sys2Proof.Machine

/-! ### Entries (R22 to R25) -/

/-- The key of an entry. -/
def odKey (idx sub : Nat) : Nat := idx * 256 + sub

/-- The default of an entry by its key. -/
def odDefault (k : Nat) : Nat := dictDefault (k / 256) (k % 256)

/-- The stored value of an entry. -/
def Dev.get (d : Dev) (idx sub : Nat) : Nat := SMap.get odDefault d.od (odKey idx sub)

/-- Store the value of an entry. -/
def Dev.put (d : Dev) (idx sub v : Nat) : Dev := { d with od := SMap.set odDefault d.od (odKey idx sub) v }

/-- The largest value of a lifetime counter (R406). -/
def counterTop : Nat := 2 ^ 48 - 1

/-- Add to a lifetime counter, which saturates (R406). -/
def Dev.count (d : Dev) (idx sub : Nat) (n : Nat := 1) : Dev :=
  d.put idx sub (sat counterTop (d.get idx sub + n))

/-- The bits of a sticky field whose condition occurred at the present instant. -/
def Dev.setNow (d : Dev) (idx sub : Nat) : Nat :=
  if d.stuckAt = d.now then SMap.get (fun _ => 0) d.stuckBits (odKey idx sub) else 0

/-- Set bits of a sticky field, and note the instant: a write at that instant does not clear them (R244, R291, R305, R331). -/
def Dev.sticky (d : Dev) (idx sub mask : Nat) : Dev :=
  let old := if d.stuckAt = d.now then d.stuckBits else []
  { d.put idx sub (d.get idx sub ||| mask) with
    stuckAt := d.now, stuckBits := SMap.set (fun _ => 0) old (odKey idx sub) (d.setNow idx sub ||| mask) }

/-- Replace bits `[hi:lo]` of an entry. -/
def Dev.field (d : Dev) (idx sub hi lo v : Nat) : Dev :=
  let old := d.get idx sub
  d.put idx sub (old - bits old hi lo * 2 ^ lo + v % 2 ^ (hi + 1 - lo) * 2 ^ lo)

/-- Take a free value: the next number that nothing constrains. -/
def Dev.fresh (d : Dev) : Nat × Dev := ((Config.freeValue d.free).toNat, { d with free := d.free + 1 })

/-- Record an output. -/
def Dev.emit (d : Dev) (o : Out) : Dev := { d with out := (d.now, o) :: d.out }

/-! ### Time (R8 to R10, R138 to R150, R354) -/

/-- CORE cycles in a microsecond, a millisecond and a second (R354). -/
def usCycles : Nat := 800
def msCycles : Nat := 800000
def secCycles : Nat := 800000000

/-- The tick of the stamp counter at an instant: one tick is four CORE cycles (R354). -/
def tickOf (t : Nat) : Nat := t / 4

/-- Phase of a stretch at a tick, in units of 2^-16 pu from the start of its pitch, its end not regarded. -/
def PitchSeg.run16 (p : PitchSeg) (tick : Nat) : Nat :=
  let x := p.ref16 + (tick - p.refTick) * (2 ^ 16 * p.rateN) / p.rateD
  match p.wait with
  | some w => min w x
  | none => x

/-- Phase of a stretch at a tick, in units of 2^-16 pu, kept below the wrap until the pitch boundary (R140). -/
def PitchSeg.phase16 (p : PitchSeg) (tick : Nat) : Nat := min (2 ^ 40 - 1) (p.run16 tick)

/-- The stretch that the engine runs. -/
def Pitch.seg (p : Pitch) : PitchSeg := ⟨p.num, p.ref16, p.refTick, p.rateN, p.rateD, p.wait⟩

/-- The present stretch joins the past ones. -/
def Pitch.keepSeg (p : Pitch) : Pitch := { p with past := (p.seg :: p.past).take 64 }

/-- The engine's phase at a tick. -/
def Pitch.phase16 (p : Pitch) (tick : Nat) : Nat := p.seg.phase16 tick

/-- The stamp of a tick: that of the latest stretch which had begun (R9). -/
def Pitch.stampOf (p : Pitch) (tick : Nat) : Nat :=
  match (p.seg :: p.past).find? (fun s => s.refTick ≤ tick) with
  | some s => s.num * 2 ^ 24 + s.phase16 tick / 2 ^ 16
  | none => match p.past.getLast? with
    | some s => s.num * 2 ^ 24 + s.ref16 / 2 ^ 16
    | none => p.num * 2 ^ 24 + p.ref16 / 2 ^ 16

/-- The stamp at an instant (R9). -/
def Dev.stampAt (d : Dev) (t : Nat) : Nat := d.pitch.stampOf (tickOf t)

/-- The stamp of the present instant. -/
def Dev.stamp (d : Dev) : Nat := d.stampAt d.now

/-- A time of `n` microseconds in pu at the period that the engine runs, rounded up (R150). -/
def Dev.usToPu (d : Dev) (n : Nat) : Nat := ceilDiv (n * 200 * d.pitch.rateN) d.pitch.rateD

/-- The period in ticks that the engine runs, rounded down; the longest period while the shaft stands. -/
def Pitch.period24 (p : Pitch) : Nat := if p.rateN = 0 then 819200000 else 2 ^ 24 * p.rateD / p.rateN

/-- The period in picoseconds of one pu times 2^24, that is of one pitch. -/
def Dev.pitchPs (d : Dev) : Nat := d.pitch.period24 * 5000

/-- Leg exponent k and hem exponent h (R138). -/
def Dev.legExp (d : Dev) : Nat := d.get 0x2100 0x06
def Dev.hemExp (d : Dev) : Nat := d.get 0x2100 0x07

/-- Length of a leg and of a hem in pu (R10, R138). -/
def Dev.legPu (d : Dev) : Nat := 2 ^ (24 - d.legExp)
def Dev.hemPu (d : Dev) : Nat := 2 ^ (24 - d.legExp - d.hemExp)

/-- The start stamp of the leg of a stamp. -/
def Dev.legOf (d : Dev) (stamp : Nat) : Nat := stamp / d.legPu * d.legPu

/-- Length of a leg and of a hem at T_min in picoseconds (R163). -/
def Dev.legPsMin (d : Dev) : Nat := d.get 0x2100 0x04 * 5000 / 2 ^ d.legExp
def Dev.hemPsMin (d : Dev) : Nat := d.get 0x2100 0x04 * 5000 / 2 ^ (d.legExp + d.hemExp)

/-- The source-quality code in force (R148). -/
def Dev.quality (d : Dev) : Nat := d.pitch.quality

/-- The source-quality code in force at an instant (R148). -/
def Dev.qualityAt (d : Dev) (t : Nat) : Nat :=
  match (d.pitch.qpast.filter (fun q => tickOf t < q.1)).getLast? with
  | some q => q.2
  | none => d.quality

/-- Note a change of the source-quality code since an earlier state. -/
def Dev.noteQuality (old d : Dev) : Dev :=
  if old.pitch.quality = d.pitch.quality then d
  else { d with pitch := { d.pitch with qpast := ((tickOf d.now, old.pitch.quality) :: d.pitch.qpast).take 64 } }

/-- Time that the RTC has counted, in CORE cycles. -/
def Dev.rtcCycles (d : Dev) : Nat := d.clk.rtcBase + (if d.clk.rtcRuns then d.now - d.clk.rtcFrom else 0)

/-- RTC seconds (R356). -/
def Dev.rtc (d : Dev) : Nat :=
  d.rtcCycles / secCycles

/-! ### Device state, role, identity (R11 to R13, R37, R189) -/

/-- The code of 0x2000:01 (R37). -/
def DevState.code : DevState → Nat
  | .off => 0 | .boot => 1 | .config => 2 | .service => 3 | .bivouac => 4 | .shelter => 5 | .hold => 6

/-- The core is powered and out of reset, and its object dictionary is reachable. -/
def Dev.on (d : Dev) : Bool := d.pw.st == .config || d.pw.st == .service || d.pw.st == .hold

/-- Every output is released: device state HOLD, or role HOLD (R185, R190, R352). -/
def Dev.released (d : Dev) : Bool := d.pw.st == .hold || d.team.role == .hold

/-- The unit is in SERVICE. -/
def Dev.inService (d : Dev) : Bool := d.pw.st == .service

/-- PAIRED of the node plan (R11). -/
def Dev.paired (d : Dev) : Bool := bit (d.get 0x2000 0x04) 15

/-- The position used: A unless PAIRED is 1 and the strap is high (R11, R181). -/
def Dev.posB (d : Dev) : Bool := d.paired && d.team.posB

/-- BASE (R11). -/
def Dev.base (d : Dev) : Nat := bits (d.get 0x2000 0x04) 11 0

/-- The unit runs on ROM defaults: the boot found no valid rack, or SRAM words that it cannot repair (R46, R349). -/
def Dev.romOnly (d : Dev) : Bool := d.noRack || d.pw.bistFail

/-- The node ID (R11). -/
def Dev.node (d : Dev) : Nat :=
  if d.romOnly then 0xFFFF
  else if d.paired then (if d.posB then d.base ||| 1 else d.base) else d.base

/-- The pair ID: node ID [11:1] (R11, R12). -/
def Dev.pairId (d : Dev) : Nat := d.base / 2

/-- The unit bit of the sender field (R12). -/
def Dev.unitBit (d : Dev) : Nat := if d.paired then b2n d.posB else d.base % 2

/-- The global stream ID of a local stream (R13). -/
def Dev.globalId (d : Dev) (stream : Nat) : Nat := d.base * 2 ^ 18 + stream

/-- The unit decides for its team: role ACTIVE or SOLO. -/
def Dev.leads (d : Dev) : Bool := d.team.role == .active || d.team.role == .solo

/-- The unit admits into a shadow: role STANDBY, or DARNING (R214). -/
def Dev.shadows (d : Dev) : Bool := d.team.role == .standby || d.team.role == .darning

/-! ### Keys (R376, R377) -/

/-- A key slot. -/
def Dev.slot (d : Dev) (n : Nat) : KeySlot := SMap.get (fun _ => ({} : KeySlot)) d.vault.slots n

/-- The key of a usable slot whose MASK includes an engine's bit (R377). -/
def Dev.keyOf (d : Dev) (n engine : Nat) : Option (List Byte) :=
  if d.vault.st = 1 ∧ (d.slot n).status = 1 then
    match (d.slot n).a with
    | some c => if bit c.mask engine then some c.key else none
    | none => none
  else none

/-- A key as the engines take it. -/
def keyBits (k : List Byte) : BitVec 256 := BitVec.ofNat 256 (ofBe k)

/-! ### Rope transmission (R182, R382) -/

/-- The rope port's mode is not off (R247), its link is up and it is not silenced by a loop (R419). -/
def Dev.ropePort (d : Dev) : Bool :=
  d.get 0x3210 0x01 ≠ 0 && d.team.ropeLink && !d.loops.any && (d.pw.st == .service || d.pw.st == .boot)

/-- Rope protection is set (R370, R382). -/
def Dev.protected (d : Dev) : Bool := d.get 0x2800 0x05 ≠ 0

/-- The pair key, when rope protection can use it. -/
def Dev.pairKey (d : Dev) : Option (List Byte) := d.keyOf (d.get 0x2800 0x08) 0

/-- The rope transmitter may send: without protection always, with it only with a usable key (R382). -/
def Dev.ropeSends (d : Dev) : Bool := d.ropePort && (!d.protected || d.pairKey.isSome)

/-- The session key (R382): epochs of positions A and B and the pair ID. -/
def Dev.sessionKey (d : Dev) : Option (BitVec 256) :=
  match d.pairKey with
  | some k =>
    let (a, b) := if d.posB then (d.team.peerEpoch, d.team.ropeEpoch) else (d.team.ropeEpoch, d.team.peerEpoch)
    some (Config.kdf (keyBits k) (be 4 a ++ be 4 b ++ be 2 d.pairId))
  | none => none

/-- The eight-byte header of a rope frame of this unit (R182). -/
def Dev.ropeHeader (d : Dev) (type : Nat) : List Byte :=
  be 1 1 ++ be 1 type ++ be 2 (b2n d.posB * 2 ^ 15 + d.pairId) ++ be 4 d.team.frameCtr

/-- The IV of a protected rope frame of this unit (R382). -/
def Dev.ropeIv (d : Dev) : List Byte := be 1 (b2n d.posB) ++ be 3 0 ++ be 8 d.team.frameCtr

/-- Frames that carry a clear body even with protection: HELLO, HEARTBEAT and pattern frames (R382). -/
def ropeClear (type : Nat) : Bool := type = 0x01 || type = 0x02 || type = 0x3F

/-- The MAC address of a position on the rope (R182). -/
def ropeMac (posB : Bool) : Nat := 0x024555525000 + b2n posB

/-- The Ethernet header of a rope frame of this unit (R182). -/
def Dev.ropeEther (d : Dev) : List Byte := be 6 (ropeMac !d.posB) ++ be 6 (ropeMac d.posB) ++ be 2 0x88B5

/-- Send one rope frame, protected where R382 asks for it; nothing where the transmitter is idle. -/
def Dev.ropeSend (d : Dev) (type : Nat) (body : List Byte) : Dev :=
  if !d.ropeSends then d
  else
    let h := d.ropeHeader type
    let wire :=
      if !d.protected || ropeClear type then some body
      else match (if d.team.keyed then d.sessionKey else none) with
        | some k =>
          let c := Config.gcmCrypt k d.ropeIv body
          some (d.ropeIv ++ c ++ be 16 (Config.gcmTag k d.ropeIv h c).toNat)
        | none => none
    match wire with
    | some b =>
      { d.emit (.rope (d.ropeEther ++ h ++ b)) with
        team := { d.team with frameCtr := (d.team.frameCtr + 1) % 2 ^ 32, lastSent := d.now } }
    | none => d

/-! ### Journal (R412, R413) -/

/-- Instant within which a queued entry reaches MRAM (R413). -/
def journalTime : Nat := 50 * usCycles

/-- Entries of the write queue that have reached MRAM by now, and the ring of 4,096 entries they join. -/
def Dev.journalFlush (d : Dev) : Dev :=
  let due := d.log.queue.filter (fun q => decide (q.2 + journalTime ≤ d.now))
  { d with log := { d.log with
      queue := d.log.queue.filter (fun q => !decide (q.2 + journalTime ≤ d.now))
      journal := ((due.reverse.map Prod.fst) ++ d.log.journal).take 4096 } }

/-- Count an alert's instances since it was raised, in [hi:] form saturating, keyed by code. -/
def Dev.sinceAdd (d : Dev) (code n : Nat) : Dev :=
  { d with since := SMap.set (fun _ => 0) d.since code (SMap.get (fun _ => 0) d.since code + n) }

/-- Instances of an alert since it was raised. -/
def Dev.sinceOf (d : Dev) (code : Nat) : Nat := SMap.get (fun _ => 0) d.since code

/-- Set interrupt causes (R331); a newly set cause 0 to 4 or 7 to 9 sends an MSI-X message or leaves it pending
(R332; log entry 56). -/
def Dev.cause (d : Dev) (i : Nat) : Dev :=
  let was := bit (d.get 0x2720 0x01) i
  let d := d.sticky 0x2720 0x01 (2 ^ i)
  if !was ∧ (i ≤ 4 ∨ (7 ≤ i ∧ i ≤ 9)) then
    let v := d.get 0x2720 0x03
    if d.msix.masked.getD v true then
      { d with msix := { d.msix with pending := d.msix.pending.set v true } }
    else d.emit (.msix v)
  else d

/-! ### Alerts (R40 to R42) -/

/-- Bits of the error register (R40). -/
def errorBits (as : List Alert) : Nat :=
  let six := as.any (fun a => a.code / 256 = 0xA6)
  let line := as.any (fun a => a.code / 256 = 0xA3 || a.code / 256 = 0xA4)
  let rest := as.any (fun a => !(a.code / 256 = 0xA6) && !(a.code / 256 = 0xA3) && !(a.code / 256 = 0xA4))
  b2n (as.any (fun a => decide (2 ≤ a.sev))) + 8 * b2n six + 16 * b2n line + 128 * b2n rest

/-- The `$PEUDA` sentence of an alert change (R42). -/
def Dev.alertSentence (d : Dev) (code sev detail stamp : Nat) (raised : Bool) : List Byte :=
  let comma : List Byte := [0x2C]
  let body := ascii "PEUDA," ++ hexN 4 code ++ comma ++ decimal sev ++ comma ++ decimal (b2n raised) ++ comma
    ++ hexN 3 (d.node % 4096) ++ comma ++ decimal (stamp / 2 ^ 24) ++ comma ++ hexN 6 (stamp % 2 ^ 24) ++ comma
    ++ hexN 8 detail
  ascii "$" ++ body ++ ascii "*" ++ hexN 2 (xorAll body).toNat ++ [0x0D, 0x0A]

/-- An internal item of ISTREAM 0 alert, 1 ledger or 2 health: it enters at tag issue as a complete item (R49 to R51,
R70, R95). -/
def Dev.internalItem (d : Dev) (src istream stamp : Nat) (bytes : List Byte) (digest : Nat) : Item :=
  { src := src, kind := 5, form := .sentence, parts := [{ bytes := bytes, digest := digest }], stamp := stamp,
    origin := stamp, tLast := d.now, finish := d.now, quality := d.quality, sel := istream }

/-- The CRC of R207 over bytes: CRC-64 of polynomial 0x42F0_E1EB_A9EA_3693, reflected, start and final value all
ones, so that bit 0 of the first byte comes first. -/
def crcByte (c : Nat) (b : Byte) : Nat :=
  let step (c : Nat) : Nat := if c % 2 = 1 then (c / 2) ^^^ 0xC96C5795D7870F42 else c / 2
  step (step (step (step (step (step (step (step (c ^^^ b.toNat))))))))

/-- Continue a running CRC. -/
def crcRun (c : Nat) (bs : List Byte) : Nat := bs.foldl crcByte c

/-- The sentence digest and CRC of R207. -/
def crc64 (bs : List Byte) : Nat := crcRun 0xFFFFFFFFFFFFFFFF bs ^^^ 0xFFFFFFFFFFFFFFFF

/-- Send a record of this unit down the road: proposed on an ACTIVE or SOLO unit; an alert or health item relayed over the rope
by a standby or ISOLATED one, which emits no ledger item; dropped where nothing is forwarded (R70). -/
def Dev.internal (d : Dev) (src istream stamp : Nat) (bytes : List Byte) : Dev :=
  if !d.inService ∨ (istream = 1 ∧ !d.leads) then d
  else if d.leads then { d with waitTag := d.waitTag ++ [d.internalItem src istream stamp bytes (crc64 bytes)] }
  else if d.team.role == .standby || d.team.role == .darning || d.team.role == .isolated then
    if d.team.rope then
      let it := d.internalItem 247 istream stamp bytes (crc64 bytes)
      let d := d.ropeSend 0x50 (be 8 stamp ++ be 1 istream ++ bytes)
      if d.shadows then { d with waitTag := d.waitTag ++ [it] } else d
    else d
  else d

/-! ### CAN controllers (R295, R300 to R304, R343, R419, R421) -/

/-- A mask names a port or channel: the trim masks as TRIM took them (R342, R343). -/
def Dev.masked (d : Dev) (l : Nat) : Bool :=
  if l < 192 then bit (d.pw.masks.getD (l / 32) 0) (l % 32) else bit (d.pw.masks.getD 6 0) (l - 192)

/-- A CAN channel's state. -/
def Dev.canCh (d : Dev) (n : Nat) : CanCh := SMap.get (fun _ => ({} : CanCh)) d.can n

/-- Replace a CAN channel's state. -/
def Dev.setCan (d : Dev) (n : Nat) (c : CanCh) : Dev := { d with can := SMap.set (fun _ => ({} : CanCh)) d.can n c }

/-- Mode of a CAN channel (R295) and its loop (R421). -/
def Dev.canMode (d : Dev) (n : Nat) : Nat := d.get (0x3100 + n) 0x01
def Dev.canLoop (d : Dev) (n : Nat) : Nat := bits d.loops.can (2 * n + 1) (2 * n)

/-- The channel is trimmed now: one that holds custody stays powered until it is empty (R343). -/
def Dev.canTrimmed (d : Dev) (n : Nat) : Bool := d.pw.trim && d.masked (192 + n) && (d.canCh n).custody.isEmpty

/-- The channel is powered. -/
def Dev.canPowered (d : Dev) (n : Nat) : Bool :=
  n < 16 && d.canMode n ≠ 0 && (d.pw.st == .service || d.pw.st == .config) && !d.canTrimmed n

/-- A controller stops: it integrates anew when it starts, its channel AWAKE (R295, R307). -/
def Dev.canStop (d : Dev) (n : Nat) : Dev :=
  d.setCan n { d.canCh n with sync := false, tx := none, sleep := .awake }

/-- The controller runs: powered, not stopped by a stuck line or by sleep (R304, R307). -/
def Dev.canRuns (d : Dev) (n : Nat) : Bool :=
  d.canPowered n && !(d.canCh n).stuck && !((d.canCh n).sleep == .committed || (d.canCh n).sleep == .asleep)

/-- The controller takes part in bus traffic. -/
def Dev.canOnBus (d : Dev) (n : Nat) : Bool := d.canRuns n && (d.canCh n).sync && !(d.canCh n).busOff

/-- A controller outside every loop while loops are in force: what it should send is timed and discarded (R419). -/
def Dev.canIdle (d : Dev) (n : Nat) : Bool := d.loops.any && d.canLoop n = 0

/-- The frame that a free controller sends next (R301, R302, R335). -/
def Dev.canReady (d : Dev) (n : Nat) : Option (CanQueue × CanFrame) :=
  let c := d.canCh n
  match (if d.canIdle n then none else c.prio.head?), (if d.leads then c.tunnel.head? else none) with
  | some f, _ => some (.prio, f)
  | none, some f => some (.tunnel, f)
  | none, none => if d.leads then (c.custody.head?.bind (fun i => i.frames.head?)).map (fun f => (.custody, f)) else none

/-- Either error count is at 128 or above. -/
def CanCh.passive (c : CanCh) : Bool := decide (128 ≤ c.txErr) || decide (128 ≤ c.rxErr)

/-- A free controller starts the next frame; ESI is the controller's own error state (R300). -/
def Dev.canNext (d : Dev) (n : Nat) : Dev :=
  let c := d.canCh n
  if c.tx.isSome ∨ !d.canOnBus n ∨ d.released then d
  else
    match d.canReady n with
    | some (q, f) => d.setCan n { c with tx := some (q, { f with esi := f.fdf && c.passive }) }
    | none => d

/-- The CAN channel that carries SDO and alert frames (R34). -/
def Dev.sdoChannel (d : Dev) : Option Nat := let c := d.get 0x2000 0x08; if c < 16 then some c else none

/-- The effective SDO node number (R34, R301). -/
def Dev.sdoNode (d : Dev) : Nat := d.get 0x2000 0x07 + (if d.paired then b2n d.team.posB else 0)

/-- Queue a frame that goes ahead of the custody items of the SDO channel (R301). -/
def Dev.sdoQueue (d : Dev) (f : CanFrame) : Dev :=
  match d.sdoChannel with
  | some n => let c := d.canCh n; (d.setCan n { c with prio := c.prio ++ [f] }).canNext n
  | none => d

/-- The CAN frame of an alert change (R41). DESIGN CHOICE (log entry 18): an FD alert frame is sent without bit-rate switch. -/
def Dev.alertFrame (d : Dev) (code sev detail stamp : Nat) (raised : Bool) : CanFrame :=
  let fd := d.get 0x2000 0x09 ≠ 0
  { ident := 0x080 + d.sdoNode, ide := false, rtr := false, fdf := fd, brs := false, esi := false
    data := le 2 code ++ le 1 (errorBits d.alerts) ++ le 1 (b2n raised * 128 + sev) ++ le 4 detail
      ++ (if fd then le 8 stamp else []) }

/-- A serial channel's state. -/
def Dev.serCh (d : Dev) (n : Nat) : SerCh := SMap.get (fun _ => ({} : SerCh)) d.ser n

/-- Replace a serial channel's state. -/
def Dev.setSer (d : Dev) (n : Nat) (c : SerCh) : Dev := { d with ser := SMap.set (fun _ => ({} : SerCh)) d.ser n c }

/-- Emit an alert change on every transport enabled for alerts (R40 to R42). -/
def Dev.alertEmit (d : Dev) (code sev detail stamp : Nat) (raised : Bool) : Dev :=
  let d := (d.emit (.alert code raised detail)).cause 0
  let d := if bit (d.get 0x2000 0x10) 2 then d.sdoQueue (d.alertFrame code sev detail stamp raised) else d
  d.internal 244 0 stamp (d.alertSentence code sev detail stamp raised)

/-- Add a journal entry to the write queue, or lose it (R412, R413): code, flags, detail, stamp. -/
def Dev.journalQueue (d : Dev) (code flags detail stamp : Nat) : Dev :=
  let d := d.journalFlush
  if d.log.queue.length < 64 then
    let e : JEntry := { stamp := stamp, number := d.log.next, code := code,
                        flags := if d.log.lost = 0 then flags else flags + 8, quality := d.quality,
                        detail := detail, lost := d.log.lost, rtc := d.rtc }
    { d with log := { d.log with queue := d.log.queue ++ [(e, d.now)], next := d.log.next + 1, lost := 0 } }
  else
    let d := d.count 0x2A00 0x06
    { d with log := { d.log with lost := d.log.lost + 1, lostSince := d.log.lostSince + 1 } }

/-- Raise an alert (R40). An active alert takes the new detail and clearing instant and is not emitted again. -/
def Dev.raiseCore (d : Dev) (code sev detail : Nat) : Dev :=
  let st := d.stamp
  if d.alerts.any (fun a => a.code = code) then
    { d with alerts := d.alerts.map (fun a => if a.code = code then { a with detail := detail, latest := st } else a) }
  else
    ({ d with alerts := d.alerts ++ [Alert.mk code sev detail st st] }).alertEmit code sev detail st true

/-- Journal an event under an alert code, raising 0xA621 when the queue is full (R412, R413). -/
def Dev.journal (d : Dev) (code flags detail : Nat) : Dev :=
  let full := (d.journalFlush).log.queue.length < 64
  let d := d.journalQueue code flags detail d.stamp
  if full then d
  else
    let was := d.alerts.any (fun a => a.code = 0xA621)
    let n := if was then d.log.lostSince else 1
    ({ d with log := { d.log with lostSince := n } }).raiseCore 0xA621 1 (sat (2 ^ 32 - 1) n)

/-- Raise an alert; one of severity 2 or 3 is journalled at each raise (R40, R412). During a boot it waits for the boot's
end, since 0xA606 is emitted first (R40, R353). -/
def Dev.raise (d : Dev) (code sev detail : Nat) : Dev :=
  if d.pw.st == .boot then { d with pw := { d.pw with owed := d.pw.owed ++ [(code, sev, detail)] } }
  else
  let d := if d.alerts.any (fun a => a.code = code) then d
    else { d with since := SMap.set (fun _ => 0) d.since code 0 }
  let d := d.raiseCore code sev detail
  if 2 ≤ sev then d.journal code sev detail else d

/-- The core is on, so that an alert can be raised at once. -/
def Dev.coreOn (d : Dev) : Bool := d.on || d.pw.st == .boot

/-- Raise an alert of the keep-alive domain, once the core is on again where it is off. -/
def Dev.raiseKa (d : Dev) (code sev detail : Nat) : Dev :=
  if d.coreOn then d.raise code sev detail else { d with pw := { d.pw with owed := d.pw.owed ++ [(code, sev, detail)] } }

/-- Raise an alert whose detail counts instances since raised: `f` gives the detail from the count. -/
def Dev.raiseCount (d : Dev) (code sev n : Nat) (f : Nat → Nat) : Dev :=
  let d := if d.alerts.any (fun a => a.code = code) then d
    else { d with since := SMap.set (fun _ => 0) d.since code 0 }
  let d := d.sinceAdd code n
  let d := d.raiseCore code sev (f (d.sinceOf code))
  if 2 ≤ sev then d.journal code sev (f (d.sinceOf code)) else d

/-- Detail [31:8] a saturating count, [7:0] a number. -/
def countDetail (low n : Nat) : Nat := sat 0xFFFFFF n * 256 + low % 256

/-- An alert is active. -/
def Dev.alertActive (d : Dev) (code : Nat) : Bool := d.alerts.any (fun a => a.code = code)

/-- An active alert's detail changes without a further raise. -/
def Dev.alertDetail (d : Dev) (code detail : Nat) : Dev :=
  { d with alerts := d.alerts.map (fun a => if a.code = code then { a with detail := detail } else a) }

/-- An instance of a condition that raises its alert from a threshold in each pitch on; below it, an instance adds to the detail
of the alert while that is active (R293). -/
def Dev.raiseFrom (d : Dev) (code sev : Nat) (reached : Bool) (f : Nat → Nat) : Dev :=
  if reached then d.raiseCount code sev 1 f
  else if d.alertActive code then
    let d := d.sinceAdd code 1
    d.alertDetail code (f (d.sinceOf code))
  else d

/-- The condition of an alert is present again, whether or not it is raised: its clearing is judged from now (R40). -/
def Dev.alertPresent (d : Dev) (code : Nat) : Dev :=
  { d with alerts := d.alerts.map (fun a => if a.code = code then { a with latest := d.stamp } else a) }

/-- Clear an alert at once: its state changes to cleared and is emitted (R40). -/
def Dev.clearAlert (d : Dev) (code : Nat) : Dev :=
  match d.alerts.find? (fun a => a.code = code) with
  | some a => ({ d with alerts := d.alerts.filter (fun x => !(x.code = code)) }).alertEmit code a.sev a.detail d.stamp false
  | none => d

/-! ### Discards (R66, R68, R69, R93, R94) -/

/-- Reasons of R15. -/
inductive Reason where
  | quarantined | malformed | rateLimited | groupIncomplete | refusedCapacity | orphan
  deriving DecidableEq, Repr

/-- The code of a reason (R69), which is also its counter's subindex in 0x2230 (R68). -/
def Reason.code : Reason → Nat
  | .quarantined => 1 | .malformed => 2 | .rateLimited => 3 | .groupIncomplete => 4 | .refusedCapacity => 5
  | .orphan => 6

/-- Discard one item: reason counter, last-discard record (R66, R68, R69). -/
def Dev.discard (d : Dev) (r : Reason) (sub src stamp : Nat) : Dev :=
  (((d.count 0x2230 r.code).put 0x2231 0x01 (r.code * 2 ^ 24 + sub * 2 ^ 16 + src * 2 ^ 8)).put 0x2231 0x02 stamp)

/-- Discard an item as MALFORMED: sub-cause counter, per-pitch count of its source and 0xA2D0 (R93, R94). -/
def Dev.malformedItem (d : Dev) (sub src stamp : Nat) : Dev :=
  let d := (d.discard .malformed sub src stamp).count 0x2232 sub
  let n := SMap.get (fun _ => 0) d.malformed src + 1
  let d := { d with malformed := SMap.set (fun _ => 0) d.malformed src n }
  if 16 ≤ n then d.raise 0xA2D0 1 (sat 0xFFFF n * 2 ^ 16 + src) else d

/-! ### Histograms (R407) -/

/-- Add one to bin `b` of histogram `h`. -/
def Dev.histAdd (d : Dev) (h b : Nat) : Dev :=
  let k := 32 * h + min 31 b
  { d with log := { d.log with
      hist := SMap.set (fun _ => 0) d.log.hist k (sat 0xFFFFFFFF (SMap.get (fun _ => 0) d.log.hist k + 1)) } }

/-- Bin of histograms 3 to 13, 21, 22 and 23: 0 below one unit, b from 2^(b−1) to below 2^b. -/
def logBin (n : Nat) : Nat := if n = 0 then 0 else min 31 (Nat.log2 n + 1)

/-! ### Rows of the tables (R31, R121) -/

/-- The key of a row. -/
def rowKey (t : Tbl) (row : Nat) : Nat := t.index * 2 ^ 32 + row

/-- The key of a mode overlay's row (R201). -/
def overlayKey (mode : Nat) (t : Tbl) (row : Nat) : Nat := mode * 2 ^ 64 + rowKey t row

/-- Words of a row that nothing has filled. -/
def emptyRow : List Word32 := []

/-- The mode in force (R201). -/
def Dev.mode (d : Dev) : Nat := d.get 0x2020 0x01

/-- A row as the data path uses it: the mode's overlay where the mode gives the row, else the base row (R121). -/
def Dev.row (d : Dev) (t : Tbl) (n : Nat) : List Word32 :=
  match SMap.get (fun _ => emptyRow) d.overlays (overlayKey d.mode t n) with
  | [] => SMap.get (fun _ => emptyRow) d.rows (rowKey t n)
  | ws => ws

/-- The rows that a mode's overlay gives of a table (R201). -/
def Dev.overlayOf (d : Dev) (t : Tbl) (mode : Nat) : List (Nat × List Word32) :=
  (d.overlays.filter (fun kv => kv.1 / 2 ^ 64 = mode ∧ kv.1 % 2 ^ 64 / 2 ^ 32 = t.index)).map (fun kv => (kv.1 % 2 ^ 32, kv.2))

/-- The rows of a table that are filled, as the data path uses them. -/
def Dev.rowsOf (d : Dev) (t : Tbl) : List (Nat × List Word32) :=
  let overlay := d.overlayOf t d.mode
  let base := (d.rows.filter (fun kv => kv.1 / 2 ^ 32 = t.index)).map (fun kv => (kv.1 % 2 ^ 32, kv.2))
  overlay ++ base.filter (fun r => !overlay.any (fun o => o.1 = r.1))

/-- Word `i` of a row; 0 where it has none. -/
def word (ws : List Word32) (i : Nat) : Nat := (ws.getD i 0).toNat

/-- Field `[hi:lo]` of word `i`. -/
def fieldOf (ws : List Word32) (i hi lo : Nat) : Nat := bits (word ws i) hi lo

/-- Bit `b` of word `i`. -/
def flagOf (ws : List Word32) (i b : Nat) : Bool := bit (word ws i) b

/-- Store a base row. -/
def Dev.setRow (d : Dev) (t : Tbl) (n : Nat) (ws : List Word32) : Dev :=
  { d with rows := SMap.set (fun _ => emptyRow) d.rows (rowKey t n) ws }

/-- Store a DOMAIN's content. -/
def Dev.setDomain (d : Dev) (idx sub : Nat) (bs : List Byte) : Dev :=
  { d with domains := SMap.set (fun _ => []) d.domains (odKey idx sub) bs }

end Sys2Proof.Machine
end

