-- ==== Sys2Proof/Machine/Pitch.lean ====
section
/-! DEFINITION. The pitch engine: reference points, slewing, slips, holdover, beacons and PITCH_OUT (chapter Pitch, legs and
stamping, R140 to R155). -/

namespace Sys2Proof.Machine

/-! ### Configuration of the engine (R139, R143) -/

def Dev.tMin (d : Dev) : Nat := d.get 0x2100 0x04
def Dev.tMax (d : Dev) : Nat := d.get 0x2100 0x05
def Dev.primary (d : Dev) : Nat := d.get 0x2100 0x01
def Dev.secondary (d : Dev) : Nat := d.get 0x2100 0x02

/-- Consecutive valid points that qualify a source (R147). -/
def Dev.qualifyCount (d : Dev) : Nat := bits (d.get 0x2100 0x09) 19 16

/-- A source is the primary or the secondary. -/
def Dev.usesSource (d : Dev) (s : Nat) : Bool := decide (s ≠ 0) && (decide (d.primary = s) || decide (d.secondary = s))

/-! ### Rate and error (R141 to R143) -/

/-- A rate in pu per tick, not above 2^24 per T_min, and not below 2^24 per 819,200,000 ticks but for QUAD, whose shaft may
stand (R141, R146). -/
def clampRate (tMin : Nat) (quad : Bool) (n den : Nat) : Nat × Nat :=
  if den = 0 ∨ 2 ^ 24 * den < n * tMin then (2 ^ 24, tMin)
  else if !quad ∧ n * 819200000 < 2 ^ 24 * den then (2 ^ 24, 819200000)
  else (n, den)

/-- The engine runs at another rate from a tick on. -/
def Pitch.setRate (p : Pitch) (tick : Nat) (r : Nat × Nat) : Pitch :=
  { p.keepSeg with ref16 := p.phase16 tick, refTick := tick, rateN := r.1, rateD := r.2, wait := none }

/-- Run at 2^24 divided by a period. -/
def Dev.runPeriod (d : Dev) (tick ticks : Nat) : Dev :=
  { d with pitch := d.pitch.setRate tick (clampRate d.tMin (d.pitch.src = 2) (2 ^ 24) ticks) }

/-- The error of a reference point: its phase minus the engine's, from −2^23 to 2^23 (R142). -/
def phaseError (ref own : Nat) : Int :=
  let x : Nat := (ref + 2 ^ 24 - own % 2 ^ 24) % 2 ^ 24
  if x ≤ 2 ^ 23 then (x : Int) else (x : Int) - (2 ^ 24 : Nat)

/-- The engine's phase in pu at a tick. -/
def Pitch.phase (p : Pitch) (tick : Nat) : Nat := p.phase16 tick / 2 ^ 16

/-- Slew: rate (Δ + ε) ÷ I, with Δ ÷ I given as a fraction (R143). -/
def Dev.slew (d : Dev) (tick : Nat) (eps : Int) (deltaN deltaD ival : Nat) : Dev :=
  let n := ((deltaN : Int) + eps * deltaD).toNat
  { d with pitch := d.pitch.setRate tick (clampRate d.tMin (d.pitch.src = 2) n (deltaD * ival)) }

/-- Record a reference point's error: that of every valid point of a source in use (R142, R156, R407). -/
def Dev.pointError (d : Dev) (eps : Int) : Dev :=
  ({ d with pitch := { d.pitch with lastErr := eps } }).histAdd 23 (logBin eps.natAbs)

/-- Declare a slip on a source at a tick: the present rate stays; `predict` is a predicted reference boundary (R145). -/
def Dev.declareSlip (d : Dev) (src tick predict : Nat) : Dev :=
  { d with pitch := { d.pitch.setRate tick (d.pitch.rateN, d.pitch.rateD) with
      st := .slip, src := src, slip := .awaiting, predict := predict, quality := 1, slipPoint := none, holdover := 0 } }

/-- An engine that follows a shaft waits at the phase of the next count, which lies one count on from where the reference
point puts the shaft (R146). -/
def Dev.awaitCount (d : Dev) (tick : Nat) (eps : Int) : Dev :=
  if d.pitch.src = 2 then
    let own := d.pitch.phase16 tick
    let next : Int := (own : Int) + eps * (2 ^ 16 : Nat) + ((2 ^ 40 / max 1 (d.get 0x2100 0x0A) : Nat) : Int)
    { d with pitch := { d.pitch with wait := some (max own next.toNat) } }
  else d

/-- Lock on a source by slewing from a point, or declare a slip, by the error (R142, R147). -/
def Dev.lockOn (d : Dev) (src tick : Nat) (r : RefPoint) : Dev :=
  if r.eps.natAbs ≤ 2 ^ 21 then
    (({ d with pitch := { d.pitch with st := .locked, src := src, slip := .none, period := r.period, holdover := 0 } }).slew tick r.eps r.deltaN
      r.deltaD r.ival).awaitCount tick r.eps
  else ({ d with pitch := { d.pitch with period := r.period } }).declareSlip src tick r.predict

/-- Period used where none has been measured yet. -/
def Dev.measured (d : Dev) : Nat := if d.pitch.period = 0 then d.get 0x2100 0x03 else d.pitch.period

/-- The last valid point of a source. -/
def Pitch.ref (p : Pitch) (s : Nat) : RefPoint := if s = 1 then p.refPulse else if s = 2 then p.refQuad else p.refBeacon

/-- A valid point of a source is its last; the measured period is that of the source followed, and of any in FREE (R144). -/
def Pitch.takeRef (p : Pitch) (s : Nat) (r : RefPoint) : Pitch :=
  { p with refPulse := if s = 1 then r else p.refPulse
           refQuad := if s = 2 then r else p.refQuad
           refBeacon := if s = 3 then r else p.refBeacon
           period := if p.src = s ∨ p.src = 0 then r.period else p.period }

/-! ### Pitch boundary (R140, R144, R145, R148) -/

/-- The phase reached 2^24 at a tick. -/
def Pitch.wraps (p : Pitch) (tick : Nat) : Bool := 2 ^ 40 ≤ p.seg.run16 tick

/-- The earliest predicted boundary at least T_min after a tick: `e + k·per`. -/
def nextPredicted (e per start tMin : Nat) : Nat :=
  if start + tMin ≤ e ∨ per = 0 then max e (start + tMin) else e + ceilDiv (start + tMin - e) per * per

/-- In FREE with FREE as primary the rate is 2^24 divided by the nominal period (R138, R147). DEDUCED (log entry 31): an engine
that adopted another rate at boot takes it from its first pitch boundary on. -/
def Dev.freeRate (d : Dev) (tick : Nat) : Dev :=
  if d.pitch.st == .free ∧ d.primary = 0 then d.runPeriod tick (d.get 0x2100 0x03) else d

/-- A write of the pitch configuration: the nominal rate follows it, and any other rate keeps to the new T_min (R138, R141). -/
def Dev.pitchConfigured (d : Dev) : Dev :=
  let tick := tickOf d.now
  if d.pitch.st == .free ∧ d.primary = 0 then d.freeRate tick
  else { d with pitch := d.pitch.setRate tick (clampRate d.tMin (d.pitch.src = 2) d.pitch.rateN d.pitch.rateD) }

/-- The engine's own pitch boundary: phase −2^24, pitch number +1, holdover count, slip pitch start, quality. -/
def Dev.enginePitch (d : Dev) (tick : Nat) : Dev :=
  let p := d.pitch
  let excess := min (2 ^ 40 - 1) (p.seg.run16 tick - 2 ^ 40)
  let p := { p.keepSeg with num := p.num + 1, ref16 := excess, refTick := tick, boundTick := tick, boundPrev := p.boundTick
                            wait := p.wait.map (fun w => w - 2 ^ 40) }
  let p := { p with quality := if p.st == .locked then (if p.src = 3 then 3 else 0) else p.quality
                    holdover := if p.st == .holdover then sat 255 (p.holdover + 1) else p.holdover }
  let d := { d with pitch := p }
  if p.st == .slip ∧ p.slip == .awaiting then
    let fin := nextPredicted p.predict d.measured tick d.tMin
    let len := fin - tick
    { d with pitch := { p with slip := .inside, slipLen := len, slipEnd := fin, rateN := 2 ^ 24, rateD := len } }
  else d.freeRate tick

/-! ### Loss and fallback (R144, R147) -/

/-- Enter HOLDOVER from a missing source (R144, R147). -/
def Dev.enterHoldover (d : Dev) (tick : Nat) : Dev :=
  let src := d.pitch.src
  let per := max d.tMin (min d.tMax d.measured)
  let d := { d with pitch := { d.pitch with st := .holdover, holdover := 0, quality := 1, slip := .none,
                                            qualPulse := if src = 1 then 0 else d.pitch.qualPulse
                                            qualQuad := if src = 2 then 0 else d.pitch.qualQuad
                                            qualBeacon := if src = 3 then 0 else d.pitch.qualBeacon } }
  (((d.runPeriod tick per).count 0x2111 0x03).raise 0xA100 1 src)

/-- Consecutive valid points of a source. -/
def Pitch.qual (p : Pitch) (s : Nat) : Nat :=
  if s = 1 then p.qualPulse else if s = 2 then p.qualQuad else if s = 3 then p.qualBeacon else 0

/-- A source is qualified (R147). -/
def Dev.qualified (d : Dev) (s : Nat) : Bool := d.usesSource s && decide (d.qualifyCount ≤ d.pitch.qual s)

/-- Move to another source: count and alert (R147). -/
def Dev.switchSource (d : Dev) (new : Nat) : Dev :=
  (d.count 0x2111 0x07).raise 0xA104 1 (new * 256 + d.pitch.src)

/-- Leave the source after holdover: to the qualified secondary, or to FREE at the rate held (R144, R147). -/
def Dev.leaveSource (d : Dev) (tick : Nat) : Dev :=
  let s := d.secondary
  if d.pitch.src ≠ s ∧ d.qualified s then
    (d.switchSource s).lockOn s tick (d.pitch.ref s)
  else
    let d := { d with pitch := { d.pitch with st := .free, src := 0, quality := 2, slip := .none, holdover := 0 } }
    (d.count 0x2111 0x04).raise 0xA101 2 d.measured

/-- The followed source has no valid point by its deadline at a tick: a PULSE edge near the engine's own boundary, a QUAD
index one measured period after the last one, a beacon within a quarter of the period (R144). -/
def Dev.sourceMissing (d : Dev) (tick : Nat) : Bool :=
  let p := d.pitch
  let m := d.measured
  if p.src = 3 then
    match p.lastBeacon with
    | some b => decide (b + m / 4 < tick)
    | none => true
  else if p.src = 2 then
    match p.refQuad.tick with
    | some i => decide (i + m + m / 8 < tick)
    | none => true
  else
    decide (p.boundTick + m / 8 < tick) &&
      (match p.refPulse.tick with
       | some l => decide (l + m / 2 < p.boundTick)
       | none => true)

/-- SOURCE_DEADLINE (R144). -/
def Dev.sourceDeadline (d : Dev) : Dev :=
  let tick := tickOf d.now
  if d.on ∧ d.pitch.st == .locked ∧ d.sourceMissing tick then
    let d := d.enterHoldover tick
    if d.get 0x2100 0x08 = 0 then d.leaveSource tick else d
  else d

/-- HOLDOVER_COUNT_REACHED (R144). -/
def Dev.holdoverReached (d : Dev) : Dev :=
  if d.on ∧ d.pitch.st == .holdover ∧ d.get 0x2100 0x08 ≤ d.pitch.holdover then d.leaveSource (tickOf d.now) else d

/-- SOURCE_QUALIFIED (R147). -/
def Dev.sourceQualified (d : Dev) (s : Nat) : Dev :=
  let tick := tickOf d.now
  let p := d.pitch
  let go := d.lockOn s tick (p.ref s)
  if !d.on ∨ !d.qualified s then d
  else if p.st == .free then go
  else if p.st == .holdover ∧ s = p.src then go
  else if (p.st == .holdover ∨ p.st == .locked) ∧ s = d.primary ∧ p.src = d.secondary ∧ s ≠ p.src then
    ((d.switchSource s).pointError (p.ref s).eps).lockOn s tick (p.ref s)
  else d

/-! ### Points (R142, R143, R145, R146) -/

/-- A valid point that names a pitch start, and the interval that it ends: a PULSE edge or a QUAD index. After an edge the next
expected point is the next edge, after an index the next count (R143, R146). -/
def Dev.startPoint (d : Dev) (s tick ival : Nat) : Dev :=
  let counts := s = 2 ∧ 0 < d.pitch.qIval
  let r : RefPoint := { tick := some tick, eps := phaseError 0 (d.pitch.phase tick), predict := tick + ival, period := ival
                        deltaD := if counts then max 1 (d.get 0x2100 0x0A) else 1
                        ival := if counts then d.pitch.qIval else ival }
  let d := ({ d with pitch := d.pitch.takeRef s r }).pointError r.eps
  let p := d.pitch
  let win := d.measured / 8
  if p.src = s ∧ p.st == .locked then d.lockOn s tick r
  else if p.src = s ∧ p.st == .slip then
    match p.slip with
    | .inside =>
      if p.slipEnd ≤ tick + win then { d with pitch := { p with slipPoint := some tick } }
      else { d with pitch := { p with predict := tick } }
    | .window => if tick ≤ p.slipEnd + win then d.lockOn s tick r else d
    | _ => { d with pitch := { p with predict := tick } }
  else
    { d with pitch := if s = 1 then { p with qualPulse := p.qualPulse + 1 } else { p with qualQuad := p.qualQuad + 1 } }

/-- A PITCH_A edge that passed the filter (R143): its interval is tested, a valid one is a point. -/
def Dev.pulseInside (d : Dev) (tick : Nat) : Dev :=
  let last := d.pitch.lastEdge
  let d := { d with pitch := { d.pitch with lastEdge := some tick } }
  match last with
  | none => d
  | some l =>
    let ival := tick - l
    if d.tMin ≤ ival ∧ ival ≤ d.tMax then d.startPoint 1 tick ival
    else
      let d := { d with pitch := { d.pitch with qualPulse := 0 } }
      (d.count 0x2111 0x02).raise 0xA103 1 (sat 0xFFFFFF (ival / 256) * 256 + 1)

/-- PULSE_EDGE: a rising edge of the pin and how many ticks it stays high (R143). -/
def Dev.pulseEdge (d : Dev) (high : Nat) : Dev :=
  if d.on ∧ d.usesSource 1 ∧ !d.loops.pitch ∧ bits (d.get 0x2100 0x09) 15 0 ≤ high then d.pulseInside (tickOf d.now)
  else d

/-- QUAD_COUNT_EDGE: an edge of PITCH_A or PITCH_B and the direction it shows (R146). -/
def Dev.quadCount (d : Dev) (astern : Bool) : Dev :=
  let tick := tickOf d.now
  let p := d.pitch
  let ok := match p.qTick with | some q => decide (d.get 0x2100 0x0B ≤ tick - q) | none => true
  if !d.on ∨ !d.usesSource 2 ∨ !ok then d
  else
    let ival := match p.qTick with | some q => tick - q | none => 0
    let n := p.qcount + 1
    let p := { p with qcount := n, qTick := some tick, qIval := ival, qDir := if astern then 2 else 1 }
    let d := { d with pitch := p }
    let total := d.get 0x2100 0x0A
    if p.src = 2 ∧ p.st == .locked ∧ 0 < ival ∧ 0 < total then
      let eps := phaseError (n * 2 ^ 24 / total % 2 ^ 24) (p.phase tick)
      (d.pointError eps).lockOn 2 tick
        { p.refQuad with eps := eps, deltaD := total, ival := ival, predict := p.qIndex.getD tick + d.measured, period := p.period }
    else d

/-- The engine's own boundary before the one nearest a tick, 0 for none (R142, R146). -/
def Pitch.boundBefore (p : Pitch) (tick : Nat) : Nat := if p.phase tick < 2 ^ 23 then p.boundPrev else p.boundTick

/-- QUAD_INDEX: a rising edge of PITCH_IDX (R146). -/
def Dev.quadIndex (d : Dev) : Dev :=
  let tick := tickOf d.now
  let p := d.pitch
  if !d.on ∨ !d.usesSource 2 then d
  else
    let d := { d with pitch := { p with qcount := 0, qIndex := some tick } }
    let d := if p.qcount = d.get 0x2100 0x0A then d else d.count 0x2111 0x08
    let before := p.boundBefore tick
    match p.qIndex with
    | none => d
    | some l =>
      let ival := tick - l
      let d := if before ≠ 0 ∧ tick - before < d.tMin then d.raise 0xA106 1 (sat 0xFFFFFFFF ival) else d
      if ival ≤ d.tMax then d.startPoint 2 tick ival
      else { d with pitch := { d.pitch with qualQuad := 0 } }

/-- An accepted master beacon: the master's stamp at this tick and its period (R142, R152). A unit without BEACON as a
source takes the offset alone. The error is that at the SFD; DEDUCED (log entry 31): the rate changes now, when the beacon has
been received whole, so that no stamp already taken is passed again (R140). -/
def Dev.beaconPoint (d : Dev) (master period tick : Nat) : Dev :=
  let at_ := tickOf d.now
  let own := d.stampAt (tick * 4)
  let eps : Int := phaseError (master % 2 ^ 24) own
  let off : Int := ((master : Int) - (own : Int) - eps) / ((2 ^ 24 : Nat) : Int)
  let last := d.pitch.lastBeacon
  let ival := match last with | some l => tick - l | none => period
  let ival := if ival = 0 then period else ival
  let r : RefPoint := { tick := some tick, eps := eps, deltaN := ival * 2 ^ 24, deltaD := max 1 period, ival := ival
                        predict := tick + (2 ^ 24 - master % 2 ^ 24) * period / 2 ^ 24, period := period }
  let used := d.usesSource 3
  let d := if used then d.pointError eps else d
  let p : Pitch := { (if used then d.pitch.takeRef 3 r else d.pitch) with lastBeacon := some tick, offset := off }
  let d := ({ d with pitch := p }).count 0x2111 0x05
  let d := if off ≠ 0 then d.raise 0xA105 2 (ofI32 (satI32 off)) else d
  if !used then d
  else if p.src = 3 ∧ p.st == .locked then d.lockOn 3 at_ r
  else if p.src = 3 ∧ p.st == .slip then { d with pitch := { d.pitch with predict := r.predict } }
  else { d with pitch := { d.pitch with qualBeacon := p.qualBeacon + 1 } }

/-! ### End of a slip (R145) -/

/-- Phase in pu of a beacon source at a tick, from the boundary that it predicts (R145). -/
def predictedPhase (predict per tick : Nat) : Nat :=
  let per := max 1 per
  if predict ≤ tick then (tick - predict) * 2 ^ 24 / per % 2 ^ 24
  else (2 ^ 24 - (predict - tick) * 2 ^ 24 / per % 2 ^ 24) % 2 ^ 24

/-- SLIP_PITCH_END: the slip pitch has ended at the boundary just passed. The point that decides is, for BEACON, the last accepted
master beacon, whose error is that of the boundary it predicts (R145, R147). -/
def Dev.slipPitchEnd (d : Dev) : Dev :=
  let p := d.pitch
  let tick := tickOf d.now
  if d.on ∧ p.st == .slip ∧ p.slip == .inside ∧ p.boundTick ≠ 0 ∧ p.slipEnd ≤ tick then
    let d := (d.count 0x2111 0x01).raise 0xA102 1 p.slipLen
    let d := d.runPeriod tick d.measured
    if p.src = 3 then
      if d.sourceMissing tick then d.enterHoldover tick
      else
        let r := d.pitch.refBeacon
        let r := { r with eps := phaseError (predictedPhase r.predict r.period tick) (d.pitch.phase tick) }
        (d.pointError r.eps).lockOn 3 tick r
    else
      match p.slipPoint with
      | some q =>
        let r := { d.pitch.ref p.src with eps := phaseError 0 (d.pitch.stampOf q) }
        (d.pointError r.eps).lockOn p.src tick r
      | none => { d with pitch := { d.pitch with slip := .window } }
  else d

/-- SLIP_WINDOW_CLOSE: no point came by 1/8 of the measured period after the slip pitch. -/
def Dev.slipWindowClose (d : Dev) : Dev :=
  let tick := tickOf d.now
  if d.on ∧ d.pitch.st == .slip ∧ d.pitch.slip == .window ∧ d.pitch.slipEnd + d.measured / 8 < tick then d.enterHoldover tick
  else d

/-! ### PITCH_OUT (R155) -/

/-- The quality gate keeps PITCH_OUT low. -/
def Dev.pitchGated (d : Dev) : Bool :=
  let g := d.get 0x2101 0x04
  decide (g = 1) && decide (d.quality = 2) || decide (g = 2) && (decide (d.quality = 1) || decide (d.quality = 2))

/-- The width of a pulse in ticks, at most half the interval at T_min (R155). -/
def Dev.outWidth (d : Dev) : Nat :=
  min (d.get 0x2101 0x03) ((if d.get 0x2101 0x01 = 2 then d.tMin / 2 ^ d.legExp else d.tMin) / 2)

/-- How long the pin stays high after a rising edge: the width, or half the pitch that runs. -/
def Dev.outHigh (d : Dev) : Nat := if d.get 0x2101 0x01 = 3 then d.pitch.period24 / 2 else d.outWidth

/-- The phase is one at which PITCH_OUT rises: the offset in the pitch or in the leg, or the start of the pitch. -/
def Dev.outRises (d : Dev) : Bool :=
  let mode := d.get 0x2101 0x01
  let x := d.pitch.phase (tickOf d.now) % (if mode = 2 then d.legPu else 2 ^ 24)
  let off := if mode = 3 then 0 else d.get 0x2101 0x02
  decide (off ≤ x) && decide (x < off + max 1 (ceilDiv d.pitch.rateN d.pitch.rateD))

/-- PITCH_OUT falls: its width has passed, or half the pitch. -/
def Dev.outFalls (d : Dev) : Bool :=
  let tick := tickOf d.now
  if d.get 0x2101 0x01 = 3 then decide (2 ^ 23 ≤ d.pitch.phase tick) else decide (d.pitch.outAt + d.outWidth ≤ tick)

/-- What stands on the PITCH_OUT pin: high impedance in reset, in HOLD, while unpowered, and under the pitch loop (R155, R424). -/
def Dev.pitchOutPin (d : Dev) : Option Bool := if d.on ∧ !d.released ∧ !d.loops.pitch then some d.pitch.out else none

/-- PITCH_OUT is released (R155). -/
def Dev.outRelease (d : Dev) : Dev :=
  ({ d with pitch := { d.pitch with out := false } } : Dev).emit (.pitchOut none)

/-- PITCH_OUT is low from now on. -/
def Dev.outLow (d : Dev) : Dev :=
  if d.pitch.out then
    let d : Dev := { d with pitch := { d.pitch with out := false } }
    if d.loops.pitch then d else d.emit (.pitchOut (some false))
  else d

/-- A write of the Mode of PITCH_OUT: off drives it low (R155). -/
def Dev.outMode (d : Dev) (v : Nat) : Dev :=
  let d := d.put 0x2101 0x01 v
  if v = 0 then d.outLow else d

/-- PITCH_OUT_EDGE: the pin rises at the configured offset, unless the gate holds it, and falls after the width; in the
pitch loop it feeds PITCH_A (R155, R424). -/
def Dev.pitchOutEdge (d : Dev) (rising : Bool) : Dev :=
  if !(d.pw.st == .config || d.pw.st == .service) ∨ d.released ∨ d.get 0x2101 0x01 = 0 then d
  else if rising then
    if d.pitchGated ∨ d.pitch.out ∨ !d.outRises then d
    else
      let d : Dev := { d with pitch := { d.pitch with out := true, outAt := tickOf d.now } }
      if d.loops.pitch then
        if d.usesSource 1 ∧ bits (d.get 0x2100 0x09) 15 0 ≤ d.outHigh then d.pulseInside (tickOf d.now) else d
      else d.emit (.pitchOut (some true))
  else if d.outFalls then d.outLow
  else d

end Sys2Proof.Machine
end

