-- ==== Sys2Proof/Machine/Parse.lean ====
section
/-! DEFINITION. Framing, TAG blocks, checksums and multi-part groups (chapter Ingest, framing and parsing, R73 to R94),
and the parse lanes (R53). -/

namespace Sys2Proof.Machine

/-! ### Characters (R75) -/

def isDigit (b : Nat) : Bool := 0x30 ≤ b && b ≤ 0x39
def isUpper (b : Nat) : Bool := 0x41 ≤ b && b ≤ 0x5A
def isLower (b : Nat) : Bool := 0x61 ≤ b && b ≤ 0x7A
def isAlnum (b : Nat) : Bool := isDigit b || isUpper b || isLower b

/-- A hexadecimal digit, lower case included. -/
def isHex (b : Nat) : Bool := isDigit b || (0x41 ≤ b && b ≤ 0x46) || (0x61 ≤ b && b ≤ 0x66)

/-- A digit that LOWER_HEX admits. -/
def hexAllowed (lower : Bool) (b : Nat) : Bool := isHex b && (lower || !isLower b)

/-- The value of a hexadecimal digit. -/
def hexVal (b : Nat) : Nat := if isDigit b then b - 0x30 else if isLower b then b - 0x57 else b - 0x37

/-- The number that decimal digits spell. -/
def decVal (bs : List Byte) : Nat := bs.foldl (fun a b => a * 10 + (b.toNat - 0x30)) 0

/-- Decimal text: at least one character, all digits. -/
def isDecimal (bs : List Byte) : Bool := !bs.isEmpty && bs.all (fun b => isDigit b.toNat)

/-- Split at a separator. -/
def splitAt (sep : Byte) : List Byte → List (List Byte)
  | [] => [[]]
  | b :: r =>
    match splitAt sep r with
    | [] => [[b]]
    | x :: xs => if b = sep then [] :: x :: xs else (b :: x) :: xs

/-- The code of a character as the parser takes it; 256 for one that its flags or its address mark make invalid. -/
def charCode (c : RxChar) : Nat := if c.framing || c.parity || c.brk || c.addr then 256 else c.data.toNat

/-- A valid character between a start delimiter and its CR. -/
def validCode (k : Nat) : Bool := 0x20 ≤ k && k ≤ 0x7E

/-- A start delimiter: `$`, `!` or `\`. -/
def isStart (k : Nat) : Bool := k = 0x24 || k = 0x21 || k = 0x5C

/-! ### TAG parameters (R80) -/

/-- Whether the value of a parameter that the RVK reads meets its rule; `none` for an unknown code letter. -/
def tagRule (code : Nat) (v : List Byte) : Option Bool :=
  if code = 0x73 ∨ code = 0x64 then some (1 ≤ v.length && v.length ≤ 15 && v.all (fun b => isAlnum b.toNat))
  else if code = 0x67 then
    some (match splitAt 0x2D v with
      | [n, t, i] => isDecimal n && isDecimal t && isDecimal i && decide (1 ≤ decVal n ∧ decVal n ≤ decVal t)
          && decide (decVal t ≤ 16) && decide (decVal i ≤ 99999)
      | _ => false)
  else if code = 0x6E then some (isDecimal v && decide (1 ≤ decVal v ∧ decVal v ≤ 999))
  else if code = 0x63 ∨ code = 0x72 then some (isDecimal v && decide (v.length ≤ 10))
  else if code = 0x74 then some (1 ≤ v.length && v.length ≤ 15)
  else none

/-- What a TAG block gives. -/
structure TagInfo where
  sval : Option (List Byte) := none
  gtag : Option (Nat × Nat × Nat) := none
  tagN : Option Nat := none
  tagC : Option (List Byte) := none
  skipped : Nat := 0
  deriving DecidableEq, Repr

/-- Take one parameter, given the code letters seen; `none` where the block is discarded. DESIGN CHOICE (log entry 74): a code
character that is no letter is an unknown code letter, and its parameter is skipped. -/
def tagParam (seen : List Nat) (i : TagInfo) (param : List Byte) : Option (List Nat × TagInfo) :=
  match param with
  | c :: colon :: v =>
    if colon ≠ 0x3A ∨ seen.contains c.toNat then none
    else
      match tagRule c.toNat v with
      | none => some (c.toNat :: seen, { i with skipped := i.skipped + 1 })
      | some false => none
      | some true =>
        some (c.toNat :: seen,
          if c = 0x73 then { i with sval := some v }
          else if c = 0x67 then
            match splitAt 0x2D v with
            | [n, t, g] => { i with gtag := some (decVal n, decVal t, decVal g) }
            | _ => i
          else if c = 0x6E then { i with tagN := some (decVal v) }
          else if c = 0x63 then { i with tagC := some v }
          else i)
  | _ => none

/-- Take every parameter of a block. -/
def tagParams : List Nat → TagInfo → List (List Byte) → Option TagInfo
  | _, i, [] => some i
  | seen, i, p :: ps =>
    match tagParam seen i p with
    | some (seen', i') => tagParams seen' i' ps
    | none => none

/-! ### The parse state machine (R76, R77, R81) -/

/-- What a character makes a parse context report. -/
inductive PEvent where
  /-- A character in HUNT that starts nothing. -/
  | noise
  /-- An item discarded as MALFORMED: sub-cause, its stamp. -/
  | bad (sub stamp : Nat)
  /-- TAG parameters skipped. -/
  | skipped (n : Nat)
  /-- A complete sentence, in the context that holds it. -/
  | sentence (c : Context)
  deriving DecidableEq, Repr

/-- Option bits of a profile (R74). -/
def optGroup (o : Nat) : Bool := bit o 4
def optTagReq (o : Nat) : Bool := bit o 3
def optLower (o : Nat) : Bool := bit o 2
def optExt (o : Nat) : Bool := bit o 1
def optCks (o : Nat) : Bool := bit o 0

/-- The length limit of a profile. -/
def lenLimit (o : Nat) : Nat := if optExt o then 255 else 82

/-- Start a sentence or a TAG block on a delimiter. -/
def startItem (k stamp quality : Nat) : Context :=
  { st := if k = 0x5C then .tag else .body, len := 1, chars := [BitVec.ofNat 8 k], stamp := stamp, quality := quality }

/-- HUNT on a character (R76). -/
def hunt (k stamp quality : Nat) : Context × List PEvent :=
  if isStart k then (startItem k stamp quality, []) else ({}, [.noise])

/-- Discard and go to SKIP; a start delimiter then starts an item, where the row says so. -/
def toSkip (sub : Nat) (x : Context) (restart : Bool) (k stamp quality : Nat) : Context × List PEvent :=
  if restart && isStart k then (startItem k stamp quality, [.bad sub x.stamp])
  else ({ st := .skip }, [.bad sub x.stamp])

/-- Whether the address field of a sentence is exactly five characters A to Z or 0 to 9 (R77). -/
def addressOk (bytes : List Byte) : Bool :=
  let f := (bytes.drop 1).takeWhile (fun b => !(b = 0x2C || b = 0x2A || b = 0x0D))
  f.length = 5 && f.all (fun b => isDigit b.toNat || isUpper b.toNat)

/-- The end checks of R77: the sub-cause of the first that fails. -/
def endCheck (o : Nat) (x : Context) : Option Nat :=
  let has := x.digits.length = 2
  let bytes := x.chars.reverse
  let value := x.digits.foldl (fun a b => a * 16 + hexVal b.toNat) 0
  if x.len < (if has then 11 else 8) then some 4
  else if !addressOk bytes then some 1
  else if !has && optCks o then some 6
  else if has && !(x.digits.all (fun b => hexAllowed (optLower o) b.toNat)) then some 2
  else if has && value ≠ x.xor.toNat then some 2
  else if optTagReq o && x.sval.isNone then some 5
  else none

/-- The context moves on one character that carries no overrun flag: code, stamp and quality (R76). DESIGN CHOICE (log entry
74): the parameters of a TAG block that is discarded are not counted as skipped. -/
def parseCode (o k stamp quality : Nat) (x : Context) : Context × List PEvent :=
  let b := BitVec.ofNat 8 k
  let x1 := { x with len := x.len + 1, chars := b :: x.chars }
  match x.st with
  | .hunt => hunt k stamp quality
  | .skip => if isStart k then (startItem k stamp quality, []) else if k = 0x0A then ({}, []) else (x, [])
  | .tag =>
    if 80 < x.len + 1 then toSkip 5 x true k stamp quality
    else if k = 0x2A then ({ x1 with st := .tagck, digits := [] }, [])
    else if isStart k || !validCode k then toSkip 5 x true k stamp quality
    else ({ x1 with xor := x.xor ^^^ b, tag := b :: x.tag }, [])
  | .tagck =>
    if 80 < x.len + 1 then toSkip 5 x true k stamp quality
    else if x.digits.length < 2 then
      if hexAllowed (optLower o) k then ({ x1 with digits := x.digits ++ [b] }, []) else toSkip 5 x false k stamp quality
    else if k = 0x5C then
      let value := x.digits.foldl (fun a c => a * 16 + hexVal c.toNat) 0
      match (if value = x.xor.toNat then tagParams [] {} (splitAt 0x2C x.tag.reverse) else none) with
      | some i =>
        ({ st := .tagend, stamp := x.stamp, quality := x.quality, sval := i.sval, gtag := i.gtag,
           tagN := i.tagN, tagC := i.tagC }, if i.skipped = 0 then [] else [.skipped i.skipped])
      | none => toSkip 5 x false k stamp quality
    else toSkip 5 x false k stamp quality
  | .tagend =>
    if k = 0x24 ∨ k = 0x21 then ({ x with st := .body, len := 1, xor := 0, chars := [b] }, [])
    else if k = 0x5C then toSkip 5 x true k stamp quality
    else toSkip 5 x false k stamp quality
  | .body =>
    if lenLimit o < x.len + 1 then toSkip 3 x false k stamp quality
    else if k = 0x2A then ({ x1 with st := .cks, digits := [] }, [])
    else if k = 0x0D then ({ x1 with st := .crwait, digits := [] }, [])
    else if isStart k then toSkip 1 x true k stamp quality
    else if k = 0x0A then ({}, [.bad 1 x.stamp])
    else if !validCode k then toSkip 1 x false k stamp quality
    else ({ x1 with xor := x.xor ^^^ b }, [])
  | .cks =>
    if lenLimit o < x.len + 1 then toSkip 3 x false k stamp quality
    else if x.digits.length < 2 ∧ isHex k then ({ x1 with digits := x.digits ++ [b] }, [])
    else if x.digits.length = 2 ∧ k = 0x0D then ({ x1 with st := .crwait }, [])
    else if k = 0x0A then ({}, [.bad 2 x.stamp])
    else toSkip 2 x true k stamp quality
  | .crwait =>
    if lenLimit o < x.len + 1 then toSkip 3 x false k stamp quality
    else if k = 0x0A then
      match endCheck o x1 with
      | some sub => ({}, [.bad sub x.stamp])
      | none => ({}, [.sentence x1])
    else toSkip 1 x true k stamp quality

/-- A character without its receiver flags. -/
def plainChar (c : RxChar) : RxChar := { c with framing := false, parity := false, brk := false, overrun := false }

/-- The context moves on one received character: an overrun flag acts first, and its character is then taken without flags
(R81). -/
def parseChar (o : Nat) (c : RxChar) (stamp quality : Nat) (x : Context) : Context × List PEvent :=
  if c.overrun then
    if x.st == .hunt || x.st == .skip then
      let (y, es) := parseCode o (charCode (plainChar c)) stamp quality x
      (y, .bad 1 stamp :: es)
    else
      let (y, es) := parseCode o (charCode (plainChar c)) stamp quality { st := .skip }
      (y, .bad 1 x.stamp :: es)
  else parseCode o (charCode c) stamp quality x

/-- A line that enters line-stuck ends the item in progress (R81). -/
def parseStuck (x : Context) : Context × List PEvent :=
  if x.st == .hunt || x.st == .skip then ({}, []) else ({}, [.bad 1 x.stamp])

/-- Parse bytes that arrive together under one stamp, from a context. -/
def parseBytes (o stamp quality : Nat) : Context → List Byte → Context × List PEvent
  | x, [] => (x, [])
  | x, b :: bs =>
    let (y, es) := parseCode o b.toNat stamp quality x
    let (z, fs) := parseBytes o stamp quality y bs
    (z, es ++ fs)

/-! ### Profiles and names (R74, R98) -/

/-- The profile of a source. -/
def Dev.profile (d : Dev) (src : Nat) : Nat := if src < 244 then d.get 0x2248 (src + 1) else 0

/-- Its Options. -/
def Dev.options (d : Dev) (src : Nat) : Nat := d.get (0x2240 + d.profile src) 0x01

/-- Its group timeout in µs. -/
def Dev.groupTimeout (d : Dev) (src : Nat) : Nat := d.get (0x2240 + d.profile src) 0x02

/-- Bytes of a window row, word by word, little-endian. -/
def rowBytes (ws : List Word32) (n : Nat) : List Byte :=
  ((List.range n).map (fun i => le 4 (word ws i))).flatten

/-- The listed name of a name row. -/
def nameOf (ws : List Word32) : List Byte := ((rowBytes ws 4).take 15).takeWhile (· ≠ 0)

/-- NAME of an item (R98). -/
def Dev.nameIndex (d : Dev) (s : Option (List Byte)) : Nat :=
  match s with
  | none => 0xFFF
  | some v =>
    match (d.rowsOf .name).find? (fun r => nameOf r.2 = v) with
    | some r => r.1
    | none => 0xFFE

/-- The address field of a complete sentence. -/
def addressOf (bytes : List Byte) : List Byte := (bytes.drop 1).take 5

/-! ### From a sentence to the lanes (R53, R73, R83) -/

/-- The item of a complete sentence (R49, R50, R80). -/
def Dev.sentenceItem (d : Dev) (src : Nat) (x : Context) (tLast : Nat) : Item :=
  let bytes := x.chars.reverse
  { src := src, kind := 1, form := .sentence
    parts := [{ bytes := bytes, digest := crc64 bytes, tagN := x.tagN, tagC := x.tagC }]
    stamp := x.stamp, origin := x.stamp, tLast := tLast, name := d.nameIndex x.sval, sval := x.sval, gtag := x.gtag
    quality := x.quality }

/-- The items in the lanes and before them. -/
def Dev.inLanes (d : Dev) : List Item := d.lanes.filterMap (·.item) ++ d.laneQueue

/-- The lane that became free first, the lowest-numbered among equals (R53). -/
def freeLane : List Lane → Nat → Option (Nat × Nat)
  | [], _ => none
  | l :: ls, k =>
    let rest := freeLane ls (k + 1)
    if l.item.isSome then rest
    else match rest with
      | some (j, f) => if f < l.freeAt then some (j, f) else some (k, l.freeAt)
      | none => some (k, l.freeAt)

/-- The oldest waiting item takes the lane that became free first (R53). -/
def Dev.laneTake (d : Dev) : Dev :=
  match d.laneQueue, freeLane d.lanes 0 with
  | it :: rest, some (k, _) => { d with laneQueue := rest, lanes := d.lanes.set k { d.lanes.getD k {} with item := some it } }
  | _, _ => d

/-- Complete items of a source that wait for tags (R52). -/
def Dev.waitingOf (d : Dev) (src : Nat) : List Item := (d.inLanes ++ d.waitTag).filter (fun i => i.src = src)

/-- Their number. -/
def Dev.itemsWaiting (d : Dev) (src : Nat) : Nat := (d.waitingOf src).length

/-- The second buffer of a serial channel's parse context holds a complete item (R277). -/
def Dev.secondHeld (d : Dev) (n : Nat) : Bool :=
  match (d.serCh n).second with | some k => (d.waitingOf n).any (fun i => i.order = k) | none => false

/-- An item goes to the lanes: to a free one, else it waits for one (R53). DEDUCED (log entry 73): an item of a serial or CAN
source enters a lane whole, at its last byte. -/
def Dev.toLane (d : Dev) (it : Item) : Dev :=
  let frame := if 208 ≤ it.src ∧ it.src < 212 then d.framesCut else 0
  let d := if it.src < 192 ∧ d.itemsWaiting it.src = 1 ∧ !d.secondHeld it.src then
      d.setSer it.src { d.serCh it.src with second := some d.entered } else d
  ({ d with laneQueue := d.laneQueue ++ [{ it with frame := frame, order := d.entered }], entered := d.entered + 1 } : Dev).laneTake

/-- Act on the events of a context: noise, discards, and sentences into the lanes. -/
def Dev.parseEvent (d : Dev) (src tLast : Nat) (e : PEvent) : Dev :=
  match e with
  | .noise => d.count 0x2232 0x07
  | .bad sub stamp => d.malformedItem sub src stamp
  | .skipped n => d.count 0x2232 0x08 n
  | .sentence x => d.toLane (d.sentenceItem src x tLast)

/-- Act on a list of events. -/
def Dev.parseEvents (d : Dev) (src tLast : Nat) (es : List PEvent) : Dev :=
  es.foldl (fun d e => d.parseEvent src tLast e) d

/-- The parse context of a source. -/
def Dev.context (d : Dev) (src : Nat) : Context := SMap.get (fun _ => ({} : Context)) d.ctx src

/-- Replace the parse context of a source. -/
def Dev.setContext (d : Dev) (src : Nat) (x : Context) : Dev :=
  { d with ctx := SMap.set (fun _ => ({} : Context)) d.ctx src x }

/-- One character of a serial source reaches its context, with its stamp and source-quality code: R76, R77, R81. -/
def Dev.feedChar (d : Dev) (src : Nat) (c : RxChar) (stamp quality tLast : Nat) : Dev :=
  let (y, es) := parseChar (d.options src) c stamp quality (d.context src)
  (d.setContext src y).parseEvents src tLast es

/-! ### Multi-part groups (R83 to R87) -/

/-- Contexts of a source (R84). -/
def groupContexts (src : Nat) : Nat := if src < 192 then 4 else if src < 208 then 32 else if src < 212 then 256 else 4

/-- One digit field. -/
def oneDigit (f : List Byte) : Option Nat :=
  match f with | [b] => if isDigit b.toNat then some (b.toNat - 0x30) else none | _ => none

/-- How group assembly takes a sentence (R83). -/
inductive PartKind where
  | single
  | malformed
  /-- Part number, total, group key. -/
  | part (n total : Nat) (key : List Nat)
  deriving DecidableEq, Repr

/-- Numbers of a key: lengths keep the fields apart. -/
def keyText (bs : List Byte) : List Nat := bs.length :: bs.map (·.toNat)

/-- The s: value of a key, or none. -/
def keySval (s : Option (List Byte)) : List Nat := match s with | some v => 1 :: keyText v | none => [0]

/-- Classify a sentence for grouping (R83). DESIGN CHOICE (log entry 74): a `!` sentence with a valid count and number and no
third field at all is a single item. -/
def Dev.partKind (d : Dev) (it : Item) : PartKind :=
  if !optGroup (d.options it.src) then .single
  else
    match it.gtag with
    | some (n, t, g) => if 2 ≤ t then .part n t (1 :: keySval it.sval ++ [g]) else .single
    | none =>
      match it.parts with
      | [p] =>
        if p.bytes.head? = some 0x21 then
          let body := (p.bytes.drop 1).takeWhile (fun b => !(b = 0x2A || b = 0x0D))
          let fs := splitAt 0x2C body
          match oneDigit (fs.getD 1 []), oneDigit (fs.getD 2 []) with
          | some c, some n =>
            if c = 0 ∨ n = 0 ∨ c < n then .malformed
            else
              let m := fs.getD 3 []
              let midOk := m.isEmpty || (oneDigit m).isSome
              if c = 1 ∨ fs.length < 4 ∨ !midOk then .single
              else .part n c (2 :: keySval it.sval ++ keyText (fs.getD 0 []) ++ keyText m)
          | _, _ => .malformed
        else .single
      | _ => .single

/-- Discard every part a group holds (R84, R85); a sequence of frames counts once (R87). DESIGN CHOICE (log entry 74): the stamp
that 0x2231:02 then holds is part 1's. -/
def Dev.dropGroup (d : Dev) (g : GroupCtx) (sub : Nat) : Dev :=
  let n := if g.need = 0 then max 1 g.parts.length else 1
  let d := { d with groups := d.groups.filter (· ≠ g) }
  (List.range n).foldl (fun d _ => d.discard .groupIncomplete sub g.src g.first.item.stamp) d

/-- The deadline that a part sets: its T_last plus the group timeout (R85, R87). -/
def Dev.groupDeadline (d : Dev) (src tLast : Nat) : Nat := d.stampAt tLast + d.usToPu (d.groupTimeout src)

/-- The open group of a source with the earliest deadline; the first opened among equals (R84). -/
def earliestGroup : List GroupCtx → Option GroupCtx
  | [] => none
  | g :: gs =>
    match earliestGroup gs with
    | none => some g
    | some h => if h.deadline < g.deadline ∨ (h.deadline = g.deadline ∧ h.opened < g.opened) then some h else some g

/-- Open a group with its first part, evicting one where no context is free (R84). -/
def Dev.openGroup (d : Dev) (g : GroupCtx) : Dev :=
  let mine := d.groups.filter (fun x => x.src = g.src)
  let d :=
    if mine.length < groupContexts g.src then d
    else
      match earliestGroup mine with
      | some old =>
        let d := (d.dropGroup old 2).count 0x2233 0x03
        d.raiseCount 0xA2D1 1 1 (countDetail g.src)
      | none => d
  { d with groups := d.groups ++ [g] }

/-- The open group of a source and key. -/
def Dev.findGroup (d : Dev) (src : Nat) (key : List Nat) : Option GroupCtx :=
  d.groups.find? (fun g => g.src = src ∧ g.key = key)

/-- Free the tag that holds a tagged item. -/
def Dev.untag (d : Dev) (tag : Nat) : Dev := { d with tagged := d.tagged.filter (fun x => !(x.tag = tag)) }

/-- The tagged item that a complete group becomes: rows and stamp of part 1, T_last of the last part, the last part's
place and tag (R58, R86). -/
def groupDone (first last : Tagged) (parts : List Part) : Tagged :=
  { first with
    tag := last.tag, shared := last.shared, issued := last.issued, members := parts.length
    item := { first.item with parts := parts, tLast := last.item.tLast, finish := last.item.finish
                              charged := last.item.charged } }

/-- Replace the tagged item of a tag. -/
def Dev.retag (d : Dev) (x : Tagged) : Dev :=
  { d with tagged := d.tagged.map (fun y => if y.tag = x.tag ∧ y.virt = x.virt then x else y) }

/-- The sub-cause with which a first part of the same key ends an open group: incomplete once its deadline is before the
part's stamp, else broken (R84, R85). -/
def GroupCtx.endedBy (g : GroupCtx) (stamp : Nat) : Nat := if g.deadline < stamp then 1 else 2

/-- The group stage meets a part of a multi-sentence group, which holds a tag (R58, R84). A part that stays held frees
its tag; the answer is the group when the part completes it. -/
def Dev.groupPart (d : Dev) (x : Tagged) (n total : Nat) (key : List Nat) : Dev × Option Tagged :=
  let it := x.item
  let lose (d : Dev) (sub : Nat) : Dev × Option Tagged := ((d.untag x.tag).discard .groupIncomplete sub it.src it.stamp, none)
  let fresh : GroupCtx :=
    { src := it.src, key := key, total := total, parts := it.parts, data := [], need := 0
      deadline := d.groupDeadline it.src it.tLast, opened := d.now, first := x, lastSeq := it.seq }
  match d.findGroup it.src key with
  | none => if n = 1 then ((d.untag x.tag).openGroup fresh, none) else lose d 1
  | some g =>
    if n = 1 then (((d.dropGroup g (g.endedBy it.stamp)).untag x.tag).openGroup fresh, none)
    else if g.deadline < it.stamp then lose (d.dropGroup g 1) 1
    else if n = g.parts.length + 1 ∧ total = g.total then
      let parts := g.parts ++ it.parts
      let d := { d with groups := d.groups.filter (· ≠ g) }
      if n = total then
        let done := groupDone g.first x parts
        ((d.count 0x2233 0x01).retag done, some done)
      else
        ({ d.untag x.tag with
           groups := d.groups ++ [{ g with parts := parts, deadline := d.groupDeadline it.src it.tLast }] }, none)
    else lose (d.dropGroup g 2) 2

/-- The group stage meets a later part of a twin item: parts carry consecutive sequence numbers, and the mark tells the
last (R84, R85, R255). -/
def Dev.twinPart (d : Dev) (x : Tagged) (last : Bool) (key : List Nat) : Dev × Option Tagged :=
  let it := x.item
  let lose (d : Dev) (sub : Nat) : Dev × Option Tagged := ((d.untag x.tag).discard .groupIncomplete sub it.src it.stamp, none)
  match d.findGroup it.src key with
  | none => lose d 1
  | some g =>
    if g.deadline < it.stamp then lose (d.dropGroup g 1) 1
    else if it.seq = (g.lastSeq + 1) % 2 ^ 32 then
      let parts := g.parts ++ it.parts
      let d := { d with groups := d.groups.filter (· ≠ g) }
      if last then
        let done := groupDone g.first x parts
        ((d.count 0x2233 0x01).retag done, some done)
      else
        ({ d.untag x.tag with
           groups := d.groups ++ [{ g with parts := parts, lastSeq := it.seq
                                           deadline := d.groupDeadline it.src it.tLast }] }, none)
    else lose (d.dropGroup g 2) 2

/-- Counter and sequence of a fast-packet frame, and its identifier and data (R87). -/
def fpFields (bytes : List Byte) : Nat × Nat × List Byte × List Byte :=
  let data := bytes.drop 5
  let b0 := beAt data 0 1
  (b0 % 32, b0 / 32, bytes.take 4, data)

/-- The CAN item of assembled data: the first frame's identifier bytes and the data (R87, R115). -/
def fpPartOf (ident data : List Byte) : Part :=
  let bytes := ident ++ le 1 (data.length % 128) ++ data
  { bytes := bytes, digest := crc64 bytes }

/-- The group stage meets a frame of a fast-packet sequence (R84, R87). DESIGN CHOICE (log entry 74): a first frame that holds
all its data completes its sequence without a context. -/
def Dev.fpPart (d : Dev) (x : Tagged) : Dev × Option Tagged :=
  let it := x.item
  let bytes := (it.parts.map (·.bytes)).flatten
  let (n, q, ident, data) := fpFields bytes
  let key := 3 :: q :: ident.map (·.toNat)
  let lose (d : Dev) (sub : Nat) : Dev × Option Tagged := ((d.untag x.tag).discard .groupIncomplete sub it.src it.stamp, none)
  let finish (d : Dev) (first : Tagged) (payload : List Byte) : Dev × Option Tagged :=
    let done := { groupDone first x [fpPartOf ident payload] with members := 1 }
    ((d.count 0x2233 0x01).retag done, some done)
  if n = 0 then
    let need := beAt data 1 1
    let got := (data.drop 2).take need
    let d := match d.findGroup it.src key with | some g => d.dropGroup g (g.endedBy it.stamp) | none => d
    if need ≤ 6 then finish d x got
    else
      ((d.untag x.tag).openGroup
        { src := it.src, key := key, total := 0, parts := it.parts, data := got, need := need
          deadline := d.groupDeadline it.src it.tLast, opened := d.now, first := x }, none)
  else
    match d.findGroup it.src key with
    | none => lose d 1
    | some g =>
      if g.deadline < it.stamp then lose (d.dropGroup g 1) 1
      else if n = g.parts.length then
        let got := g.data ++ (data.drop 1).take (g.need - g.data.length)
        let d := { d with groups := d.groups.filter (· ≠ g) }
        if g.need ≤ got.length then finish d g.first got
        else
          ({ d.untag x.tag with
             groups := d.groups ++ [{ g with parts := g.parts ++ it.parts, data := got
                                             deadline := d.groupDeadline it.src it.tLast }] }, none)
      else ((d.dropGroup g 2).untag x.tag, none)

/-- The open groups of a source whose deadline has passed and which no earlier-stamped item of the source can still join
(R85). -/
def Dev.lateGroups (d : Dev) (src : Nat) : List GroupCtx :=
  let awaited (deadline : Nat) : Bool :=
    (d.inLanes ++ d.waitTag).any (fun i => i.src = src ∧ i.stamp ≤ deadline)
      || d.tagged.any (fun x => x.item.src = src ∧ x.item.stamp ≤ deadline ∧ x.fate == .working)
      || (let c := d.context src
          (c.st == .tag || c.st == .tagck || c.st == .tagend || c.st == .body || c.st == .cks || c.st == .crwait)
            && decide (c.stamp ≤ deadline))
  d.groups.filter (fun g => g.src = src ∧ g.deadline < d.stamp ∧ !awaited g.deadline)

/-- GROUP_DEADLINE_EXPIRY: the late groups of the source are dropped as incomplete (R85). -/
def Dev.groupExpiry (d : Dev) (src : Nat) : Dev :=
  if d.inService then (d.lateGroups src).foldl (fun d g => d.dropGroup g 1) d else d

end Sys2Proof.Machine
end

