-- ==== Sys2Proof/Machine/Select.lean ====
section
/-! DEFINITION. Tags, classification, the firewall, field probes and last values (chapters The sentence path and Stream
table, listener sets and the firewall), and redundancy groups (chapter Redundant talkers and selection). -/

namespace Sys2Proof.Machine

/-! ### Keys and lookup (R95 to R99) -/

/-- The code of an address character (R97). -/
def addrCode (b : Nat) : Nat := if isDigit b then b - 0x30 else b - 0x37

/-- The 64-bit key of an item (R95, R96). -/
def itemKey (it : Item) : Nat :=
  it.kind * 2 ^ 61 +
    (if it.kind = 1 then
      it.src * 2 ^ 53 + it.name * 2 ^ 41
        + ((addressOf ((it.parts.head?.map (·.bytes)).getD [])).foldl (fun a b => a * 64 + addrCode b.toNat) 0) * 2 ^ 11
    else if it.kind = 2 then it.src * 2 ^ 53 + it.sel * 2 ^ 47
    else it.sel)

/-- The key of a stream row. -/
def rowKeyOf (ws : List Word32) : Nat := word ws 1 * 2 ^ 32 + word ws 0

/-- The stream whose row holds a key (R99). -/
def Dev.lookup (d : Dev) (key : Nat) : Option (Nat × List Word32) :=
  (d.rowsOf .stream).find? (fun r => rowKeyOf r.2 = key ∧ key ≠ 0)

/-- Fields of a stream row (R101). -/
def rowLvEn (r : List Word32) : Bool := flagOf r 2 31
def rowMirSeq (r : List Word32) : Bool := flagOf r 2 30
def rowMirLv (r : List Word32) : Bool := flagOf r 2 29
def rowAuth (r : List Word32) : Bool := flagOf r 2 28
def rowMember (r : List Word32) : Bool := flagOf r 2 27
def rowClass (r : List Word32) : Nat := fieldOf r 2 26 24
def rowDefer (r : List Word32) : Nat := fieldOf r 2 23 21
def rowGroup (r : List Word32) : Nat := fieldOf r 2 11 0
def rowKeySlot (r : List Word32) : Nat := fieldOf r 3 31 26
def rowLset (r : List Word32) : Nat := fieldOf r 3 15 0
def rowBurst (r : List Word32) : Nat := fieldOf r 4 31 28
def rowInt (r : List Word32) : Nat := fieldOf r 4 23 0
def rowPcount (r : List Word32) : Nat := fieldOf r 5 18 14
def rowPfirst (r : List Word32) : Nat := fieldOf r 5 13 0

/-- A listener set as a mask: bit of listener n (R103). -/
def setMask (ws : List Word32) : Nat :=
  (List.range 16).foldl (fun a i => a + word ws i * 2 ^ (32 * i)) 0

/-- The mask of a listener set; set 0 is empty (R103). -/
def Dev.lset (d : Dev) (n : Nat) : Nat := if n = 0 then 0 else setMask (d.row .lset n)

/-! ### Tags (R54, R55, R62, R63) -/

/-- The reserved tag of a source, if it has one (R54). -/
def reservedTag (src : Nat) : Option Nat := if src < 208 then some src else if 244 ≤ src ∧ src < 248 then some (src - 36) else none

/-- A tag is in use. -/
def Dev.tagUsed (d : Dev) (tag : Nat) : Bool := d.tagged.any (fun x => x.tag = tag)

/-- Tags in use (R71). -/
def Dev.tagsInUse (d : Dev) : Nat := (d.tagged.filter (fun x => !x.virt || !d.tagged.any (fun y => y.tag = x.tag ∧ !y.virt))).length

/-- The lowest shared tag that is free. -/
def Dev.sharedTag (d : Dev) : Option Nat := ((List.range 812).map (· + 212)).find? (fun t => !d.tagUsed t)

/-- Shared tags free (R71). -/
def Dev.sharedFree (d : Dev) : Nat := (((List.range 812).map (· + 212)).filter (fun t => !d.tagUsed t)).length

/-- The tag that an item of a source takes: its reserved tag first, a shared tag after that (R54). -/
def Dev.tagFor (d : Dev) (src : Nat) : Option Nat :=
  match reservedTag src with
  | some t => if d.tagUsed t then d.sharedTag else some t
  | none => d.sharedTag

/-- Issue order: earlier finish first, then ascending source number; waiting order otherwise (R55). -/
def firstToIssue (able : Item → Bool) : List Item → Option Item
  | [] => none
  | i :: is =>
    match firstToIssue able is with
    | none => if able i then some i else none
    | some j => if able i ∧ (i.finish < j.finish ∨ (i.finish = j.finish ∧ i.src ≤ j.src)) then some i else some j

/-- Bytes of an item's parts. -/
def itemBytes (it : Item) : Nat := (it.parts.map (fun p => p.bytes.length)).sum

/-- Account for a tag issue in its window of 2 µs: more than 96 items or 10,000 sentence bytes exceed the rating
(R62, R63). -/
def Dev.loadWindow (d : Dev) (bytes : Nat) : Dev :=
  let w := d.now / (2 * usCycles)
  let l := if d.load.window = w then d.load else { window := w }
  let l := { l with items := l.items + 1, bytes := l.bytes + bytes }
  let heavy := 96 < l.items ∨ 10000 < l.bytes
  let d := if heavy ∧ !l.counted then d.count 0x2220 0x05 else d
  let d := { d with load := { l with counted := l.counted || heavy } }
  if heavy then
    let most := if d.alertActive 0xA2E0 then max (d.sinceOf 0xA2E0) l.items else l.items
    let d := d.raise 0xA2E0 1 most
    { d with since := SMap.set (fun _ => 0) d.since 0xA2E0 most }
  else if d.alertActive 0xA2E0 ∧ d.sinceOf 0xA2E0 < l.items then
    { d.alertDetail 0xA2E0 l.items with since := SMap.set (fun _ => 0) d.since 0xA2E0 l.items }
  else d

/-! ### Learn list (R106) -/

/-- The first eight characters of an s: value as the learn name, the first in [7:0]. -/
def learnName (it : Item) : Nat :=
  if it.kind = 1 ∧ it.name = 0xFFE then ofLe ((it.sval.getD []).take 8) else 0

/-- The record with the oldest last stamp, lowest-numbered among equals. -/
def oldestLearn : List Learn → Nat → Option (Nat × Nat)
  | [], _ => none
  | l :: ls, i =>
    match oldestLearn ls (i + 1) with
    | none => some (i, l.last)
    | some (j, s) => if s < l.last then some (j, s) else some (i, l.last)

/-- Record a miss (R106). -/
def Dev.learnMiss (d : Dev) (key name src stamp : Nat) : Dev :=
  if d.get 0x2308 0x01 = 0 then d
  else if d.learn.any (fun l => l.key = key) then
    { d with learn := d.learn.map (fun l =>
        if l.key = key then { l with last := stamp, count := sat 0xFFFFFFFF (l.count + 1) } else l) }
  else
    let new : Learn := ⟨key, name, stamp, stamp, 1⟩
    let d :=
      if d.learn.length < 64 then { d with learn := d.learn ++ [new] }
      else
        match oldestLearn d.learn 0 with
        | some (i, _) => { d with learn := d.learn.set i new }.count 0x2308 0x0A
        | none => d
    d.raise 0xA2C0 1 (d.learn.length * 2 ^ 16 + src)

/-- Discard an item whose key no row holds (R99, R106, R441). -/
def Dev.unknownTalker (d : Dev) (it : Item) (key : Nat) : Dev :=
  ((d.count 0x2310 0x02).discard .quarantined 1 it.src it.stamp).learnMiss key (learnName it) it.src it.stamp

/-! ### Tag issue and classification -/

/-- The probe rows of a stream row's chain, with the sets their ALT names (R105, R109). -/
def Dev.chain (d : Dev) (row : List Word32) : List (Nat × List Word32) :=
  ((List.range (rowPcount row)).map (fun i => (rowPfirst row + i, d.row .probe (rowPfirst row + i))))

/-- The tagged item of an item and its stream row. -/
def Dev.tagItem (d : Dev) (tag : Nat) (it : Item) (stream : Nat) (row : List Word32) : Tagged :=
  let ch := d.chain row
  let virt := if rowMember row then d.lookup (itemKey { it with kind := 6, sel := rowGroup row }) else none
  { virtRow := virt, virtSet := d.lset (rowLset ((virt.map Prod.snd).getD []))
    cmp := if rowMember row then d.row .probe (fieldOf (d.row .group (rowGroup row)) 10 13 0) else []
    tag := tag, shared := decide (212 ≤ tag), item := it, stream := stream, row := row, set := d.lset (rowLset row)
    probes := ch, alts := ch.map (fun p => (p.1, d.lset (fieldOf p.2 6 15 0))), issued := d.now }

/-- How the group stage takes an item: single, or a part with its number (R83, R87, R255). -/
inductive Grouping where
  | single
  | fp
  | part (n total : Nat) (key : List Nat)
  /-- A later part of a twin item. -/
  | twin (last : Bool) (key : List Nat)
  deriving DecidableEq, Repr

/-- Grouping of an item: a twin record's part mark, a fast-packet frame, or R83. A twin record's part mark makes it a group part
whether or not the profile's GROUP_EN is set: R255 states it without that condition (DEDUCED, log entry 74). -/
def Dev.grouping (d : Dev) (it : Item) : Grouping :=
  if it.kind = 5 ∨ it.kind = 4 then .single
  else if it.fp then .fp
  else if it.kind = 3 then
    let key := [4, it.sel, it.gen]
    if it.mark = 0 then .single else if it.mark = 1 then .part 1 0 key else .twin (decide (it.mark = 3)) key
  else if it.form == .sentence then
    match d.partKind it with
    | .part n t key => .part n t key
    | _ => .single
  else .single

/-- Whether an item is a later part, which is not looked up (R104). -/
def Grouping.later : Grouping → Bool
  | .part n _ _ => decide (1 < n) | .twin _ _ => true | _ => false

/-- The key a fast-packet frame is joined by. -/
def fpKey (it : Item) : List Nat :=
  let (_, q, ident, _) := fpFields ((it.parts.map (·.bytes)).flatten)
  3 :: q :: ident.map (·.toNat)

/-- A fast-packet frame that is not the first of its sequence. -/
def fpLater (it : Item) : Bool := it.fp && (fpFields ((it.parts.map (·.bytes)).flatten)).1 ≠ 0

/-- A tagged item still in the stages opens the group of a key when it completes them. -/
def Dev.opensGroup (d : Dev) (src : Nat) (key : List Nat) (y : Tagged) : Bool :=
  y.item.src = src && y.fate == .working && (match d.grouping y.item with
    | .part 1 _ k => decide (k = key)
    | .fp => !fpLater y.item && decide (fpKey y.item = key)
    | _ => false)

/-- The stream and row that a later part takes from its group's first part (R104). -/
def Dev.groupOrigin (d : Dev) (it : Item) (key : List Nat) : Option Tagged :=
  match d.findGroup it.src key with
  | some g => some g.first
  | none => (d.tagged.filter (d.opensGroup it.src key)).getLast?

/-- The largest tag count seen since the last clear (R71), when a further tag is taken. -/
def Dev.tagHigh (d : Dev) : Dev := d.put 0x2220 0x02 (max (d.get 0x2220 0x02) (d.tagsInUse + 1))

/-- An item with the NAME that the source name list in force gives it (R98, R105). -/
def Dev.named (d : Dev) (it : Item) : Item := if it.kind = 1 then { it with name := d.nameIndex it.sval } else it

/-- An earlier item of the same backbone frame has no tag yet (R55). -/
def Dev.frameAhead (d : Dev) (it : Item) : Bool :=
  it.frame ≠ 0 && (d.inLanes ++ d.waitTag).any (fun j => j.frame = it.frame && decide (j.order < it.order))

/-- TAG_ISSUE: the first item that may take a tag takes it and is classified (R54, R55, R99). -/
def Dev.tagIssue (d : Dev) : Dev :=
  match firstToIssue (fun i => (d.tagFor i.src).isSome && !d.frameAhead i) d.waitTag with
  | none => d
  | some waiting =>
    match d.tagFor waiting.src with
    | none => d
    | some tag =>
      let it := d.named waiting
      let d := (({ d with waitTag := d.waitTag.erase waiting, issue := d.issue + 1 }).loadWindow (itemBytes it)).tagHigh
      let g := d.grouping it
      if g.later ∨ fpLater it then
        let key := match g with | .part _ _ k | .twin _ k => k | _ => fpKey it
        match d.groupOrigin it key with
        | some x => { d with tagged := d.tagged ++ [{ x with tag := tag, shared := decide (212 ≤ tag), item := it
                                                             issued := d.now, fate := .working }] }
        | none => { d with tagged := d.tagged ++ [d.tagItem tag it (2 ^ 18) []] }
      else
        let key := itemKey it
        let d := d.count 0x2310 0x01
        match d.lookup key with
        | some (s, row) => { d with tagged := d.tagged ++ [d.tagItem tag it s row] }
        | none => d.unknownTalker it key

/-! ### Field probes (R109 to R113) -/

/-- What a probe reads. -/
inductive ProbeVal where
  /-- The probe does not fit the item: it fails. -/
  | misfit
  | empty
  | num (v : Int)
  | notNumeric
  | text (bs : List Byte)
  deriving DecidableEq, Repr

/-- Whether an item is a CAN item. -/
def Item.isCan (it : Item) : Bool := it.form == .can

/-- The first part's bytes, or the reassembled data of a CAN item. -/
def Item.firstBytes (it : Item) : List Byte := (it.parts.head?.map (·.bytes)).getD []

/-- Field n of a sentence, counted from the comma that ends the address field (R110). -/
def sentenceField (bytes : List Byte) (n : Nat) : List Byte :=
  (splitAt 0x2C ((bytes.drop 1).takeWhile (fun b => !(b = 0x2A || b = 0x0D)))).getD n []

/-- A numeric field: optional sign, digits, and a point with digits; at most 18 digits; scaled and truncated (R111). -/
def numericField (f : List Byte) (scale : Nat) : Option Int :=
  let neg := f.head? = some 0x2D
  let body := if f.head? = some 0x2D ∨ f.head? = some 0x2B then f.drop 1 else f
  let ok (i p : List Byte) : Option Int :=
    if isDecimal i ∧ i.length + p.length ≤ 18 then
      let v := decVal (i ++ p) * 10 ^ scale / 10 ^ p.length
      let r : Int := if neg then -(v : Int) else (v : Int)
      if -(2 ^ 63) ≤ r ∧ r < 2 ^ 63 then some r else none
    else none
  match splitAt 0x2E body with
  | [i] => ok i []
  | [i, p] => if isDecimal p then ok i p else none
  | _ => none

/-- PKIND, OP, FIELD, OFFSET, WIDTH and SCALE of a probe row (R109). -/
def probeKind (p : List Word32) : Nat := fieldOf p 0 7 5
def probeOp (p : List Word32) : Nat := fieldOf p 0 11 8
def probeField (p : List Word32) : Nat := fieldOf p 0 4 0
def probeAction (p : List Word32) : Nat := fieldOf p 0 17 16

/-- The value that a probe extracts from bytes of a sentence or of a CAN item (R110, R111). -/
def probeValue (p : List Word32) (can : Bool) (bytes : List Byte) : ProbeVal :=
  let k := probeKind p
  let off := fieldOf p 0 31 24
  let data := bytes.drop 5
  if k = 4 ∨ k = 5 then
    if !can then .misfit
    else
      let w := 2 ^ fieldOf p 0 21 20
      if data.length < off + w then .empty
      else
        let v := leAt data off w
        .num (if k = 5 ∧ 2 ^ (8 * w - 1) ≤ v then (v : Int) - (2 ^ (8 * w) : Nat) else (v : Int))
  else if k = 3 then
    if probeField p = 0 then (if !can then .misfit else if off < data.length then .text [0] else .empty)
    else if can then .misfit
    else
      let f := sentenceField bytes (probeField p)
      if f.isEmpty then .empty else .text f
  else if can then .misfit
  else
    let f := sentenceField bytes (probeField p)
    if f.isEmpty then .empty
    else if k = 0 then
      match numericField f (fieldOf p 0 14 12) with
      | some v => .num v
      | none => .notNumeric
    else .text f

/-- The distance of R112 between a value and a reference. -/
def probeDistance (b : Int) (v r : Int) : Int :=
  if b ≤ 0 then (v - r).natAbs
  else let x := (v - r) % b; min x (b - x)

/-- STR of a probe: up to the first NUL (R109). -/
def probeStr (p : List Word32) : List Byte := ((le 4 (word p 4)) ++ (le 4 (word p 5))).takeWhile (· ≠ 0)

/-- Whether a probe passes on bytes, with the last value's bytes for STEP (R112). -/
def probePasses (p : List Word32) (can : Bool) (bytes : List Byte) (last : Option (Bool × List Byte)) : Bool :=
  let a := toI32 (word p 1)
  let b := toI32 (word p 2)
  let tol : Int := (word p 3 : Nat)
  let op := probeOp p
  let v := probeValue p can bytes
  if probeKind p = 3 then
    match v with
    | .misfit => false
    | .empty => op = 1
    | _ => op = 0
  else
    match v with
    | .misfit => false
    | .empty => flagOf p 0 15
    | .notNumeric => false
    | .num x =>
      if op = 0 then probeDistance b x a ≤ tol
      else if op = 1 then tol < probeDistance b x a
      else if op = 2 then x < a else if op = 3 then x ≤ a else if op = 4 then a < x else if op = 5 then a ≤ x
      else if op = 6 then a ≤ x && x ≤ b
      else if op = 7 then x < a || b < x
      else
        match last with
        | none => true
        | some (lcan, lb) =>
          match probeValue p lcan lb with
          | .num r => probeDistance b x r ≤ tol
          | _ => true
    | .text f =>
      let str := probeStr p
      if probeKind p = 1 then
        if op = 0 then f = str else if op = 1 then f ≠ str else str.isPrefixOf f
      else
        let hit := match f with | c :: _ => str.contains c | [] => false
        if op = 0 then hit else !hit

/-- An empty probe row (R113). -/
def probeEmpty (p : List Word32) : Bool := p.all (· = 0)

/-- The last-value slot of a stream (R115). -/
def Dev.lastSlot (d : Dev) (s : Nat) : Slot := SMap.get (fun _ => ({} : Slot)) d.slots s

/-- Replace a last-value slot. -/
def Dev.setSlot (d : Dev) (s : Nat) (x : Slot) : Dev := { d with slots := SMap.set (fun _ => ({} : Slot)) d.slots s x }

/-- The reference of a STEP probe. -/
def Dev.stepRef (d : Dev) (x : Tagged) : Option (Bool × List Byte) :=
  let l := d.lastSlot x.stream
  if rowLvEn x.row ∧ l.valid ∧ !l.value.isEmpty then some (l.can, l.value) else none

/-- The probes of an item's chain that fail, ascending (R113). -/
def Dev.failingProbes (d : Dev) (x : Tagged) : List (Nat × List Word32) :=
  x.probes.filter (fun p => !probeEmpty p.2 && !probePasses p.2 x.item.isCan x.item.firstBytes (d.stepRef x))

/-- Count a probe's failure and raise its alert (R109, R113). FAILS belongs to the row: a superseded row's failure does not
count in the row that took its place (R119). -/
def Dev.probeFailed (d : Dev) (stale : List Nat) (p : Nat × List Word32) : Dev :=
  let n := sat 0xFFFFFFFF (SMap.get (fun _ => 0) d.probeFails p.1 + 1)
  let d := (if stale.contains p.1 then d else { d with probeFails := SMap.set (fun _ => 0) d.probeFails p.1 n }).count 0x2310 0x05
  if flagOf p.2 0 18 then d.raise 0xA2C2 1 p.1 else d

/-- A chain holds a STEP probe. -/
def hasStep (ps : List (Nat × List Word32)) : Bool :=
  ps.any (fun p => !probeEmpty p.2 && (probeKind p.2 = 0 || probeKind p.2 = 4 || probeKind p.2 = 5) && probeOp p.2 = 8)

/-! ### Firewall steps (R104, R107, R108, R114) -/

/-- Drop the tag of an item and count every part it holds under a reason (R104). -/
def Dev.dropTagged (d : Dev) (x : Tagged) (r : Reason) (sub : Nat) : Dev :=
  let d := { d with tagged := d.tagged.filter (fun y => !(y.tag = x.tag ∧ y.virt = x.virt)) }
  (List.range (max 1 x.members)).foldl (fun d _ => d.discard r sub x.item.src x.item.stamp) d

/-- Authentication: the datagram's tag was verified under KEYSLOT, which is usable for TG (R107). -/
def Dev.authentic (d : Dev) (x : Tagged) : Bool :=
  !rowAuth x.row ||
    (x.item.verified = some (rowKeySlot x.row) && (d.keyOf (rowKeySlot x.row) 1).isSome)

/-- The rate rule on an arrival stamp: the new TAT of a conforming item (R108). -/
def rateTest (row : List Word32) (tat t : Nat) : Option Nat :=
  if rowInt row = 0 then some tat
  else if tat ≤ t + (rowBurst row - 1) * rowInt row then some (max tat t + rowInt row)
  else none

/-- Talker class of a source and listener class of a listener (R114). -/
def Dev.talkerClass (d : Dev) (src : Nat) : Nat :=
  bits (d.get 0x2305 (src / 8 + 1)) (src % 8 * 4 + 2) (src % 8 * 4)
def Dev.listenerClass (d : Dev) (l : Nat) : Nat := bits (d.get 0x2304 (l / 8 + 1)) (l % 8 * 4 + 2) (l % 8 * 4)

/-- The listeners of a mask, ascending. -/
def maskList (m : Nat) : List Nat := (List.range 304).filter (fun i => m.testBit i)

/-- Whether direction rules let an item of a source reach a listener (R114). -/
def Dev.allowed (d : Dev) (src l : Nat) : Bool :=
  bit (d.get 0x2306 (d.talkerClass src + 1)) (d.listenerClass l) && !(src < 208 && l = src)

/-- The listeners that direction rules remove from a set (R114). -/
def Dev.removed (d : Dev) (src set : Nat) : List Nat := (maskList set).filter (fun l => !d.allowed src l)

/-- A set without some listeners. -/
def maskWithout (set : Nat) (ls : List Nat) : Nat := ls.foldl (fun m l => setBit m l false) set

/-! ### Redundancy groups (R123 to R136) -/

/-- Fields of a group row (R124). -/
def grpMode (g : List Word32) : Nat := fieldOf g 0 31 30
def grpNmem (g : List Word32) : Nat := fieldOf g 0 29 27
def grpVstream (g : List Word32) : Nat := fieldOf g 0 17 0
def grpMember (g : List Word32) (r : Nat) : Nat := fieldOf g (1 + r) 17 0
def grpAge (g : List Word32) (r : Nat) : Nat := word g (5 + r)
def grpDisint (g : List Word32) : Nat := fieldOf g 9 31 16
def grpHyst (g : List Word32) : Nat := fieldOf g 9 15 0
def grpCmp (g : List Word32) : Bool := flagOf g 10 31
def grpProbe (g : List Word32) : Nat := fieldOf g 10 13 0
def grpSfield (g : List Word32) : Nat := fieldOf g 11 4 0
def grpValidSet (g : List Word32) : List Byte := ((le 4 (word g 12)) ++ (le 4 (word g 13))).takeWhile (· ≠ 0)

/-- The selection state of a group. -/
def Dev.sel (d : Dev) (g : Nat) : Sel := SMap.get (fun _ => ({} : Sel)) d.sels g
def Dev.setSel (d : Dev) (g : Nat) (x : Sel) : Dev := { d with sels := SMap.set (fun _ => ({} : Sel)) d.sels g x }

/-- Word 14 of a group (R124). -/
def selWord (s : Sel) : Nat :=
  b2n s.none * 2 ^ 31 + b2n s.disputed * 2 ^ 30 + s.sel % 4 * 2 ^ 28 + s.cand % 4 * 2 ^ 26 + s.hcount % 2 ^ 16

/-- The key of a member's record: its group and its stream. -/
def memberKey (g stream : Nat) : Nat := g * 2 ^ 18 + stream

/-- The record of the member of a rank. -/
def Dev.member (d : Dev) (g : Nat) (row : List Word32) (r : Nat) : Option MemberRec :=
  SMap.get (fun _ => none) d.members (memberKey g (grpMember row r))

/-- A listed member's row has MEMBER set and names the group (R125). -/
def Dev.memberRow (d : Dev) (g : Nat) (row : List Word32) (r : Nat) : Bool :=
  let s := d.row .stream (grpMember row r)
  rowMember s && rowGroup s = g

/-- The member of a rank is valid at a stamp (R127). -/
def Dev.memberValid (d : Dev) (g : Nat) (row : List Word32) (t r : Nat) : Bool :=
  r < grpNmem row && d.memberRow g row r &&
    (match d.member g row r with
     | some m => m.valid && decide (t ≤ m.arrival + grpAge row r)
     | none => false)

/-- Two members agree, and their distance (R128). -/
def Dev.distance (d : Dev) (row : List Word32) (x y : Option Int) : Option Int :=
  match x, y with
  | some v, some w => some (probeDistance (toI32 (word (d.row .probe (grpProbe row)) 2)) v w)
  | _, _ => none
def Dev.agree (d : Dev) (row : List Word32) (x y : Option Int) : Bool :=
  match d.distance row x y with
  | some v => decide (v ≤ (word (d.row .probe (grpProbe row)) 3 : Nat))
  | none => false

/-- The comparison value of the record of a rank. -/
def Dev.memberValue (d : Dev) (g : Nat) (row : List Word32) (r : Nat) : Option Int := (d.member g row r).bind (·.value)

/-- The candidate of a group at a stamp: its rank minus 1 (R131). -/
def Dev.candidate (d : Dev) (g : Nat) (row : List Word32) (t : Nat) : Option Nat :=
  let valid := (List.range 4).filter (fun r => d.memberValid g row t r)
  if grpMode row = 1 then
    match valid.find? (fun r => valid.any (fun q => q ≠ r ∧ d.agree row (d.memberValue g row r) (d.memberValue g row q))) with
    | some r => some r
    | none => valid.head?
  else if grpMode row = 2 then
    valid.foldl (fun best r =>
      match best with
      | none => some r
      | some b =>
        let o (q : Nat) : Nat := ((d.member g row q).map (·.origin)).getD 0
        if o b < o r then some r else some b) none
  else valid.head?

/-- The outcome that the boundary applies (R129). The candidate of the previous selection point is CAND as it stands: where that
point found none, NONE is set. -/
def Dev.selNext (d : Dev) (g : Nat) (row : List Word32) (t : Nat) (s : Sel) (cand : Option Nat) : SelNext :=
  match cand with
  | none => { none := true, sel := s.sel, hcount := 0, immediate := false }
  | some c =>
    let outvoted := ((d.member g row s.sel).map (·.outvoted)).getD false
    if s.none then { none := false, sel := c, hcount := 0, immediate := true }
    else if c = s.sel then { none := false, sel := c, hcount := 0, immediate := false }
    else if !d.memberValid g row t s.sel ∨ outvoted then { none := false, sel := c, hcount := 0, immediate := true }
    else
      let h := if s.cand = c then s.hcount + 1 else 1
      if grpHyst row ≤ h then { none := false, sel := c, hcount := 0, immediate := false }
      else { none := false, sel := s.sel, hcount := h, immediate := false }

/-- SELECTION_POINT of one group: CAND and the outcome awaiting the boundary (R129). -/
def Dev.selectPoint (d : Dev) (g : Nat) (row : List Word32) : Dev :=
  let s := d.sel g
  let cand := d.candidate g row d.stamp
  let next := d.selNext g row d.stamp s cand
  d.setSel g { s with cand := cand.getD s.cand, pend := some next }

/-- Every filled group row. -/
def Dev.groupRows (d : Dev) : List (Nat × List Word32) := (d.rowsOf .group).filter (fun r => grpNmem r.2 ≠ 0)

/-- HEM_START: every group's selection point, on a unit that decides or shadows (R129, R135, R174). -/
def Dev.selectionPoints (d : Dev) : Dev := d.groupRows.foldl (fun d r => d.selectPoint r.1 r.2) d

/-- A group's state as applying its row leaves it: words 14 and 15 at their reset values; the leg of its last 0xA2B2 stands
(R124, R134). -/
def Sel.applied (s : Sel) : Sel := { lastDis := s.lastDis }

/-- Apply an outcome to a group, counting and alerting changes (R129, R136, R137). -/
def Dev.applySelection (d : Dev) (g : Nat) (n : SelNext) : Dev :=
  let s := d.sel g
  let s' := { s with none := n.none, sel := n.sel, hcount := n.hcount, pend := none, decision := none }
  if n.none then ((d.setSel g s').count 0x2410 0x07).raise 0xA2B0 2 g
  else if s.none ∨ n.sel ≠ s.sel then
    let old := if s.none then n.sel else s.sel
    let d := (d.setSel g { s' with switches := sat 0xFFFFFFFF (s.switches + 1) }).count 0x2410 0x01
    d.raise 0xA2B3 1 (b2n n.immediate * 2 ^ 16 + n.sel * 2 ^ 14 + old * 2 ^ 12 + g)
  else d.setSel g s'

/-- The outcome that word 14 of the active's decision gives (R135). Word 14 does not say whether a change is immediate. DEDUCED
(log entry 30): where this unit's own evaluation selects the same member, as that says; else by hysteresis where the mirrored
HCOUNT was one short of HYST. -/
def selOfWord (s : Sel) (hyst w : Nat) : SelNext :=
  let sel := bits w 29 28
  let byCount := !s.none && decide (hyst ≤ s.hcount + 1)
  { none := bit w 31, sel := sel, hcount := bits w 15 0
    immediate := match s.pend with | some n => if !n.none && n.sel = sel then n.immediate else !byCount | none => !byCount }

/-- SELECTION_BOUNDARY: the outcome of the selection point, or the active's decision on a standby (R129, R135). -/
def Dev.selectionBoundary (d : Dev) : Dev :=
  d.groupRows.foldl (fun d r =>
    let s := d.sel r.1
    match (if d.shadows then s.decision else none), s.pend with
    | some w, _ =>
      let d := d.setSel r.1 { s with cand := bits w 27 26 }
      d.applySelection r.1 (selOfWord s (grpHyst r.2) w)
    | none, some n => d.applySelection r.1 n
    | none, none => d) d

/-- The comparison value of an item, under the comparison probe in force when its tag was issued (R105, R128). -/
def itemValue (row : List Word32) (x : Tagged) : Option Int :=
  if !grpCmp row then none
  else
    match probeValue x.cmp x.item.isCan x.item.firstBytes with
    | .num v => some v
    | _ => none

/-- Whether an item is valid for selection (R127). -/
def itemValid (row : List Word32) (x : Tagged) : Bool :=
  !x.probeInvalid && (grpSfield row = 0 ||
    (match sentenceField x.item.firstBytes (grpSfield row) with
     | c :: _ => (grpValidSet row).contains c
     | [] => false))

/-- Put the virtual item of a tag behind its member item, so that the streams of both are ordered by the issue of the tag
(R56, R57). -/
def Dev.attach (d : Dev) (v : Tagged) : Dev :=
  { d with tagged := d.tagged.flatMap (fun y => if y.tag = v.tag ∧ !y.virt then [y, v] else [y]) }

/-- The virtual item of a member item, attached to the same tag, through steps 4 and 5 of the firewall under the rows in force
when the tag was issued (R57, R104, R105, R132, R133, R441). It keeps the deferrals that R63 has charged (log entry 29). -/
def Dev.attachVirtual (d : Dev) (x : Tagged) (g : Nat) (disputed : Bool) : Dev :=
  let it : Item := { x.item with kind := 6, sel := g, disputed := disputed, verified := none }
  let d := d.count 0x2310 0x01
  match x.virtRow with
  | none => d.unknownTalker it (itemKey it)
  | some (s, row) =>
    let v : Tagged := { x with item := it, stream := s, row := row, set := x.virtSet, virt := true, probes := [], alts := []
                               probeInvalid := false, virtRow := none, oldTat := none, stale := [] }
    let gone := d.removed it.src v.set
    let eff := maskWithout v.set gone
    let d := d.count 0x2310 0x07 gone.length
    if eff = 0 ∧ !gone.isEmpty then
      let d := (List.range (max 1 x.members)).foldl (fun d _ => d.discard .quarantined 2 it.src it.stamp) d
      d.raise 0xA2C4 1 s
    else
      let fate := if eff = 0 then Fate.consumed else Fate.ready
      let d := if eff = 0 then d.count 0x2220 0x08 else d
      d.attach { v with eset := eff, fate := fate }

/-- PRIMARY mode with CMP_EN: compare an attached item with the highest-ranked other valid member (R134). -/
def Dev.compareMembers (d : Dev) (g : Nat) (row : List Word32) (rank t : Nat) (v : Option Int) : Dev :=
  match ((List.range 4).filter (fun r => r ≠ rank ∧ d.memberValid g row t r)).head? with
  | none => d
  | some r =>
    let w := d.memberValue g row r
    if d.agree row v w then d
    else
      let d := d.count 0x2410 0x05
      let leg := d.stamp / d.legPu
      let s := d.sel g
      let recent := match s.lastDis with | some l => decide (leg < l + grpDisint row) | none => false
      if recent then d.alertPresent 0xA2B2
      else
        let dist := match d.distance row v w with | some x => sat 0xFFFF x.toNat | none => 0xFFFF
        (d.setSel g { s with lastDis := some leg }).raise 0xA2B2 1 (dist * 2 ^ 16 + r * 2 ^ 14 + g)

/-- SELECTOR_ATTACH: a member item updates its record and may be given a virtual item (R126, R132). -/
def Dev.selector (d : Dev) (x : Tagged) : Dev :=
  if !rowMember x.row then d
  else
    let g := rowGroup x.row
    let row := d.row .group g
    match (List.range (grpNmem row)).find? (fun r => grpMember row r = x.stream) with
    | none => (d.count 0x2410 0x06).raise 0xA2B4 1 (g * 2 ^ 18 + x.stream)
    | some rank =>
      let it := x.item
      let v := itemValue row x
      let ok := itemValid row x
      let put (d : Dev) (outvoted : Bool) : Dev :=
        { d with members := SMap.set (fun _ => none) d.members (memberKey g x.stream)
                   (some { arrival := it.stamp, origin := it.origin, valid := ok, value := v, outvoted := outvoted }) }
      let d := put d false
      let s := d.sel g
      if s.none ∨ s.sel ≠ rank then d
      else if !ok then d.count 0x2410 0x02
      else if grpMode row = 1 then
        let others := (List.range 4).filter (fun r => r ≠ rank ∧ d.memberValid g row it.stamp r)
        if others.any (fun r => d.agree row v (d.memberValue g row r)) then
          (d.setSel g { s with disputed := false }).attachVirtual x g false
        else if others.any (fun r => others.any (fun q => r < q ∧ d.agree row (d.memberValue g row r) (d.memberValue g row q))) then
          (put d true).count 0x2410 0x03
        else
          (((d.setSel g { s with disputed := true }).count 0x2410 0x04).raise 0xA2B1 2 (rank * 2 ^ 12 + g)).attachVirtual
            x g true
      else
        let d := (d.setSel g { s with disputed := false }).attachVirtual x g false
        if grpMode row = 0 ∧ grpCmp row then d.compareMembers g row rank it.stamp v else d

/-! ### The stages of one item (R104, R105) -/

/-- Steps 4 and 5 and the selector, on a single item or a completed group. -/
def Dev.directionStage (d : Dev) (x : Tagged) : Dev :=
  let gone := d.removed x.item.src x.set
  let eff := maskWithout x.set gone
  let d := d.count 0x2310 0x07 gone.length
  if eff = 0 ∧ !gone.isEmpty then (d.dropTagged x .quarantined 2).raise 0xA2C4 1 x.stream
  else
    let d := if eff = 0 then d.count 0x2220 0x08 else d
    let y := { x with eset := eff, fate := if eff = 0 then Fate.consumed else Fate.ready }
    (d.retag y).selector y

/-- Step 3 on a single item: probes, then steps 4 and 5 (R113). -/
def Dev.probeStage (d : Dev) (x : Tagged) : Dev :=
  let bad := d.failingProbes x
  let d := bad.foldl (fun d p => d.probeFailed x.stale p) d
  let y := { x with probeInvalid := bad.any (fun p => probeAction p.2 = 1) }
  if bad.any (fun p => probeAction p.2 = 3) then d.dropTagged x .quarantined 4
  else
    match bad.find? (fun p => probeAction p.2 = 2) with
    | some p =>
      let set := ((x.alts.find? (fun a => a.1 = p.1)).map Prod.snd).getD 0
      (d.count 0x2310 0x06).directionStage { y with set := set }
    | none => d.directionStage y

/-- Step 2: the rate rule of a single item or a first part; `none` where it discards (R108). The TAT belongs to the row: an item
whose row has been superseded since its tag was issued is tested on the superseded row's TAT, which the other items tagged under
that row share (R119). -/
def Dev.rateStage (d : Dev) (x : Tagged) : Option Dev :=
  match x.oldTat with
  | none =>
    (rateTest x.row (SMap.get (fun _ => 0) d.tat x.stream) x.item.stamp).map
      (fun n => { d with tat := SMap.set (fun _ => 0) d.tat x.stream n })
  | some (c, tat) =>
    (rateTest x.row tat x.item.stamp).map (fun n =>
      { d with tagged := d.tagged.map (fun y =>
          if y.stream = x.stream ∧ y.oldTat.map Prod.fst = some c then { y with oldTat := some (c, n) } else y) })

/-- An earlier item of the stream with the same arrival stamp is still in the stages: step 2 tests them in issue order
(R108). -/
def Dev.rateWaits (x : Tagged) (earlier : List Tagged) : Bool :=
  rowInt x.row ≠ 0 && earlier.any (fun y => y.stream = x.stream && y.fate == .working && y.item.stamp = x.item.stamp)

/-- Discard by the rate rule. -/
def Dev.rateDrop (d : Dev) (x : Tagged) : Dev :=
  ((d.dropTagged x .rateLimited 1).count 0x2310 0x04).raise 0xA2C1 1 x.stream

/-- ITEM_STAGES_COMPLETE: the item that holds a tag passes the firewall, group, selection and last-value stages
(R104). An item whose chain has a STEP probe waits for its stream's earlier items (R112), one with a rate rule for those of its
own stamp (R108), and a later part for its group's first part; without that part's group it is incomplete (R84, R104). -/
def Dev.stagesComplete (d : Dev) (tag : Nat) : Dev :=
  match d.tagged.find? (fun x => x.tag = tag ∧ !x.virt ∧ x.fate == .working) with
  | none => d
  | some x =>
    let earlier := d.tagged.takeWhile (fun y => !(y.tag = tag))
    let g := d.grouping x.item
    let later := g.later || fpLater x.item
    let key := match g with | .part _ _ k | .twin _ k => k | _ => fpKey x.item
    if hasStep x.probes ∧ earlier.any (fun y => y.stream = x.stream) then d
    else if Dev.rateWaits x earlier ∨ (later ∧ earlier.any (fun y => d.opensGroup x.item.src key y)) then d
    else if later ∧ (d.findGroup x.item.src key).isNone then (d.untag x.tag).discard .groupIncomplete 1 x.item.src x.item.stamp
    else if x.item.kind = 5 then d.directionStage x
    else if !d.authentic x then
      ((d.dropTagged x .quarantined 3).count 0x2310 0x03).raise 0xA2C3 2
        (x.item.src * 2 ^ 24 + rowKeySlot x.row * 2 ^ 18 + x.stream % 2 ^ 18)
    else
      match g with
      | .single =>
        match d.rateStage x with
        | some d => d.probeStage x
        | none => d.rateDrop x
      | .part n t key =>
        match (if n = 1 then d.rateStage x else some d) with
        | none => d.rateDrop x
        | some d =>
          match d.groupPart x n t key with
          | (d, some y) => d.directionStage y
          | (d, none) => d
      | .twin last key =>
        match d.twinPart x last key with
        | (d, some y) => d.directionStage y
        | (d, none) => d
      | .fp =>
        match (if fpLater x.item then some d else d.rateStage x) with
        | none => d.rateDrop x
        | some d =>
          match d.fpPart x with
          | (d, some y) => d.directionStage y
          | (d, none) => d

/-! ### Last values (R115, R116) -/

/-- Bytes of an item as its slot holds them: a sentence, or the CAN layout of R115. -/
def Dev.lastValueUpdate (d : Dev) (x : Tagged) : Dev :=
  let it := x.item
  if !rowLvEn x.row ∨ it.form == .run then d
  else
    let bytes := it.firstBytes
    if it.parts.length ≠ 1 ∨ 82 < bytes.length then d.count 0x2310 0x08
    else
      d.setSlot x.stream { value := bytes, valid := true, can := it.isCan, fromActive := false, stamp := it.origin }

end Sys2Proof.Machine
end

