-- ==== Sys2Proof/Machine/Admit.lean ====
section
/-! DEFINITION. Admission: gate windows, budgets, frames, custody horizons, deferral and refusal (chapter Admission,
custody and the rinse, R158 to R180), and the lines, records and frames that admission makes final (R166, R253, R255,
R259, R281, R300). -/

namespace Sys2Proof.Machine

/-! ### Listeners (R103) -/

/-- A listener that the power state leaves out of the plans being opened (R343). -/
def Dev.trimmedPlan (d : Dev) (l : Nat) : Bool := d.pw.trimPlan && d.masked l

/-- The same for a backbone port. -/
def Dev.portTrimmed (d : Dev) (p : Nat) : Bool := d.pw.trimPlan && bit (d.pw.masks.getD 6 0) (16 + p)

/-- Mode of a serial channel and of a backbone port (R266, R233). -/
def Dev.serMode (d : Dev) (n : Nat) : Nat := d.get (0x3000 + n) 0x01
def Dev.portMode (d : Dev) (p : Nat) : Nat := d.get (0x3200 + p) 0x01

/-- Data rate of a port in bit/ns (R232). -/
def Dev.portRate (d : Dev) (p : Nat) : Nat := if d.portMode p = 3 then 1 else 10

/-- Ports of BB0 to BB3 that carry a backbone group; none while the group is disabled (R159, R232, R250). -/
def Dev.groupPorts (d : Dev) (g : Nat) : List Nat :=
  let r := d.row .txgroup g
  if word r 0 = 0 then []
  else (List.range 4).filter (fun p => bit (word r 1) p && d.portMode p ≠ 0 && !d.portTrimmed p
    && bits d.loops.ports (3 * p + 2) (3 * p) ≠ 4)

/-- FORMAT of a group: 0 standard, 1 twin, 2 tunnel (R250). -/
def Dev.groupFormat (d : Dev) (g : Nat) : Nat := fieldOf (d.row .txgroup g) 1 15 14

/-- A group has GMAC set (R250). -/
def Dev.groupGmac (d : Dev) (g : Nat) : Bool := flagOf (d.row .txgroup g) 1 13

/-- Whether a group's format has a record for an item. -/
def groupCarries (format : Nat) (it : Item) : Bool := if format = 2 then it.form == .run else it.form == .sentence

/-! ### Gate windows and their budgets (R161 to R164) -/

/-- A gate window. -/
structure Gate where
  entry : Nat
  cmask : Nat
  openAt : Nat
  close : Nat
  deriving DecidableEq, Repr

/-- The mode that a leg has: a pending change governs from its target leg on (R201, R202). -/
def Dev.modeOf (d : Dev) (leg : Nat) : Nat :=
  match d.team.change with | some c => if c.target ≤ leg then c.mode else d.mode | none => d.mode

/-- A row as the plan of a leg sees it: a pending commit's gate and custody rows govern the plan of its target leg from
the instant it opens (R119, R163). -/
def Dev.planRow (d : Dev) (t : Tbl) (n leg : Nat) : List Word32 :=
  match SMap.get (fun _ => emptyRow) d.overlays (overlayKey (d.modeOf leg) t n) with
  | [] =>
    if d.commit = some leg then
      match d.staged.reverse.find? (fun s => s.tbl = t ∧ s.row = n) with
      | some s => if s.empty then [] else s.words
      | none => d.row t n
    else d.row t n
  | ws => ws

/-- The index of a leg within its pitch. -/
def Dev.legIndex (d : Dev) (leg : Nat) : Nat := leg % 2 ^ 24 / d.legPu

/-- Insert a window in order of OPEN. -/
def insertGate (g : Gate) : List Gate → List Gate
  | [] => [g]
  | h :: t => if g.openAt ≤ h.openAt then g :: h :: t else h :: insertGate g t

/-- The gate entries of a port that may hold a window. -/
def Dev.gateEntries (d : Dev) (p leg : Nat) : List Nat :=
  let rows := ((d.rowsOf .gate).map Prod.fst ++ (d.staged.filter (fun s => s.tbl = .gate)).map (fun s => s.row)
      ++ (d.overlayOf .gate (d.modeOf leg)).map Prod.fst).filter (fun n => n / 256 = p)
  (List.range 256).filter (fun e => rows.contains (256 * p + e))

/-- The windows of a port that are present in a leg, in order of OPEN (R161). -/
def Dev.gates (d : Dev) (p leg : Nat) : List Gate :=
  (d.gateEntries p leg).foldl (fun gs e =>
    let r := d.planRow .gate (256 * p + e) leg
    if flagOf r 0 31 ∧ d.legIndex leg &&& fieldOf r 1 9 0 = fieldOf r 1 25 16 then
      insertGate ⟨e, fieldOf r 0 7 0, fieldOf r 2 23 0, fieldOf r 3 23 0⟩ gs
    else gs) []

/-- The unscheduled reserve (R165). -/
def Dev.reserve (d : Dev) : Nat := d.get 0x2500 0x01

/-- The first window of a leg that carries class 7 on a port. -/
def Dev.firstSeven (d : Dev) (p leg : Nat) : Option Nat := ((d.gates p leg).find? (fun g => bit g.cmask 7)).map (·.entry)

/-- B of a window in a leg, in wire bytes (R164): times are phases at T_min, A is 5,000 ns. -/
def Dev.budget (d : Dev) (p leg : Nat) (g : Gate) : Nat :=
  let tm := d.get 0x2100 0x04 * 5
  let u := if d.firstSeven p leg = some g.entry then d.reserve else 0
  (g.close * tm - max (g.openAt * tm) (5000 * 2 ^ 24)) * d.portRate p / (8 * 2 ^ 24) - u

/-! ### Frames (R166) -/

/-- V of a class on a port: 4 when the port inserts a tag (R237). -/
def Dev.tagBytes (d : Dev) (p cls : Nat) : Nat := if bit (d.get (0x3200 + p) 0x06) (8 + cls) then 4 else 0

/-- H of a group's format (R166). -/
def Dev.headerBytes (d : Dev) (g : Nat) : Nat :=
  match d.groupFormat g with
  | 0 => 6
  | 1 => if d.groupGmac g then 60 else 32
  | _ => 16

/-- Wire bytes of a frame whose records sum to S (R166). -/
def Dev.wireBytes (d : Dev) (p cls g size : Nat) : Nat := max 84 (66 + d.tagBytes p cls + d.headerBytes g + size)

/-- Content of a frame, from the destination address through the FCS (R166). -/
def Dev.contentBytes (d : Dev) (p cls g size : Nat) : Nat := 14 + d.tagBytes p cls + 28 + d.headerBytes g + size + 4

/-- Sum of record lengths. -/
def recBytes (rs : List FrameRec) : Nat := (rs.map (fun r => r.bytes.length)).sum

/-- Records may join a frame: MAXLEN of the port (R166), and a record count of at most 255 (R254, R259). -/
def Dev.joins (d : Dev) (p cls g size count : Nat) (rs : List FrameRec) : Bool :=
  decide (d.contentBytes p cls g (size + recBytes rs) ≤ d.get (0x3200 + p) 0x03) && decide (count + rs.length ≤ 255)

/-- Place records in new frames, as few as hold them, in order. -/
def Dev.newFrames (d : Dev) (p win g cls : Nat) : Option PlanFrame → List FrameRec → List PlanFrame
  | cur, [] => cur.toList
  | none, r :: rs =>
    d.newFrames p win g cls
      (some { port := p, window := win, group := g, format := d.groupFormat g, cls := cls, recs := [r]
              size := r.bytes.length, number := none }) rs
  | some f, r :: rs =>
    if d.joins p cls g f.size f.recs.length [r] then
      d.newFrames p win g cls (some { f with recs := f.recs ++ [r], size := f.size + r.bytes.length }) rs
    else
      f :: d.newFrames p win g cls
        (some { port := p, window := win, group := g, format := d.groupFormat g, cls := cls, recs := [r]
                size := r.bytes.length, number := none }) rs

/-- Replace the open frame of a window, group and class, which is the last such frame. -/
def growFrame (same : PlanFrame → Bool) (new : PlanFrame) : List PlanFrame → List PlanFrame
  | [] => []
  | f :: fs => if same f && !fs.any same then new :: fs else f :: growFrame same new fs

/-- Pack an item's records of one group in a window: the frames after, and the growth in wire bytes (R166). -/
def Dev.pack (d : Dev) (fs : List PlanFrame) (p win g cls : Nat) (rs : List FrameRec) : List PlanFrame × Nat :=
  let same (f : PlanFrame) : Bool := f.port = p && f.window = win && f.group = g && f.cls = cls
  let fresh :=
    let new := d.newFrames p win g cls none rs
    (fs ++ new, (new.map (fun f => d.wireBytes p cls g f.size)).sum)
  match (fs.filter same).getLast? with
  | none => fresh
  | some f =>
    if d.joins p cls g f.size f.recs.length rs then
      let f' := { f with recs := f.recs ++ rs, size := f.size + recBytes rs }
      (growFrame same f' fs, d.wireBytes p cls g f'.size - d.wireBytes p cls g f.size)
    else fresh

/-- Pack an item's records of every group that a port carries in one window. -/
def Dev.packAll (d : Dev) (fs : List PlanFrame) (p win cls : Nat) (gs : List (Nat × List FrameRec)) :
    List PlanFrame × Nat :=
  gs.foldl (fun a g => let (fs', n) := d.pack a.1 p win g.1 cls g.2; (fs', a.2 + n)) (fs, 0)

/-- Charge an item to the first window of its class on a port that has room (R164, R166). A shadow charge that finds no
room takes the class's last window. -/
def Dev.chargePort (d : Dev) (pl : Plan) (p cls : Nat) (gs : List (Nat × List FrameRec)) (force : Bool) : Option Plan :=
  if gs.isEmpty then some pl
  else
    let wins := (d.gates p pl.leg).filter (fun g => bit g.cmask cls)
    let spent (e : Nat) : Nat := SMap.get (fun _ => 0) pl.charges (256 * p + e)
    let take (w : Gate) : Plan :=
      let (fs, n) := d.packAll pl.frames p w.entry cls gs
      { pl with frames := fs, charges := SMap.set (fun _ => 0) pl.charges (256 * p + w.entry) (spent w.entry + n) }
    match wins.find? (fun w => decide (spent w.entry + (d.packAll pl.frames p w.entry cls gs).2 ≤ d.budget p pl.leg w)) with
    | some w => some (take w)
    | none => if force then some ((wins.getLast?.map take).getD pl) else none

/-! ### Lines and records (R253, R255, R259) -/

/-- Part mark of part `i` (from 0) of `n` (R211). -/
def partMark (i n : Nat) : Nat := if n ≤ 1 then 0 else if i = 0 then 1 else if i + 1 = n then 3 else 2

/-- The unit SFI (R251). -/
def Dev.sfi (d : Dev) : List Byte :=
  if d.get 0x1C03 0x05 = 0 then ascii "EU" ++ hexN 4 d.base
  else (le 8 (d.get 0x1C03 0x05)).takeWhile (· ≠ 0)

/-- A TAG block of parameters, closed by its checksum (R78, R253). -/
def tagBlock (ps : List (List Byte)) : List Byte :=
  let body := (List.intersperse [0x2C] ps).flatten
  [0x5C] ++ body ++ [0x2A] ++ hexN 2 (xorAll body).toNat ++ [0x5C]

/-- The n: line count after one more line: 1 to 999, then 1. -/
def nextLine (n : Nat) : Nat := if 999 ≤ n then 1 else n + 1

/-- The s: value of a line of a group: the listed source name with S_NAME, else the unit SFI (R253). -/
def Dev.lineName (d : Dev) (row : List Word32) (it : Item) : List Byte :=
  if flagOf row 1 11 ∧ it.name < 0xFFE then nameOf (d.row .name it.name) else d.sfi

/-- The line of one part for a standard group (R253): line count and group id as they stand for it. -/
def Dev.standardLine (d : Dev) (g : Nat) (it : Item) (i line gid : Nat) (p : Part) : List Byte :=
  let row := d.row .txgroup g
  let total := it.parts.length
  tagBlock ([ascii "s:" ++ d.lineName row it]
    ++ (match p.tagC with | some c => if flagOf row 1 8 then [ascii "c:" ++ c] else [] | none => [])
    ++ (if flagOf row 1 10 then [ascii "n:" ++ decimal line] else [])
    ++ (if flagOf row 1 9 ∧ 1 < total then
          [ascii "g:" ++ decimal (i + 1) ++ [0x2D] ++ decimal total ++ [0x2D] ++ decimal gid] else []))
    ++ p.bytes

/-- The stream field of a record (R211, R255). -/
def Dev.streamField (d : Dev) (stream i n : Nat) : Nat := partMark i n * 2 ^ 30 + d.globalId stream % 2 ^ 30

/-- The record of one part in a group's format. -/
def Dev.record (d : Dev) (g stream seq : Nat) (it : Item) (i line gid : Nat) (p : Part) : List Byte :=
  match d.groupFormat g with
  | 0 => d.standardLine g it i line gid p
  | 1 =>
    be 4 (d.streamField stream i it.parts.length) ++ be 4 (seq + i) ++ be 8 it.origin ++ be 1 p.bytes.length ++ p.bytes
  | _ =>
    be 1 it.sel ++ be 1 it.runKind ++ be 2 p.bytes.length ++ be 4 (seq + i) ++ be 8 it.origin ++ p.bytes

/-- The records of an item for one group, advancing the group's n: and g: counters (R253); none for the parts of `skip`
(R215). -/
def Dev.groupRecords (d : Dev) (g stream seq index : Nat) (it : Item) (skip : List Nat) : Dev × List FrameRec :=
  let row := d.row .txgroup g
  let usesN := d.groupFormat g = 0 ∧ flagOf row 1 10
  let usesG := d.groupFormat g = 0 ∧ flagOf row 1 9 ∧ 1 < it.parts.length
  let gid := SMap.get (fun _ => 0) d.groupId g
  let d := if usesG then { d with groupId := SMap.set (fun _ => 0) d.groupId g ((gid + 1) % 100000) } else d
  it.parts.zipIdx.foldl (fun (a : Dev × List FrameRec) pi =>
    let line := nextLine (SMap.get (fun _ => 0) a.1.lineNo g)
    let d' := if usesN then { a.1 with lineNo := SMap.set (fun _ => 0) a.1.lineNo g line } else a.1
    (d', if skip.contains pi.2 then a.2
      else a.2 ++ [{ index := index, part := pi.2, bytes := d.record g stream seq it pi.2 line gid pi.1 }])) (d, [])

/-! ### Serial custody (R168, R267, R281) -/

/-- Fields of Format and Line control. -/
def Dev.serFormat (d : Dev) (n : Nat) : Nat := d.get (0x3000 + n) 0x03
def Dev.serLine (d : Dev) (n : Nat) : Nat := d.get (0x3000 + n) 0x04

/-- DATA is 2: the nine-bit format. -/
def Dev.nineBit (d : Dev) (n : Nat) : Bool := bits (d.serFormat n) 6 5 = 2

/-- Bits of a character (R267). -/
def Dev.charBits (d : Dev) (n : Nat) : Nat :=
  let f := d.serFormat n
  1 + (if bits f 6 5 = 0 then 7 else 8) + b2n (bits f 6 5 = 2) + b2n (bits f 4 3 ≠ 0) + 1 + b2n (bit f 2)

/-- Character time in picoseconds, times a count, rounded up. -/
def Dev.charsPs (d : Dev) (n count : Nat) : Nat := ceilDiv (count * d.charBits n * 10 ^ 12) (d.get (0x3000 + n) 0x02)

/-- Character time in CORE cycles, rounded up. -/
def Dev.charCycles (d : Dev) (n count : Nat) : Nat := ceilDiv (d.charsPs n count) 1250

/-- A serial listener takes custody of an item (R281). -/
def Dev.serTakes (d : Dev) (n : Nat) (it : Item) : Bool :=
  it.form == .sentence && d.serMode n = 1 && !d.trimmedPlan n

/-- The characters of an item on a serial channel, and the line count after them (R281). -/
def Dev.serChars (d : Dev) (n : Nat) (it : Item) : List (Byte × Bool) × Nat :=
  let ac := d.get (0x3000 + n) 0x05
  let tx := bits (d.serLine n) 7 6
  let lines := it.parts.foldl (fun (a : List Byte × Nat) p =>
    let tag := if tx = 0 then []
      else if tx = 1 then tagBlock [ascii "s:" ++ d.sfi]
      else tagBlock [ascii "s:" ++ d.sfi, ascii "n:" ++ decimal a.2]
    (a.1 ++ tag ++ p.bytes, if tx = 2 then nextLine a.2 else a.2)) ([], (d.serCh n).lineNo)
  ((if d.nineBit n ∧ bit ac 17 then [(BitVec.ofNat 8 (bits ac 31 24), true)] else []) ++ lines.1.map (fun b => (b, false)), lines.2)

/-! ### CAN custody (R87, R115, R168, R300, R303) -/

/-- The frame of an item's CAN layout (R115). -/
def canFrameOf (bs : List Byte) : CanFrame :=
  let id := leAt bs 0 4
  let f := beAt bs 4 1
  { ident := id % 2 ^ 29, ide := bit id 31, rtr := false, fdf := bit id 30, brs := bit id 29, esi := bit f 7
    data := bs.drop 5 }

/-- The CAN layout of a frame (R115). -/
def canLayout (f : CanFrame) : List Byte :=
  le 4 (f.ident + b2n f.brs * 2 ^ 29 + b2n f.fdf * 2 ^ 30 + b2n f.ide * 2 ^ 31)
    ++ le 1 (f.data.length % 128 + b2n f.esi * 128) ++ f.data

/-- The later frames of a fast-packet sequence: frame counter, data left (R87). -/
def fpFrames (f : CanFrame) (q : Nat) : Nat → Nat → List Byte → List CanFrame
  | 0, _, _ => []
  | fuel + 1, n, rest =>
    if rest.isEmpty then []
    else
      let d := rest.take 7
      { f with data := BitVec.ofNat 8 (q * 32 + n) :: (d ++ List.replicate (7 - d.length) 0xFF) }
        :: fpFrames f q fuel (n + 1) (rest.drop 7)

/-- The frames that egress sends for a CAN item of a sequence number (R300). -/
def canFrames (it : Item) (seq : Nat) : List CanFrame :=
  let f := canFrameOf it.firstBytes
  if it.fp then
    let q := seq % 8
    let f := { f with fdf := false, brs := false, rtr := false }
    let first := f.data.take 6
    { f with data := BitVec.ofNat 8 (q * 32) :: BitVec.ofNat 8 f.data.length :: (first ++ List.replicate (6 - first.length) 0xFF) }
      :: fpFrames f q 32 1 (f.data.drop 6)
  else [f]

/-- The most stuff bits that a run of bits can take. -/
def stuffMost (n : Nat) : Nat := (n - 1) / 4

/-- Nominal-rate and data-rate bits of the longest frame of a format and length, with 3 bits of intermission (R168):
the bit counts are those of ISO 11898-1, which the spec does not restate. -/
def canBits (f : CanFrame) : Nat × Nat :=
  let n := 8 * f.data.length
  if !f.fdf then
    let s := (if f.ide then 54 else 34) + n
    (s + stuffMost s + 10 + 3, 0)
  else
    let arb := if f.ide then 36 else 17
    let body := 5 + n
    let crc := if f.data.length ≤ 16 then 4 + 17 + 6 else 4 + 21 + 7
    let head := arb + stuffMost arb
    let tail := body + (stuffMost (arb + body) - stuffMost arb) + crc + 1
    if f.brs then (head + 9 + 3, tail) else (head + tail + 9 + 3, 0)

/-- A bit time in picoseconds of a timing entry (R296). -/
def bitPs (v : Nat) : Nat := 5000 * (bits v 31 24 + 1) * (1 + (bits v 23 16 + 1) + (bits v 14 8 + 1))

/-- τ of frames on a CAN channel in picoseconds (R168). -/
def Dev.canPs (d : Dev) (n : Nat) (fs : List CanFrame) : Nat :=
  (fs.map (fun f =>
    let (a, b) := canBits f
    a * bitPs (d.get (0x3100 + n) 0x02) + b * bitPs (d.get (0x3100 + n) 0x03))).sum

/-- A CAN listener takes custody of an item (R300, R303). -/
def Dev.canTakes (d : Dev) (n : Nat) (it : Item) : Bool :=
  let c := d.canCh n
  it.form == .can && d.canMode n ≠ 0 && !(d.canMode n = 2 && (canFrameOf it.firstBytes).fdf && !it.fp)
    && !c.busOff && !c.recovering && !c.stuck && !(c.sleep == .agreed || c.sleep == .committed || c.sleep == .asleep)
    && !d.trimmedPlan (192 + n)

/-! ### Custody budgets (R167, R169, R170) -/

/-- A host ring (R327). -/
def Dev.ring (d : Dev) (r : Nat) : Ring := SMap.get (fun _ => ({} : Ring)) d.rings r
def Dev.setRing (d : Dev) (r : Nat) (x : Ring) : Dev := { d with rings := SMap.set (fun _ => ({} : Ring)) d.rings r x }

/-- Free descriptors of a receive ring (R327). -/
def Ring.avail (r : Ring) : Nat := if r.enable then (r.producer + 2 ^ 16 - r.consumer) % 2 ^ 16 else 0

/-- LATENCY of a listener in µs; a row that nothing has filled holds its reset value (R170). -/
def Dev.latency (d : Dev) (l leg : Nat) : Nat :=
  match d.planRow .custody l leg with
  | [] => if l < 208 then 100000 else 0
  | ws => word ws 0

/-- OUTSTANDING of a listener (R170). -/
def Dev.outstanding (d : Dev) (l : Nat) : Nat := SMap.get (fun _ => 0) d.owed l
def Dev.addOwed (d : Dev) (l n : Nat) : Dev := { d with owed := SMap.set (fun _ => 0) d.owed l (d.outstanding l + n) }
def Dev.subOwed (d : Dev) (l n : Nat) : Dev := { d with owed := SMap.set (fun _ => 0) d.owed l (d.outstanding l - n) }

/-- The horizon after an item of time τ, when it fits (R167); a shadow charge always fits. -/
def Dev.fitsHorizon (d : Dev) (pl : Plan) (l tau : Nat) (force : Bool) : Option Dev :=
  let fin := max (SMap.get (fun _ => 0) d.horizon l) (pl.start + 5000000) + tau
  if force ∨ fin ≤ pl.start + d.latency l pl.leg * 1000000 then
    some { d with horizon := SMap.set (fun _ => 0) d.horizon l fin }
  else none

/-- What custody charging has gathered: listeners to hand the item to, characters by serial listener. -/
structure Custody where
  dev : Dev
  hand : Nat
  chars : List (Nat × List (Byte × Bool))
  deriving DecidableEq, Repr

/-- Charge one custody listener (R167, R169, R281, R300). -/
def custodyCharge (pl : Plan) (it : Item) (seq : Nat) (force : Bool) (c : Custody) (l : Nat) : Option Custody :=
  let d := c.dev
  if l < 192 then
    if d.serTakes l it then
      let (cs, line) := d.serChars l it
      if !force ∧ 16384 < d.outstanding l + cs.length then none
      else
        match d.fitsHorizon pl l (d.charsPs l cs.length) force with
        | some d =>
          some { dev := (d.setSer l { d.serCh l with lineNo := line }).addOwed l cs.length, hand := c.hand + 2 ^ l
                 chars := c.chars ++ [(l, cs)] }
        | none => none
    else some { c with dev := d.count (0x3000 + l) 0x2B }
  else if l < 208 then
    let n := l - 192
    if d.canTakes n it then
      let fs := canFrames it seq
      match d.fitsHorizon pl l (d.canPs n fs) force with
      | some d => some { c with dev := d.addOwed l fs.length, hand := c.hand + 2 ^ l }
      | none => none
    else some { c with dev := d.count (0x3100 + n) 0x29 }
  else if 272 ≤ l then
    if force ∨ d.outstanding l + it.parts.length ≤ (d.ring (l - 272)).avail then
      some { c with dev := if force then d else d.addOwed l it.parts.length, hand := c.hand + 2 ^ l }
    else none
  else some c

/-! ### Placing an item in a plan (R159) -/

/-- An item without some of its parts, by part number. -/
def Item.without (it : Item) (skip : List Nat) : Item :=
  { it with parts := (it.parts.zipIdx.filter (fun p => !skip.contains p.2)).map Prod.fst }

/-- A proposal with its listeners' budgets charged to a plan, or none where any budget lacks room (R159): the item's
records carry consecutive sequence numbers from `seq` and take the plan's indices from `index`. -/
def Dev.place (d : Dev) (pl : Plan) (pr : Proposal) (seq index : Nat) (held force : Bool) : Option (Dev × Plan) :=
  let it := pr.item
  let groups := (List.range 64).filter
    (fun g => bit pr.eset (208 + g) && groupCarries (d.groupFormat g) it && !(d.groupPorts g).isEmpty)
  let (d1, recs) := groups.foldl (fun (a : Dev × List (Nat × List FrameRec)) g =>
    let (x, rs) := a.1.groupRecords g pr.stream seq index it pr.skip
    (x, a.2 ++ [(g, rs)])) (d, [])
  let sent := it.without pr.skip
  let charged := (List.range 4).foldl (fun (a : Option Plan) p =>
    match a with
    | some q => d1.chargePort q p pr.cls (recs.filter (fun r => !r.2.isEmpty && (d1.groupPorts r.1).contains p)) force
    | none => none) (some pl)
  let custody := (maskList pr.eset).foldl (fun (a : Option Custody) l =>
    match a with | some c => custodyCharge pl sent seq force c l | none => none) (some ⟨d1, 0, []⟩)
  match charged, custody with
  | some q, some c =>
    some (c.dev,
      { q with items := q.items ++ [{ leg := pl.leg, index := index, item := it, stream := pr.stream, seq := seq
                                      cls := pr.cls, defer := pr.defer, eset := pr.eset, held := held, hand := c.hand
                                      chars := c.chars, skip := pr.skip }] })
  | _, _ => none

/-! ### Proposal, deferral, refusal (R58 to R63, R172) -/

/-- Next sequence number of a stream (R61, R115). -/
def Dev.seqOf (d : Dev) (s : Nat) : Nat := SMap.get (fun _ => 0) d.seqs s
def Dev.setSeq (d : Dev) (s n : Nat) : Dev := { d with seqs := SMap.set (fun _ => 0) d.seqs s (n % 2 ^ 32) }

/-- The active belays the plan of a leg: its partner is STANDBY or DARNING and belay has begun (R213). -/
def Dev.belays (d : Dev) (leg : Nat) : Bool :=
  d.team.role == .active && d.team.formed && (d.team.partnerRole == .standby || d.team.partnerRole == .darning)
    && (match d.mirror.belayFrom with | some f => decide (f ≤ leg) | none => false)

/-- The admission records of an item (R211). -/
def Dev.admRecs (d : Dev) (pr : Proposal) (seq : Nat) : List AdmRec :=
  pr.item.parts.zipIdx.map (fun pi =>
    { mark := partMark pi.2 pr.item.parts.length, gsid := d.globalId pr.stream % 2 ^ 30, seq := (seq + pi.2) % 2 ^ 32
      stamp := pr.item.origin, digest := pi.1.digest })

/-- The admission digest continued over a record (R219). -/
def digestRec (c mark gsid seq digest : Nat) : Nat :=
  crcRun c (be 4 (mark * 2 ^ 30 + gsid) ++ be 4 seq ++ be 8 digest)

/-- Admit a proposal to the open plan, if every budget has room (R59, R159, R61, R210, R219). -/
def Dev.admitItem (d : Dev) (pr : Proposal) : Option Dev :=
  let seq := d.seqOf pr.stream
  let index := d.plan.count
  let recs := d.admRecs pr seq
  let belay := d.belays d.plan.leg
  match d.place d.plan pr seq index belay false with
  | none => none
  | some (d, pl) =>
    let digest := recs.foldl (fun c r => digestRec c r.mark r.gsid r.seq r.digest) pl.digest
    let m := d.mirror
    let m := if belay then
        { m with waiting := m.waiting ++ recs.zipIdx.map (fun r => WaitRec.mk d.plan.leg (index + r.2) d.now r.1) }
      else m
    some ((({ d with plan := { pl with count := index + recs.length, digest := digest }, mirror := m }).setSeq pr.stream
      (seq + recs.length)).count 0x2510 0x01)

/-- Refuse a proposal (R68, R172, R180); one that a new active took as an orphan is an ORPHAN (R15, R66). -/
def Dev.refuse (d : Dev) (pr : Proposal) (sub : Nat) : Dev :=
  if pr.orphan then d.discard .orphan 2 pr.item.src pr.item.stamp
  else (d.discard .refusedCapacity sub pr.item.src pr.item.stamp).raise 0xA2A4 1 (pr.stream % 2 ^ 18)

/-- Decide a proposal against the open plan (R59, R60, R63, R172). -/
def Dev.decideItem (d : Dev) (pr : Proposal) : Dev :=
  let used := pr.deferred + pr.item.charged
  let blocked := d.deferred.any (fun q => q.stream = pr.stream)
  if d.admStop then d.refuse pr 2
  else if 0 < pr.item.charged ∧ pr.defer < used then d.refuse pr 1
  else
    match (if blocked then none else d.admitItem pr) with
    | some d => d
    | none =>
      if used < pr.defer then
        ({ d with deferred := d.deferred ++ [{ pr with deferred := pr.deferred + 1 }] }).count 0x2510 0x02
      else d.refuse pr 1

/-- The proposal of a tagged item. -/
def Tagged.proposal (x : Tagged) : Proposal :=
  { item := x.item, stream := x.stream, cls := rowClass x.row, defer := rowDefer x.row, eset := x.eset, deferred := 0 }

/-- Engine delay of an item at its proposal: the high water in ns, histogram 19, and the deferrals charged under R63
(R62, R71, R407). -/
def Dev.engineDelay (d : Dev) (it : Item) : Dev :=
  let ns := (d.now - it.tLast) * 5 / 4
  let d := d.put 0x2220 0x04 (sat 0xFFFFFFFF (max (d.get 0x2220 0x04) ns))
  let d := d.histAdd 19 (ns / 100)
  if it.charged = 0 then d else d.count 0x2220 0x06 it.charged

/-- Charge one deferral to an item that a leg boundary finds more than 3.00 µs past its T_last (R63). -/
def chargeLate (now : Nat) (it : Item) : Item := if it.tLast + 2400 < now then { it with charged := it.charged + 1 } else it

/-- Charge the items between their lane and their proposal. -/
def Dev.chargeHeld (d : Dev) : Dev :=
  { d with lanes := d.lanes.map (fun l => { l with item := l.item.map (chargeLate d.now) })
           laneQueue := d.laneQueue.map (chargeLate d.now), waitTag := d.waitTag.map (chargeLate d.now)
           tagged := d.tagged.map (fun x => { x with item := chargeLate d.now x.item }) }

end Sys2Proof.Machine
end

