-- ==== Sys2Proof/Machine/Port.lean ====
section
/-! DEFINITION. Backbone transmission: datagrams, queues, gates, PAUSE, departure stamps and beacons (chapters Backbone
ports and Datagram formats on the backbone, R165, R175 to R177, R232, R239 to R243, R249 to R260). -/

namespace Sys2Proof.Machine

/-! ### A port -/

/-- A backbone port. -/
def Dev.port (d : Dev) (p : Nat) : Port := SMap.get (fun _ => ({} : Port)) d.ports p
def Dev.setPort (d : Dev) (p : Nat) (x : Port) : Dev := { d with ports := SMap.set (fun _ => ({} : Port)) d.ports p x }

/-- The present instant in picoseconds. -/
def Dev.ps (d : Dev) : Nat := d.now * 1250

/-- Loop depth of a port (R422). -/
def Dev.portLoop (d : Dev) (p : Nat) : Nat := bits d.loops.ports (3 * p + 2) (3 * p)

/-- A port carries its own frames back (R422). -/
def Dev.portLooped (d : Dev) (p : Nat) : Bool := 1 ≤ d.portLoop p && d.portLoop p ≤ 3

/-- The port has a mode and is not trimmed (R232, R343). -/
def Dev.portUsed (d : Dev) (p : Nat) : Bool := d.portMode p ≠ 0 && !(d.pw.trim && bit (d.pw.masks.getD 6 0) (16 + p))

/-- The port runs: a mode, powered, the unit in CONFIG or SERVICE. -/
def Dev.portRuns (d : Dev) (p : Nat) : Bool := p < 4 && d.portUsed p && (d.pw.st == .service || d.pw.st == .config)

/-- LINK_UP: a loop at depth 1 to 3 keeps it (R233, R422). -/
def Dev.linkUp (d : Dev) (p : Nat) : Bool := (d.port p).linkUp || d.portLooped p

/-- A frame that starts is sent, not discarded: link up, and with loops in force only in a loop (R240, R419). -/
def Dev.portSends (d : Dev) (p : Nat) : Bool := d.linkUp p && (!d.loops.any || d.portLooped p)

/-- The port's MAC address (R236). -/
def Dev.mac (d : Dev) (p : Nat) : Nat :=
  let v := d.get (0x3200 + p) 0x08
  if v ≠ 0 then v else 0x0245554E0000 + (if d.node = 0xFFFF then 0xFFF else d.node) * 4 + p

/-- The port's IPv4 address (R251). -/
def Dev.ipv4 (d : Dev) (p : Nat) : Nat := d.get 0x1C03 (p + 1)

/-! ### UDP over IPv4 (R249) -/

/-- The sum of big-endian 16-bit words; an odd last byte is padded with zero. -/
def sum16 : List Byte → Nat
  | [] => 0
  | [a] => a.toNat * 256
  | a :: b :: r => a.toNat * 256 + b.toNat + sum16 r

/-- Folds a sum into 16 bits with end-around carry; sums here stay below 2^32. -/
def fold16 (n : Nat) : Nat :=
  let a := n / 65536 + n % 65536
  let b := a / 65536 + a % 65536
  b / 65536 + b % 65536

/-- The Internet checksum of bytes. -/
def inetSum (bs : List Byte) : Nat := 0xFFFF - fold16 (sum16 bs)

/-- A multicast IPv4 address. -/
def isMulticast (a : Nat) : Bool := a / 2 ^ 28 = 0xE

/-- The destination MAC of a group (R250). -/
def groupMac (row : List Word32) : Nat :=
  if isMulticast (word row 0) then 0x01005E000000 + word row 0 % 2 ^ 23
  else word row 3 * 2 ^ 16 + fieldOf row 4 31 16

/-- An Ethernet frame without FCS that carries a UDP datagram: don't-fragment set, DSCP 0, source port equal to the
destination port (R249). `tag` is the inserted 802.1Q control word, if any (R239); `ident` the IPv4 identification,
which the spec leaves open. -/
def udpFrame (dmac smac src dst ttl port ident : Nat) (tag : Option Nat) (checksum : Bool) (sport : Nat)
    (payload : List Byte) : List Byte :=
  let len := payload.length + 8
  let ip := be 1 0x45 ++ be 1 0 ++ be 2 (len + 20) ++ be 2 ident ++ be 2 0x4000 ++ be 1 ttl ++ be 1 17
  let ends := be 4 src ++ be 4 dst
  let ipSum := inetSum (ip ++ ends)
  let udp := be 2 sport ++ be 2 port ++ be 2 len
  let raw := inetSum (ends ++ be 2 17 ++ be 2 len ++ udp ++ payload)
  let udpSum := if checksum then (if raw = 0 then 0xFFFF else raw) else 0
  be 6 dmac ++ be 6 smac
    ++ (match tag with | some w => be 2 0x8100 ++ be 2 w | none => [])
    ++ be 2 0x0800 ++ ip ++ be 2 ipSum ++ ends ++ udp ++ be 2 udpSum ++ payload

/-- The tag that a port inserts into frames of a queue (R239). -/
def Dev.insertedTag (d : Dev) (p q : Nat) : Option Nat :=
  if bit (d.get (0x3200 + p) 0x06) (8 + q) then
    some (bits (d.get (0x3200 + p) 0x07) (3 * q + 2) (3 * q) * 2 ^ 13 + bits (d.get (0x3200 + p) 0x06) 27 16)
  else none

/-- UDP port of a group (R249, R250). -/
def groupUdp (row : List Word32) : Nat :=
  match fieldOf row 1 15 14 with | 0 => fieldOf row 1 31 16 | 1 => 48100 | _ => 48101

/-! ### Datagrams (R253 to R260) -/

/-- The sender field (R254). -/
def Dev.sender (d : Dev) : Nat := d.unitBit * 2 ^ 15 + d.pairId

/-- The twin header before its trailer (R254). -/
def Dev.twinHeader (d : Dev) (flags leg number count : Nat) : List Byte :=
  ascii "EUTW" ++ be 1 1 ++ be 1 flags ++ be 2 d.sender ++ be 4 (d.get 0x2602 0x03) ++ be 4 (d.get 0x2020 0x02)
    ++ be 8 leg ++ be 2 number ++ be 2 count ++ be 1 d.quality ++ be 1 d.mode ++ be 2 0

/-- Take the next IV of the GMAC epoch; a full count raises the epoch (R256). -/
def Dev.gmacIv (d : Dev) : Dev × List Byte :=
  let d := if d.gmac = 2 ^ 48 - 1 then { d.put 0x2800 0x0A (d.get 0x2800 0x0A + 1) with gmac := 0 } else d
  ({ d with gmac := d.gmac + 1 }, be 2 d.sender ++ be 4 (d.get 0x2800 0x0A) ++ be 6 d.gmac)

/-- The payload of a frame's datagram, built at its first departure (R253, R254, R256, R259). -/
def Dev.payload (d : Dev) (f : PlanFrame) (leg number : Nat) : Dev × List Byte :=
  let body := (f.recs.map (·.bytes)).flatten
  let row := d.row .txgroup f.group
  match f.format with
  | 0 => (d, ascii "UdPbC" ++ be 1 0 ++ body)
  | 1 =>
    if flagOf row 1 13 then
      match d.keyOf (fieldOf row 2 5 0) 1 with
      | some k =>
        let (d, iv) := d.gmacIv
        let clear := d.twinHeader 1 leg number f.recs.length ++ body ++ iv
        (d, clear ++ be 16 (Config.gcmTag (keyBits k) iv clear []).toNat)
      | none =>
        let d := d.raise 0xA410 2 (2 ^ 29 + fieldOf row 2 5 0 * 2 ^ 18 + d.node % 4096)
        (d, d.twinHeader 0 leg number f.recs.length ++ body)
    else (d, d.twinHeader 0 leg number f.recs.length ++ body)
  | _ =>
    (d, ascii "EUTN" ++ be 1 1 ++ be 1 0 ++ be 2 d.sender ++ be 4 (d.get 0x2602 0x03) ++ be 2 f.recs.length
      ++ be 1 d.quality ++ be 1 d.mode ++ body)

/-- The unit is the pitch master and marks its beacons: Master enable on an ACTIVE or SOLO unit (R151). -/
def Dev.isMaster (d : Dev) : Bool := d.get 0x2100 0x0E ≠ 0 && d.leads

/-- A beacon's payload at its departure (R151, R203, R260). -/
def Dev.beaconPayload (d : Dev) (master : Bool) : List Byte :=
  let chg := match d.team.change with | some c => if master ∧ c.domain then some c else none | none => none
  let (tm, ts, te) := match chg with | some c => (c.mode, c.target, c.epoch) | none => (0, 0, 0)
  ascii "EUPB" ++ be 1 1 ++ be 1 (b2n master + 2 * b2n chg.isSome) ++ be 2 (b2n d.posB * 2 ^ 15 + d.pairId)
    ++ be 2 (d.node % 4096) ++ be 1 d.team.role.code ++ be 1 d.quality ++ be 4 d.pitch.period ++ be 8 d.stamp ++ be 8 0
    ++ be 1 d.mode ++ be 1 (if master then d.get 0x2100 0x0F else 0) ++ be 2 0 ++ be 4 (d.get 0x2020 0x02) ++ be 1 tm
    ++ be 3 0 ++ be 8 ts ++ be 4 te ++ be 8 0

/-! ### PAUSE and the schedule shift (R176, R177, R241) -/

/-- Frames left from an ended leg, waiting or in transmission (R175). -/
def Port.hasLeft (x : Port) : Bool :=
  x.queue.any (·.left) || (match x.tx with | .plan _ _ l _ => l | _ => false)

/-- Pause holds the transmitter: a pause in progress and no frame in progress (R241). -/
def Port.pausedNow (x : Port) : Bool := x.pause.isSome && x.tx == .idle

/-- Bring the honoured total and the shift up to an instant, and note what holds the transmitter from now on (R176). -/
def Port.settle (x : Port) (ps : Nat) : Port :=
  let held := x.pausedNow || x.hasLeft
  let x := match x.pausedSince, x.pausedNow with
    | some s, false => { x with honoured := x.honoured + (ps - s), pausedSince := none }
    | none, true => { x with pausedSince := some ps }
    | _, _ => x
  match x.heldSince, held with
  | some s, false => { x with shift := x.shift + (ps - s), heldSince := none }
  | none, true => { x with heldSince := some ps }
  | _, _ => x

/-- The schedule shift at an instant. -/
def Port.shiftAt (x : Port) (ps : Nat) : Nat := x.shift + (match x.heldSince with | some s => ps - s | none => 0)

/-- The pause honoured in the leg by an instant. -/
def Port.honouredAt (x : Port) (ps : Nat) : Nat := x.honoured + (match x.pausedSince with | some s => ps - s | none => 0)

/-- A quantum of 512 bit times in picoseconds (R241). -/
def Dev.quantum (d : Dev) (p : Nat) : Nat := 512000 / d.portRate p

/-- The pause ceiling of a port in picoseconds; 0 means the hem at T_min in whole quanta (R177). -/
def Dev.ceiling (d : Dev) (p : Nat) : Nat :=
  let c := d.get 0x2502 (p + 1)
  (if c = 0 then d.hemPsMin / d.quantum p else c) * d.quantum p

/-- Picoseconds in 2^-16 pu at the engine's rate. -/
def Dev.psTo16 (d : Dev) (ps : Nat) : Nat := ps * 2 ^ 16 * d.pitch.rateN / (d.pitch.rateD * 5000)

/-- Phase within the leg at the present instant, in 2^-16 pu. -/
def Dev.legPhase16 (d : Dev) : Nat := d.pitch.phase16 (tickOf d.now) % (d.legPu * 2 ^ 16)

/-- The start stamp of the leg in progress. -/
def Dev.leg (d : Dev) : Nat := d.legOf d.stamp

/-! ### Starting frames (R239, R240, R165, R175) -/

/-- Wire time of a frame of W bytes in picoseconds. -/
def Dev.wirePs (d : Dev) (p w : Nat) : Nat := w * 8000 / d.portRate p

/-- The plans of the legs that have begun, oldest first (R158, R175). -/
def Dev.plansSent (d : Dev) : List Plan := d.older ++ [d.previous, d.sending]

/-- A change of every plan that is held. -/
def Dev.mapPlans (d : Dev) (f : Plan → Plan) : Dev :=
  { d with older := d.older.map f, previous := f d.previous, sending := f d.sending, plan := f d.plan }

/-- A record's item awaits its belay hold (R213). -/
def Dev.itemHeld (d : Dev) (leg index : Nat) : Bool :=
  (d.plansSent ++ [d.plan]).any (fun pl => pl.leg = leg && pl.items.any (fun i => i.index = index && i.held))

/-- A frame waits for a hold. -/
def Dev.frameHeld (d : Dev) (q : Queued) : Bool := q.frame.recs.any (fun r => d.itemHeld q.leg r.index)

/-- An open window carries a class and a frame of W wire bytes ends in it (R239). -/
def Dev.endTest (d : Dev) (p cls w : Nat) : Bool :=
  let x := d.port p
  (d.gates p d.leg).any (fun g => x.opened.contains g.entry && bit g.cmask cls &&
    decide (d.legPhase16 + d.psTo16 (d.wirePs p w) ≤ g.close * 2 ^ 16 + d.psTo16 (x.shiftAt d.ps)))

/-- Wire bytes of an unscheduled frame. -/
def Dev.unschedBytes (d : Dev) (p : Nat) (u : Unsched) : Nat :=
  let v := d.tagBytes p 7
  match u with
  | .beacon _ _ => max 84 (66 + v + 64)
  | .reply bs => max 84 (bs.length + 24 + v)

/-- What the transmitter starts next. -/
inductive Next where
  | none
  | frame (q : Queued)
  | other (u : Unsched)
  deriving DecidableEq, Repr

/-- The head frame of a queue among those that wait. -/
def headOf (qs : List Queued) (cls : Nat) : Option Queued := qs.find? (fun q => q.frame.cls = cls)

/-- The choice of one queue: unscheduled frames stand ahead in queue 7, a head that waits for a hold or fails the end
test is passed over. -/
def Dev.queueNext (d : Dev) (p cls : Nat) : Next :=
  let x := d.port p
  let mine :=
    match headOf x.queue cls with
    | some q => if !d.frameHeld q && d.endTest p cls (d.wireBytes p cls q.frame.group q.frame.size) then Next.frame q else .none
    | none => .none
  if cls = 7 then
    match x.unsched.head? with
    | some u =>
      let w := d.unschedBytes p u
      if x.reserveUsed + w ≤ d.reserve then (if d.endTest p 7 w then .other u else .none) else mine
    | none => mine
  else mine

/-- The highest-numbered queue that has something to start. -/
def Dev.nextFrom (d : Dev) (p : Nat) : List Nat → Next
  | [] => .none
  | c :: cs => match d.queueNext p c with | .none => d.nextFrom p cs | n => n

/-- The leftover frame to send: queue priority order, each when its holds have closed (R175). -/
def Dev.nextLeft (d : Dev) (x : Port) : List Nat → Next
  | [] => .none
  | c :: cs =>
    match headOf (x.queue.filter (·.left)) c with
    | some q => if d.frameHeld q then d.nextLeft x cs else .frame q
    | none => d.nextLeft x cs

/-- Classes from the most urgent. -/
def classesDown : List Nat := [7, 6, 5, 4, 3, 2, 1, 0]

/-- What a free transmitter starts now. -/
def Dev.nextStart (d : Dev) (p : Nat) : Next :=
  let x := d.port p
  if !(x.tx == .idle) || x.pause.isSome || !d.portRuns p || d.released then .none
  else if x.queue.any (·.left) then d.nextLeft x classesDown
  else d.nextFrom p classesDown

/-- Record the departure stamp of a timed frame, or lose it (R242, R243). -/
def Dev.recordStamp (d : Dev) (p q : Nat) : Dev :=
  let x := d.port p
  if !bit (d.get (0x3200 + p) 0x09) q then d
  else if x.stamps.length < 256 then
    let r : StampRec := { stamp := d.stamp, queue := q, number := x.frames % 2 ^ 32, gap := x.lostPending ≠ 0
                          lost := sat 0x3FFF x.lostPending }
    d.setPort p { x with stamps := x.stamps ++ [r], lostPending := 0 }
  else
    let n := x.lostPending + 1
    (((d.setPort p { x with lostPending := n }).count (0x3200 + p) 0x27).sticky (0x3200 + p) 0x05 0x80).raise 0xA403 1
      (sat 0xFFFF n * 2 ^ 16 + p)

/-- The plan of a leg stamp among those that frames can belong to. -/
def Dev.planOf (d : Dev) (leg : Nat) : Plan :=
  if d.sending.leg = leg then d.sending
  else if d.previous.leg = leg then d.previous
  else (d.older.find? (fun pl => pl.leg = leg)).getD d.plan
def Dev.setPlan (d : Dev) (pl : Plan) : Dev :=
  if d.sending.leg = pl.leg then { d with sending := pl }
  else if d.previous.leg = pl.leg then { d with previous := pl }
  else if d.older.any (fun o => o.leg = pl.leg) then { d with older := d.older.map (fun o => if o.leg = pl.leg then pl else o) }
  else { d with plan := pl }

/-- Account for a datagram's first departure: histograms 3 to 10, one per item (R407). -/
def Dev.departed (d : Dev) (f : PlanFrame) (leg : Nat) : Dev :=
  (d.planOf leg).items.foldl (fun d i =>
    if f.recs.any (fun r => r.index = i.index) then d.histAdd (3 + f.cls) (logBin ((d.now - i.item.tLast) / usCycles)) else d) d

/-- The datagram of a frame: the one that has departed already on another port, or a new one (R250, R254). -/
def Dev.datagram (d : Dev) (f : PlanFrame) (leg : Nat) : Dev × List Byte :=
  let pl := d.planOf leg
  match pl.built.find? (fun b => b.1 = f.group ∧ b.2.1 = f.recs) with
  | some b => (d, b.2.2)
  | none =>
    let (d, bytes) := d.payload f leg pl.datagrams
    let pl := d.planOf leg
    let d := d.setPlan { pl with built := pl.built ++ [(f.group, f.recs, bytes)]
                                 datagrams := if f.format = 1 then pl.datagrams + 1 else pl.datagrams }
    (d.departed f leg, bytes)

/-- Send a plan frame on a port, or discard it where the link is down (R240, R423). -/
def Dev.sendPlan (d : Dev) (p : Nat) (f : PlanFrame) (leg : Nat) : Dev :=
  let x := d.port p
  let row := d.row .txgroup f.group
  let (n, d) := d.fresh
  let wrap (payload : List Byte) (d : Dev) : List Byte :=
    udpFrame (groupMac row) (d.mac p) (d.ipv4 p) (word row 0) (fieldOf row 2 31 24) (groupUdp row) (n % 65536)
      (d.insertedTag p f.cls) true (groupUdp row) payload
  if bit d.loops.ingest f.group then
    let (d, bytes) := d.datagram f leg
    if (List.range 4).find? (fun q => bit (word row 1) q) = some p then
      { d with looped := d.looped ++ [(p, wrap bytes d, d.stamp, true)] }
    else d
  else if !d.portSends p then d.count (0x3200 + p) 0x28
  else
    let (d, bytes) := d.datagram f leg
    let d := (d.setPort p { d.port p with frames := x.frames + 1 }).recordStamp p f.cls
    let fr := wrap bytes d
    if d.portLooped p then { d with looped := d.looped ++ [(p, fr, d.stamp, false)] } else d.emit (.frame p fr d.stamp)

/-- Send an unscheduled frame. -/
def Dev.sendOther (d : Dev) (p : Nat) (u : Unsched) : Dev :=
  let x := d.port p
  if !d.portSends p then d.count (0x3200 + p) 0x28
  else
    let (n, d) := d.fresh
    let d := (d.setPort p { x with frames := x.frames + 1 }).recordStamp p 7
    let fr :=
      match u with
      | .beacon g m =>
        let row := d.row .txgroup g
        udpFrame (groupMac row) (d.mac p) (d.ipv4 p) (word row 0) (fieldOf row 2 31 24) 48102 (n % 65536)
          (d.insertedTag p 7) false 48102 (d.beaconPayload m)
      | .reply bs =>
        match d.insertedTag p 7 with
        | some w => bs.take 12 ++ be 2 0x8100 ++ be 2 w ++ bs.drop 12
        | none => bs
    if d.portLooped p then { d with looped := d.looped ++ [(p, fr, d.stamp, false)] } else d.emit (.frame p fr d.stamp)

/-- A transmitter decision: start what may start (R239). -/
def Dev.portStart (d : Dev) (p : Nat) : Dev :=
  let d := d.setPort p ((d.port p).settle d.ps)
  match d.nextStart p with
  | .none => d
  | .frame q =>
    let x := d.port p
    let w := d.wireBytes p q.frame.cls q.frame.group q.frame.size
    let d := d.setPort p { x with queue := x.queue.erase q
                                  tx := .plan q.frame q.leg q.left (d.ps + d.wirePs p w) }
    (d.sendPlan p q.frame q.leg)
  | .other u =>
    let x := d.port p
    let w := d.unschedBytes p u
    let d := d.setPort p { x with unsched := x.unsched.drop 1, reserveUsed := x.reserveUsed + w
                                  tx := .other u (d.ps + d.wirePs p w) }
    d.sendOther p u

/-- Every port takes a transmitter decision. -/
def Dev.portsStart (d : Dev) : Dev := (List.range 4).foldl (fun d p => d.portStart p) d

/-! ### Events of a port -/

/-- Groups whose beacons a port carries (R187, R250). -/
def Dev.beaconGroups (d : Dev) (p : Nat) : List Nat :=
  (List.range 64).filter (fun g => let r := d.row .txgroup g; word r 0 ≠ 0 && flagOf r 1 12 && bit (word r 1) p)

/-- Queue beacons on a port; a master beacon takes the place of one that still waits (R151). -/
def Dev.queueBeacons (d : Dev) (p : Nat) (master : Bool) : Dev :=
  (d.beaconGroups p).foldl (fun d g =>
    let x := d.port p
    let kept := if master then x.unsched.filter (fun u => u ≠ .beacon g true) else x.unsched
    d.setPort p { x with unsched := kept ++ [.beacon g master] }) d

/-- The unit sends beacons: a role other than NONE and HOLD, no loop in force (R187, R190, R419). -/
def Dev.beacons (d : Dev) : Bool := !(d.team.role == .none || d.team.role == .hold) && !d.loops.any

/-- GATE_OPEN: a window of the leg opens once its phase, shifted, is reached, and never while the port has leftover frames
(R161, R175, R176, R187). -/
def Dev.gateOpen (d : Dev) (p entry : Nat) : Dev :=
  let x := d.port p
  match (d.gates p d.leg).find? (fun g => g.entry = entry) with
  | none => d
  | some g =>
    if x.opened.contains entry ∨ x.hasLeft ∨ !d.portRuns p ∨ d.legPhase16 < g.openAt * 2 ^ 16 + d.psTo16 (x.shiftAt d.ps)
        ∨ g.close * 2 ^ 16 + d.psTo16 (x.shiftAt d.ps) < d.legPhase16 then d
    else
      let d := d.setPort p { x with opened := x.opened ++ [entry] }
      let seven := bit g.cmask 7
      let first := d.firstSeven p d.leg = some entry
      let due := x.masterDue && d.isMaster
      let d :=
        if seven ∧ d.beacons ∧ (first ∨ due) then
          let d := d.queueBeacons p due
          d.setPort p { d.port p with masterDue := false }
        else d
      d.portStart p

/-- GATE_CLOSE: a window closes at its shifted phase. -/
def Dev.gateClose (d : Dev) (p entry : Nat) : Dev :=
  let x := d.port p
  match (d.gates p d.leg).find? (fun g => g.entry = entry) with
  | none => d
  | some g =>
    if d.legPhase16 < g.close * 2 ^ 16 + d.psTo16 (x.shiftAt d.ps) then d
    else (d.setPort p { x with opened := x.opened.filter (· ≠ entry) }).portStart p

/-- MASTER_BEACON_DUE: the phase is a multiple of 2^(24−b); with b ≤ k only leg starts count (R151). -/
def Dev.masterBeaconDue (d : Dev) : Dev :=
  let step := 2 ^ (24 - d.get 0x2100 0x0F)
  let phase := d.pitch.phase16 (tickOf d.now) / 2 ^ 16
  let one := max 1 (ceilDiv d.pitch.rateN d.pitch.rateD)
  if d.isMaster ∧ d.inService ∧ phase % step < one then
    (List.range 4).foldl (fun d p => d.setPort p { d.port p with masterDue := true }) d
  else d

/-- PORT_FRAME_END: the frame in progress has ended, the transmitter is free (R239). -/
def Dev.portFrameEnd (d : Dev) (p : Nat) : Dev :=
  let x := d.port p
  let fin (n : Nat) : Dev := if n ≤ d.ps then (d.setPort p { x with tx := .idle }).portStart p else d
  match x.tx with
  | .idle => d
  | .plan _ _ _ n => fin n
  | .other _ n => fin n

/-- A PAUSE frame is not wholly honoured: `ps` of it (R177, R180, R244). -/
def Dev.truncatePause (d : Dev) (p ps : Nat) : Dev :=
  (((d.count 0x2510 0x06).count (0x3200 + p) 0x25).sticky (0x3200 + p) 0x05 0x20).raise 0xA2A2 1
    (sat 0xFFFF (ceilDiv ps (d.quantum p)) * 2 ^ 16 + p)

/-- A PAUSE frame takes effect (R177, R238, R241). -/
def Dev.pauseFrame (d : Dev) (p quanta : Nat) : Dev :=
  let d := (d.sticky (0x3200 + p) 0x05 0x10).count (0x3200 + p) 0x24
  let x := (d.port p).settle d.ps
  let ask := quanta * d.quantum p
  if ask = 0 then (d.setPort p { x with pause := none }).portStart p
  else if d.ceiling p ≤ x.honouredAt d.ps then
    ((d.setPort p { x with pause := none }).truncatePause p ask).portStart p
  else (d.setPort p { x with pause := some (d.ps + ask) }).portStart p

/-- PAUSE_EXPIRY: the pause has run its time. -/
def Dev.pauseExpiry (d : Dev) (p : Nat) : Dev :=
  let x := d.port p
  match x.pause with
  | some n => if n ≤ d.ps then (d.setPort p { x with pause := none }).portStart p else d
  | none => d

/-- PAUSE_CEILING_REACHED: the leg's honoured total is at the ceiling; the rest of the pause is not honoured (R177). -/
def Dev.pauseCeiling (d : Dev) (p : Nat) : Dev :=
  let x := d.port p
  match x.pause with
  | some n =>
    if d.ps < n ∧ d.ceiling p ≤ x.honouredAt d.ps then
      ((d.setPort p { x with pause := none }).truncatePause p (n - d.ps)).portStart p
    else d
  | none => d

/-- Status bits of a link that is up (R233): PCS_LOCK, AN_DONE and TRAINED where its start has them, FEC where it can be active,
and REMOTE_FAULT and FEC as the port reports them. -/
def Dev.linkBits (d : Dev) (p status : Nat) : Nat :=
  let phy := d.get (if p < 4 then 0x3200 + p else 0x3210) 0x02
  let kr := if p < 4 then d.portMode p = 1 else true
  let an := bit phy 0 && (kr || d.portMode p = 3)
  let fec := if p < 4 then kr && bit phy 2 else bits phy 3 2 ≠ 0
  4 + 16 * b2n an + 8 * b2n (kr && bit phy 1) + 32 * b2n (fec && bit status 5) + 2 * b2n (bit status 1)

/-- 0xA400 clears once LINK_UP has returned on every port that lost it (R248). -/
def Dev.linkAlertEnds (d : Dev) : Dev :=
  if d.alertActive 0xA400 ∧ (List.range 4).all (fun q => !(d.port q).fell) then d.clearAlert 0xA400 else d

/-- LINK_UP and LINK_DOWN outside low power: LINK_UP of a looped port does not change (R233, R248, R422). -/
def Dev.linkChange (d : Dev) (p : Nat) (up : Bool) (status : Nat) : Dev :=
  if 4 ≤ p then d
  else
    let x := d.port p
    let falls := !up && x.linkUp && !d.portLooped p && d.portUsed p && d.on
    let d := d.setPort p { x with linkUp := up, link := if up then d.linkBits p status else 0
                                  fell := if up then false else x.fell || falls }
    if up then d.linkAlertEnds else if falls then d.raise 0xA400 2 p else d

/-- A write of Mode: Mode 0 powers the lane down, and with it the link; 0xA400 tells only of a port whose Mode is not 0 (R232,
R248). -/
def Dev.portModeSet (d : Dev) (p v : Nat) : Dev :=
  let d := d.put (0x3200 + p) 0x01 v
  if v = 0 then (d.setPort p { d.port p with linkUp := false, link := 0, fell := false }).linkAlertEnds else d

/-- STAMP_POP (R242). -/
def Dev.stampPop (d : Dev) (p : Nat) : Dev :=
  let x := d.port p
  match x.stamps with
  | [] => d.setPort p { x with popped := (0, 0, 0) }
  | r :: rs =>
    d.setPort p { x with stamps := rs
                         popped := (r.stamp, 2 ^ 31 + b2n r.gap * 2 ^ 30 + r.lost * 2 ^ 16 + r.queue, r.number) }

/-! ### At a leg boundary (R173, R175, R176) -/

/-- A frame of the plan of a leg waits on a port or is in transmission there. -/
def Port.carries (x : Port) (leg : Nat) : Bool :=
  x.queue.any (fun q => q.leg = leg) || (match x.tx with | .plan _ l _ _ => l == leg | _ => false)

/-- Frames of a leg that a port has not finished. -/
def Port.leftFrames (x : Port) : Nat :=
  x.queue.length + (match x.tx with | .plan _ _ _ _ => 1 | _ => 0)

/-- The rinse of one port: leftovers are marked, the shift and the honoured total restart. -/
def Dev.portRinse (d : Dev) (p : Nat) : Dev :=
  let x := (d.port p).settle d.ps
  let x := { x with tx := (match x.tx with | .plan f l b n => if n ≤ d.ps then Sending.idle else .plan f l b n | y => y) }
  let left := x.leftFrames ≠ 0
  let x := { x with queue := x.queue.map (fun (q : Queued) => { q with left := true }), opened := [], reserveUsed := 0
                    tx := (match x.tx with | .plan f l _ n => .plan f l true n | y => y)
                    honoured := 0, shift := 0, pausedSince := none, heldSince := none }
  let d := d.setPort p (x.settle d.ps)
  if left then (d.sticky (0x3200 + p) 0x05 0x40).count (0x3200 + p) 0x26 else d

/-- Put the frames of a plan in the queues: a standby sends twin frames alone, other shadows none (R190, R215). -/
def Dev.queueFrames (d : Dev) (fs : List PlanFrame) (leg : Nat) (left : Bool) : Dev :=
  (List.range 4).foldl (fun d p =>
    let mine := (fs.filter (fun f => f.port = p)).map (fun f => { frame := f, leg := leg, left := left : Queued })
    d.setPort p { d.port p with queue := (d.port p).queue ++ mine }) d

/-- The frames of the plan of a leg that this unit sends (R190, R224). -/
def Dev.framesSent (d : Dev) (fs : List PlanFrame) (leg : Nat) : List PlanFrame :=
  if d.leads then fs
  else if d.team.role == .standby ∧ d.mirror.twinFrom ≤ leg then fs.filter (fun f => f.format = 1) else []

/-! ### OD-access replies (R262) -/

/-- The reply of an OD-access request: an unscheduled frame of the receiving port, to the MAC address, address and port of the
request. Its TTL and IPv4 identification are free values (log entry 19). -/
def Dev.odReply (d : Dev) (r : OdRequest) (body : List Byte) : Dev :=
  let (n, d) := d.fresh
  let (ttl, d) := d.fresh
  let f := udpFrame r.srcMac (d.mac r.port) (d.ipv4 r.port) r.srcIp (ttl % 256) r.srcPort (n % 65536) none true r.srcPort body
  (d.setPort r.port { d.port r.port with unsched := (d.port r.port).unsched ++ [Unsched.reply f] }).portStart r.port

end Sys2Proof.Machine
end

