-- ==== Sys2Proof/Machine/Sleep.lean ====
section
/-! DEFINITION. Edge-network sleep: the state machine of a CAN channel (chapter CAN channels and edge-network sleep,
R306 to R312). -/

namespace Sys2Proof.Machine

/-- An entry of the sleep coordination of a channel (R306). -/
def Dev.nm (d : Dev) (n sub : Nat) : Nat := d.get (0x2C10 + n) sub

/-- Arm of a channel. -/
def Dev.armed (d : Dev) (n : Nat) : Bool := d.nm n 0x01 ≠ 0

/-- The stamp `ms` milliseconds from now (R150, R308). -/
def Dev.inMs (d : Dev) (ms : Nat) : Nat := d.stamp + d.usToPu (1000 * ms)

/-- Go to ARMED, or to AWAKE while Arm is 0. -/
def Dev.toArmed (d : Dev) (n : Nat) : Dev :=
  d.setCan n { d.canCh n with sleep := if d.armed n then .armed else .awake }

/-- Start the report timer of a channel that is ARMED; a report is made once per arming (R307). -/
def Dev.startReport (d : Dev) (n : Nat) : Dev :=
  let c := d.canCh n
  if c.sleep == .armed then d.setCan n { c with reportBy := d.inMs (d.nm n 0x0A) } else d

/-- The controller starts in WAKING: T_valid runs (R307, R312). -/
def Dev.toWaking (d : Dev) (n : Nat) : Dev :=
  d.setCan n { d.canCh n with sleep := .waking, sync := false, validBy := d.inMs (d.nm n 0x09) }

/-- A channel that is COMMITTED is within its re-wake window (R307, R308). -/
def Dev.inWindow (d : Dev) (n : Nat) : Bool :=
  (d.canCh n).sleep == .committed && decide (d.stamp ≤ (d.canCh n).windowBy)

/-- A wake event of R310 in the state that the channel is in; past its window a COMMITTED channel is ASLEEP. -/
def Dev.wakeCan (d : Dev) (n : Nat) : Dev :=
  let c := d.canCh n
  if c.stuck then d
  else
    match c.sleep with
    | .agreed => (d.count (0x2C10 + n) 0x22).toArmed n
    | .committed => (if d.inWindow n then d.count (0x2C10 + n) 0x23 else d).toWaking n
    | .asleep => d.toWaking n
    | _ => d

/-- ARM_SLEEP and DISARM_SLEEP, written here or mirrored from the active (R25, R306, R307). -/
def Dev.armSet (d : Dev) (n v : Nat) : Dev :=
  let d := d.put (0x2C10 + n) 0x01 v
  let c := d.canCh n
  if v = 1 then
    if c.sleep == .awake then
      (d.setCan n { c with sleep := .armed, armBy := d.inMs (d.nm n 0x07), seen := false, reported := false }).startReport n
    else d
  else if c.sleep == .armed then d.setCan n { c with sleep := .awake }
  else d.wakeCan n

/-- An awake request: Keeper, its stamp and its count (R306, R307). -/
def Dev.awakeRequest (d : Dev) (n source : Nat) : Dev :=
  let d := (((d.put (0x2C10 + n) 0x0C (2 ^ 31 + source % 256)).put (0x2C10 + n) 0x0D d.stamp).count (0x2C10 + n) 0x25)
  d.setCan n { d.canCh n with reqBy := some (d.inMs (d.nm n 0x07)), seen := true }

/-- SLEEP_AGREEMENT: an awake request stamped at the deadline prevents it (R307, R308). -/
def Dev.agreement (d : Dev) (n : Nat) : Dev :=
  let c := d.canCh n
  let quiet := (match c.reqBy with | some b => decide (b < d.stamp) | none => false) || (!c.seen && decide (c.armBy < d.stamp))
  if c.sleep == .armed && quiet && c.custody.isEmpty then
    (d.setCan n { c with sleep := .agreed, commitBy := d.inMs (d.nm n 0x08) }).count (0x2C10 + n) 0x20
  else d

/-- REPORT_TIMER_EXPIRY: once per arming (R307). -/
def Dev.reportExpiry (d : Dev) (n : Nat) : Dev :=
  let c := d.canCh n
  if c.sleep == .armed && !c.reported && decide (c.reportBy ≤ d.stamp) then
    let k := d.nm n 0x0C
    let detail := b2n (bit k 31) * 2 ^ 16 + k % 256 * 256 + n
    let d := (d.setCan n { c with reported := true }).count (0x2C10 + n) 0x26
    (d.raise 0xA437 1 detail).journal 0xA437 1 detail
  else d

/-- COMMIT_DELAY_EXPIRY: a wake event stamped at the end of the delay is a late wake (R307, R308). -/
def Dev.commitExpiry (d : Dev) (n : Nat) : Dev :=
  let c := d.canCh n
  if c.sleep == .agreed && decide (c.commitBy < d.stamp) then
    (d.setCan n { c with sleep := .committed, tx := none, sync := false, windowBy := d.inMs 1 }).count (0x2C10 + n) 0x21
  else d

/-- REWAKE_WINDOW_END (R307). -/
def Dev.windowEnd (d : Dev) (n : Nat) : Dev :=
  let c := d.canCh n
  if c.sleep == .committed && decide (c.windowBy < d.stamp) then d.setCan n { c with sleep := .asleep } else d

/-- COMMITTED_BUS_WAKE: RXD dominant for 5 µs (R310). -/
def Dev.busWake (d : Dev) (n : Nat) : Dev :=
  if d.inWindow n then d.wakeCan n else d

/-- T_VALID_EXPIRY (R307, R308). -/
def Dev.validExpiry (d : Dev) (n : Nat) : Dev :=
  let c := d.canCh n
  if c.sleep == .waking && decide (c.validBy < d.stamp) then
    let d := d.setCan n { c with sleep := if d.armed n then .asleep else .awake, tx := if d.armed n then none else c.tx
                                 sync := c.sync && !d.armed n }
    (d.count (0x2C10 + n) 0x24).raise 0xA436 1 n
  else d

/-- Valid communication (R312). -/
def Dev.validComm (d : Dev) (n : Nat) : Dev :=
  let c := d.canCh n
  if c.sleep == .waking && decide (d.stamp ≤ c.validBy) then (d.toArmed n).startReport n else d

end Sys2Proof.Machine
end

