-- ==== Sys2Proof/Machine/Rope.lean ====
section
/-! DEFINITION. The rope: sessions, reception checks, mirrored segments, mirror deltas and the sending side of darning
(R182, R183, R207 to R209, R222 to R224, R382, R401). -/

namespace Sys2Proof.Machine

/-! ### Sessions (R183, R382) -/

/-- CFG_MODIFIED of the rack status (R39, R47). -/
def Dev.cfgModified (d : Dev) : Bool := bit (d.get 0x2000 0x0C) 4

/-- The body of a HELLO (R183). -/
def Dev.helloBody (d : Dev) : List Byte :=
  be 1 d.team.role.code ++ be 1 (b2n d.cfgModified) ++ be 1 d.quality ++ be 1 d.mode ++ be 4 (d.get 0x2020 0x02)
    ++ be 8 d.stamp ++ be 8 (d.get 0x2000 0x0B) ++ be 4 d.pitch.period ++ be 2 d.node ++ be 2 0
    ++ be 8 (d.get 0x2000 0x0E) ++ be 4 d.team.ropeEpoch ++ be 4 0

/-- The body of a HEARTBEAT (R183). -/
def Dev.heartbeatBody (d : Dev) : List Byte :=
  be 1 d.team.role.code ++ be 1 (b2n d.team.claimOut + 2 * b2n d.team.degraded + 4 * b2n d.team.refused)
    ++ be 1 d.quality ++ be 1 d.mode ++ be 4 (d.get 0x2020 0x02) ++ be 8 d.stamp

/-- End the rope session: nothing is known of the partner any more. -/
def Dev.endSession (d : Dev) : Dev :=
  { d with team := { d.team with session := false, passed := false, keyed := false, formed := false, peerKnown := false
                                 partnerB := none, partnerRole := .none, peerCtr := none } }

/-- Begin a rope session: the rope epoch rises and the frame counter restarts (R182, R382). -/
def Dev.beginSession (d : Dev) : Dev :=
  let d := d.endSession
  let e := (d.team.ropeEpoch + 1) % 2 ^ 32
  { d.put 0x2800 0x09 e with team := { d.team with session := true, ropeEpoch := e, frameCtr := 0 } }

/-- The unit takes part in its rope team: any role but NONE, SOLO and HOLD (R183). -/
def Dev.inTeam (d : Dev) : Bool := !(d.team.role == .none || d.team.role == .solo || d.team.role == .hold)

/-- Send a HELLO, beginning a session where none has begun (R183, R382). -/
def Dev.sendHello (d : Dev) : Dev :=
  if !d.inTeam || !d.ropeSends then d
  else
    let d := if d.team.session then d else d.beginSession
    ({ d with team := { d.team with lastHello := d.now } }).ropeSend 0x01 d.helloBody

/-! ### Reception (R182, R382) -/

/-- Types of R182 that a chapter gives. -/
def ropeType (t : Nat) : Bool :=
  [0x01, 0x02, 0x10, 0x11, 0x18, 0x20, 0x21, 0x22, 0x30, 0x31, 0x32, 0x33, 0x34, 0x3F, 0x40, 0x41, 0x50].contains t

/-- Fields of a rope frame. -/
def frameVersion (f : RopeFrame) : Nat := beAt f.bytes 0 1
def frameType (f : RopeFrame) : Nat := beAt f.bytes 1 1
def frameSenderB (f : RopeFrame) : Bool := bit (beAt f.bytes 2 2) 15
def framePair (f : RopeFrame) : Nat := beAt f.bytes 2 2 % 2 ^ 11
def frameCounter (f : RopeFrame) : Nat := beAt f.bytes 4 4
def frameBody (f : RopeFrame) : List Byte := f.bytes.drop 8

/-- The rope port receives: mode on, link up, the unit in its team and no loop in force (R247, R419). -/
def Dev.ropeHears (d : Dev) : Bool := d.get 0x3210 0x01 ≠ 0 && d.team.ropeLink && d.inTeam && !d.loops.any

/-- What reception makes of a rope frame. -/
inductive RopeIn where
  | ignore
  | discard
  /-- The frame fails its protection (R382). -/
  | reject
  /-- A frame of another pair (R182, R184). -/
  | foreign
  /-- The clear body, and the count of a protected frame. -/
  | take (body : List Byte) (count : Option Nat)
  deriving DecidableEq, Repr

/-- Open a protected body (R382). -/
def Dev.ropeOpen (d : Dev) (f : RopeFrame) : RopeIn :=
  let iv := (frameBody f).take 12
  let tag := (frameBody f).drop ((frameBody f).length - 16)
  let c := ((frameBody f).drop 12).take ((frameBody f).length - 28)
  let n := beAt iv 4 8
  match (if d.team.keyed then d.sessionKey else none) with
  | none => .reject
  | some k =>
    if (frameBody f).length < 28 ∨ be 16 (Config.gcmTag k iv (f.bytes.take 8) c).toNat ≠ tag ∨ beAt iv 0 1 ≠ b2n (frameSenderB f)
        ∨ n % 2 ^ 32 ≠ (frameCounter f) then .reject
    else
      match d.team.peerCtr with
      | some m => if n ≤ m then .reject else .take (Config.gcmCrypt k iv c) (some n)
      | none => .take (Config.gcmCrypt k iv c) (some n)

/-- The reception checks of R182 and R382. A HELLO of the unit's own position, or of another version, goes to the
pairing check. -/
def Dev.ropeIn (d : Dev) (f : RopeFrame) : RopeIn :=
  let hello := (frameType f) = 0x01
  let own := (frameSenderB f) = d.posB
  if !d.ropeHears then .ignore
  else if !ropeType (frameType f) then .discard
  else if f.dst ≠ ropeMac d.posB ∧ !(hello && own) then .discard
  else if (frameVersion f) ≠ 1 ∧ !hello then .discard
  else if own ∧ !hello then .discard
  else if (framePair f) ≠ d.pairId ∧ !hello then .foreign
  else if !d.protected || ropeClear (frameType f) then .take (frameBody f) none
  else d.ropeOpen f

/-- A valid rope frame is heard; a protected one moves the partner's count on (R188, R382). -/
def Dev.heard (d : Dev) (n : Option Nat) : Dev :=
  match n with
  | some c => { d with team := { d.team with lastRope := d.now, peerCtr := some c } }
  | none => { d with team := { d.team with lastRope := d.now } }

/-- A rope frame of given types reaches its meaning after the checks; a frame that fails one is counted
(R182, R382). -/
def Dev.onRope (d : Dev) (f : RopeFrame) (types : List Nat) (foreign : Dev → Dev) (k : Dev → List Byte → Dev) : Dev :=
  match d.ropeIn f with
  | .ignore => d
  | .discard => d.count 0x2601 0x0A
  | .reject => (d.count 0x2840 0x05).raiseCount 0xA507 2 1 (sat 0xFFFFFFFF)
  | .foreign => foreign (d.heard none)
  | .take body n =>
    if types.contains (frameType f) then
      k (d.heard n) body
    else d

/-! ### Mirrored segments (R208, R401) -/

/-- A segment ID. -/
def segId (cls n : Nat) : Nat := cls * 2 ^ 24 + n

/-- Bytes padded with zeros to a length, or cut. -/
def padTo (n : Nat) (bs : List Byte) : List Byte := bs.take n ++ List.replicate (n - bs.length) 0

/-- The size of a segment (R208, R401). -/
def segSize (seg : Nat) : Nat :=
  match seg / 2 ^ 24 with
  | 0 => 128 | 1 => 1024 | 2 => 512 | 3 => 2048 | 4 => 2112 | 5 => 92 | _ => 0

/-- The discrete States as a mask, and the Arm entries as a mask. -/
def Dev.discreteMask (d : Dev) : Nat := (List.range 16).foldl (fun m n => m + d.get (0x3300 + n) 0x01 * 2 ^ n) 0
def Dev.armMask (d : Dev) : Nat := (List.range 16).foldl (fun m n => m + d.get (0x2C10 + n) 0x01 * 2 ^ n) 0

/-- The team block (R208): the spec gives its content and its size, and the places are the model's. -/
def Dev.teamBlock (d : Dev) : List Byte :=
  let c := d.team.change
  padTo 128 (be 1 d.mode ++ be 1 (b2n c.isSome) ++ be 1 ((c.map (·.mode)).getD 0) ++ be 1 (b2n ((c.map (·.domain)).getD false))
    ++ be 4 (d.get 0x2020 0x02) ++ be 4 (d.get 0x2602 0x03) ++ be 8 ((c.map (·.target)).getD 0)
    ++ be 4 ((c.map (·.epoch)).getD 0) ++ be 2 d.discreteMask ++ be 2 d.armMask ++ be 4 (d.get 0x2910 0x03)
    ++ be 8 (d.get 0x2910 0x06) ++ padTo 32 d.ledger.head)

/-- A stream's row has MIR_SEQ, MIR_LV set. -/
def Dev.mirSeq (d : Dev) (s : Nat) : Bool := rowMirSeq (d.row .stream s)
def Dev.mirLv (d : Dev) (s : Nat) : Bool := rowMirLv (d.row .stream s)

/-- Word 14 of a group as it will stand at the next boundary, when its selection point has passed (R135). -/
def Sel.mirrorWord (s : Sel) : Nat :=
  match s.pend with
  | some n => selWord { s with none := n.none, sel := n.sel, hcount := n.hcount }
  | Option.none => selWord s

/-- One group's eight bytes of a class 0x02 segment. -/
def Dev.selBytes (d : Dev) (g : Nat) : List Byte :=
  let s := d.sel g
  be 4 s.mirrorWord ++ be 4 ((s.lastDis.getD 0) % 2 ^ 32)

/-- Up to 256 active alerts (R208). -/
def alertBytes (as : List Alert) : List Byte :=
  padTo 2048 ((as.map (fun a => be 2 a.code ++ be 1 (128 + a.sev) ++ be 1 0 ++ be 4 a.detail)).flatten)

/-- The ledger state of a string. -/
def Ledger.string (l : Ledger) (n : Nat) : LString := SMap.get (fun _ => ({} : LString)) l.strings n

/-- Offsets 0 to 63 of a ledger segment (R401). -/
def LString.head (x : LString) : List Byte :=
  be 8 x.chg ++ be 8 x.dis ++ be 8 (ofI64 x.refC) ++ be 8 (ofI64 x.refD) ++ be 8 x.refStamp ++ be 4 (ofI32 x.refP)
    ++ be 1 x.s ++ be 1 x.t ++ be 1 x.c ++ be 1 (b2n x.valid) ++ be 8 x.start ++ be 4 x.remC ++ be 4 x.remD

/-- The bins of a ledger segment. -/
def LString.binBytes (x : LString) : List Byte :=
  ((List.range 512).map (fun b => be 4 (SMap.get (fun _ => 0) x.bins b))).flatten

/-- Bytes 0 to 91 of a last-value slot (R115). -/
def Slot.bytes (x : Slot) : List Byte :=
  padTo 82 x.value ++ be 1 x.value.length ++ be 1 (b2n x.valid + 2 * b2n x.can + 4 * b2n x.fromActive) ++ le 8 x.stamp

/-- SEQ of a stream as it is mirrored: a number that a waiting record carries is mirrored once its ADMIT frame has left, so that
the record comes first (R208, R217, R219; log entry 42). -/
def Dev.seqMirrored (d : Dev) (s : Nat) : Nat :=
  let n := (d.mirror.waiting.filter (fun w => w.adm.gsid % 2 ^ 18 = s)).length
  (d.seqOf s + 2 ^ 32 - n % 2 ^ 32) % 2 ^ 32

/-- The content of a segment as this unit holds it. Streams without MIR_SEQ read 0 in a class 0x01 segment. -/
def Dev.segContent (d : Dev) (seg : Nat) : List Byte :=
  let n := seg % 2 ^ 24
  match seg / 2 ^ 24 with
  | 0 => d.teamBlock
  | 1 => ((List.range 256).map (fun i => be 4 (if d.mirSeq (256 * n + i) then d.seqMirrored (256 * n + i) else 0))).flatten
  | 2 => ((List.range 64).map (fun i => d.selBytes (64 * n + i))).flatten
  | 3 => if d.leads then alertBytes d.alerts else padTo 2048 d.mirror.alertSeg
  | 4 => (d.ledger.string n).head ++ (d.ledger.string n).binBytes
  | 5 => (d.lastSlot n).bytes
  | _ => []

/-- Every segment, in the order of R224. -/
def Dev.segments (d : Dev) : List Nat :=
  let rows := d.rowsOf .stream
  let seqs := (List.range 1024).filter (fun n => rows.any (fun r => r.1 / 256 = n && rowMirSeq r.2))
  let lvs := (List.range (2 ^ 18)).filter (fun n => rows.any (fun r => r.1 = n && rowMirLv r.2))
  [segId 0 0] ++ (List.range 64).map (segId 2) ++ [segId 3 0] ++ (List.range 64).map (segId 4)
    ++ seqs.map (segId 1) ++ lvs.map (segId 5)

/-- Adopt a generation, writing it to the logbook (R225). -/
def Dev.adoptGeneration (d : Dev) (g : Nat) : Dev :=
  { d.put 0x2602 0x03 (g % 2 ^ 32) with log := { d.log with generation := g % 2 ^ 32 } }

/-- Store the team block (R208, R225). -/
def Dev.storeTeam (d : Dev) (bs : List Byte) : Dev :=
  let gen := beAt bs 8 4
  let d := (d.put 0x2020 0x01 (beAt bs 0 1)).put 0x2020 0x02 (beAt bs 4 4)
  let d := if d.get 0x2602 0x03 = gen then d else d.adoptGeneration gen
  let chg := if beAt bs 1 1 = 0 then none
    else some { mode := beAt bs 2 1, target := beAt bs 12 8, epoch := beAt bs 20 4, domain := beAt bs 3 1 ≠ 0 : ModeChange }
  let d := (List.range 16).foldl (fun d n => d.put (0x3300 + n) 0x01 (b2n (bit (beAt bs 24 2) n))) d
  let d := (List.range 16).foldl (fun d n =>
    let v := b2n (bit (beAt bs 26 2) n)
    if d.nm n 0x01 = v then d else d.armSet n v) d
  let d := (d.put 0x2910 0x03 (beAt bs 28 4)).put 0x2910 0x06 (beAt bs 32 8)
  { d with team := { d.team with change := chg }, ledger := { d.ledger with head := slice bs 40 32 } }

/-- The full ordinal of a leg from its mirrored low 32 bits, 0 standing for none: the latest one not after the leg in
progress, or the next. -/
def Dev.fullOrdinal (d : Dev) (ord : Nat) : Option Nat :=
  let leg := d.stamp / d.legPu + 1
  if ord = 0 then none else some (leg - (leg + 2 ^ 32 - ord % 2 ^ 32) % 2 ^ 32)

/-- A group's selection state with word 14 and the leg of its last 0xA2B2 taken from the mirror. -/
def Sel.ofMirror (s : Sel) (w : Nat) (dis : Option Nat) : Sel :=
  { s with none := bit w 31, disputed := bit w 30, sel := bits w 29 28, cand := bits w 27 26, hcount := bits w 15 0
           lastDis := dis }

/-- Store a class 0x02 segment. -/
def Dev.storeSel (d : Dev) (n : Nat) (bs : List Byte) : Dev :=
  (List.range 64).foldl (fun d i =>
    let g := 64 * n + i
    d.setSel g ((d.sel g).ofMirror (beAt bs (8 * i) 4) (d.fullOrdinal (beAt bs (8 * i + 4) 4)))) d

/-- A string's ledger state from its segment. -/
def LString.ofBytes (x : LString) (bs : List Byte) : LString :=
  { x with
    chg := beAt bs 0 8, dis := beAt bs 8 8, refC := toI64 (beAt bs 16 8), refD := toI64 (beAt bs 24 8)
    refStamp := beAt bs 32 8, refP := toI32 (beAt bs 40 4), s := beAt bs 44 1, t := beAt bs 45 1, c := beAt bs 46 1
    valid := beAt bs 47 1 % 2 = 1, start := beAt bs 48 8, remC := beAt bs 56 4, remD := beAt bs 60 4
    bins := (List.range 512).foldl (fun m b => SMap.set (fun _ => 0) m b (beAt bs (64 + 4 * b) 4)) [] }

/-- A last-value slot from bytes 0 to 91, marked FROM_ACTIVE (R116). -/
def Slot.ofBytes (bs : List Byte) : Slot :=
  { value := bs.take (beAt bs 82 1), valid := beAt bs 83 1 % 2 = 1, can := bit (beAt bs 83 1) 1, fromActive := true
    stamp := leAt bs 84 8 }

/-- Store a segment's content (R208). -/
def Dev.segStore (d : Dev) (seg : Nat) (bs : List Byte) : Dev :=
  let n := seg % 2 ^ 24
  match seg / 2 ^ 24 with
  | 0 => d.storeTeam bs
  | 1 => (List.range 256).foldl (fun d i =>
      if d.mirSeq (256 * n + i) then d.setSeq (256 * n + i) (beAt bs (4 * i) 4) else d) d
  | 2 => d.storeSel n bs
  | 3 => { d with mirror := { d.mirror with alertSeg := bs } }
  | 4 => { d with ledger := { d.ledger with
             strings := SMap.set (fun _ => ({} : LString)) d.ledger.strings n ((d.ledger.string n).ofBytes bs) } }
  | 5 => if d.mirLv n then d.setSlot n (Slot.ofBytes bs) else d
  | _ => d

/-- Overlay data at an offset. -/
def patch (bs : List Byte) (off : Nat) (data : List Byte) : List Byte :=
  bs.take off ++ data ++ bs.drop (off + data.length)

/-- The version of a segment, and whether this unit holds it. -/
def Dev.segVersion (d : Dev) (seg : Nat) : Nat := SMap.get (fun _ => 0) d.mirror.versions seg
def Dev.segHeld (d : Dev) (seg : Nat) : Bool := SMap.get (fun _ => false) d.mirror.held seg
def Dev.setVersion (d : Dev) (seg v : Nat) : Dev :=
  { d with mirror := { d.mirror with versions := SMap.set (fun _ => 0) d.mirror.versions seg (v % 2 ^ 32) } }

/-! ### Mirror deltas (R209, R222) -/

/-- The body that deltas and segment pieces share (R222). -/
def pieceBody (number seg version offset : Nat) (cont : Bool) (data : List Byte) : List Byte :=
  be 4 number ++ be 4 seg ++ be 4 version ++ be 2 offset ++ be 2 (b2n cont * 2 ^ 15 + data.length % 2 ^ 11) ++ data

/-- Send a delta. -/
def Dev.sendDelta (d : Dev) (x : Delta) : Dev :=
  d.ropeSend 0x20 (pieceBody x.seq x.seg x.version x.offset x.cont x.data)

/-- The active mirrors: the team is formed and this unit is ACTIVE (R209). -/
def Dev.mirrors (d : Dev) : Bool := d.team.formed && d.team.role == .active

/-- Send one run of deltas under a version. A segment that the standby has not acknowledged is queued for sending again (R222). -/
def Dev.sendRun (d : Dev) (seg v : Nat) (chunks : List (Nat × List Byte)) : Dev :=
  let base := d.mirror.deltaSeq
  let xs := chunks.zipIdx.map (fun c =>
    ({ seq := (base + c.2) % 2 ^ 32, seg := seg, version := v, offset := c.1.1, cont := decide (c.2 + 1 < chunks.length)
       data := c.1.2, sent := d.now } : Delta))
  let m := d.mirror
  let stale := !m.peerHeld.contains seg && !m.darnQueue.contains seg
  let d := { d with mirror := { m with deltaSeq := (base + chunks.length) % 2 ^ 32, deltas := m.deltas ++ xs
                                       darnQueue := if stale then m.darnQueue ++ [seg] else m.darnQueue } }
  xs.foldl (fun d x => d.sendDelta x) d

/-- A change of a segment: its version rises by 1, and a formed team's active sends it (R209, R222). -/
def Dev.issueRun (d : Dev) (seg : Nat) (chunks : List (Nat × List Byte)) : Dev :=
  let v := (d.segVersion seg + 1) % 2 ^ 32
  let d := d.setVersion seg v
  if d.mirrors then d.sendRun seg v chunks else d

/-- Chunks of at most 1,024 bytes from an offset. -/
def chunksOf : Nat → Nat → List Byte → List (Nat × List Byte)
  | 0, _, _ => []
  | fuel + 1, off, bs => if bs.isEmpty then [] else (off, bs.take 1024) :: chunksOf fuel (off + 1024) (bs.drop 1024)

/-- Issue a whole segment as one run. -/
def Dev.issueWhole (d : Dev) (seg : Nat) : Dev := d.issueRun seg (chunksOf 4 0 (d.segContent seg))

/-- Keys at which two sparse maps differ. -/
def diffKeys {α : Type} [DecidableEq α] (dflt : Nat → α) (a b : SMap α) : List Nat :=
  ((a.map Prod.fst ++ (b.map Prod.fst).filter (fun k => !a.any (fun x => x.1 = k)))).filter
    (fun k => SMap.get dflt a k ≠ SMap.get dflt b k)

/-- The run of a ledger update: offsets 0 to 63, then each changed bin; the whole segment where more bins change than a
run can carry (R401). -/
def Dev.issueLedger (d : Dev) (old : LString) (n : Nat) : Dev :=
  let x := d.ledger.string n
  let bins := diffKeys (fun _ => 0) old.bins x.bins
  if 3 < bins.length then d.issueWhole (segId 4 n)
  else d.issueRun (segId 4 n) ((0, x.head) :: bins.map (fun b => (64 + 4 * b, be 4 (SMap.get (fun _ => 0) x.bins b))))

/-- Issue one group's eight bytes. -/
def Dev.issueSel (d : Dev) (g : Nat) : Dev := d.issueRun (segId 2 (g / 64)) [(8 * (g % 64), d.selBytes g)]

/-- A delta of a group's selection state was issued by this command. -/
def Dev.selIssued (old d : Dev) (g : Nat) : Bool :=
  d.mirror.deltas.any (fun x => x.seg = segId 2 (g / 64) && x.offset = 8 * (g % 64)
    && decide ((x.seq + 2 ^ 32 - old.mirror.deltaSeq) % 2 ^ 32 < 2 ^ 31))

/-- Streams whose sequence number, as it is mirrored, can differ between two states. -/
def seqTouched (old d : Dev) : List Nat :=
  (diffKeys (fun _ => 0) old.seqs d.seqs ++ old.mirror.waiting.map (fun (w : WaitRec) => w.adm.gsid % 2 ^ 18)).eraseDups

/-- Send every change that a command made to mirrored state (R208, R209): the team block first, then sequence numbers,
selection states, alert states, the ledger and last values. An active whose team is not formed raises the versions alone. -/
def Dev.mirrorSync (old d : Dev) : Dev :=
  if !(old.team.role == .active && d.team.role == .active) then d
  else
    let forced := d.mirror.force
    let d := { d with mirror := { d.mirror with force := [] } }
    let d := if old.teamBlock ≠ d.teamBlock ∨ (d.mirrors ∧ !forced.isEmpty) then d.issueRun (segId 0 0) [(0, d.teamBlock)] else d
    let d := (seqTouched old d).foldl (fun d s =>
      if d.mirSeq s ∧ old.seqMirrored s ≠ d.seqMirrored s then
        d.issueRun (segId 1 (s / 256)) [(4 * (s % 256), be 4 (d.seqMirrored s))] else d) d
    let d := (diffKeys (fun _ => ({} : Sel)) old.sels d.sels).foldl (fun d g =>
      if old.selBytes g ≠ d.selBytes g ∧ !Dev.selIssued old d g then d.issueSel g else d) d
    let d := if alertBytes old.alerts ≠ alertBytes d.alerts then d.issueWhole (segId 3 0) else d
    let d := (diffKeys (fun _ => ({} : LString)) old.ledger.strings d.ledger.strings).foldl (fun d n =>
      if (old.ledger.string n).head ≠ (d.ledger.string n).head
          ∨ (old.ledger.string n).binBytes ≠ (d.ledger.string n).binBytes then d.issueLedger (old.ledger.string n) n else d) d
    (diffKeys (fun _ => ({} : Slot)) old.slots d.slots).foldl (fun d s =>
      if d.mirLv s then d.issueRun (segId 5 s) [(0, (d.lastSlot s).bytes)] else d) d

/-- Send an answer that waited (R209). -/
def Dev.answer (d : Dev) (a : Answer) : Dev :=
  match a with
  | .sdo f => d.sdoQueue f
  | .od peer q reply =>
    let kept := SMap.get (fun _ => ([] : List KeptReply)) d.kept peer
    let d := { d with kept := SMap.set (fun _ => []) d.kept peer (kept.map (fun (k : KeptReply) => if k.id = q.id then { k with reply := reply } else k)) }
    d.odReply q reply

/-- Complete the M writes whose deltas have been acknowledged: all of them when no team is formed (R209). -/
def Dev.completeWrites (d : Dev) (all : Bool) : Dev :=
  let open_ (n : Nat) : Bool := !all && d.mirror.deltas.any (fun x => decide (x.seq = n))
  let done := d.mirror.mwrites.filter (fun w => !open_ w.1)
  let d := { d with mirror := { d.mirror with mwrites := d.mirror.mwrites.filter (fun w => open_ w.1) } }
  done.foldl (fun d w => d.answer w.2) d

/-! ### Darning, sending side (R224, R442) -/

/-- Begin darning at step 2: DARN BEGIN (R224). A pending mode change postpones it until the leg after the one at whose start the
change is applied (log entry 76). -/
def Dev.startDarning (d : Dev) : Dev :=
  if d.team.change.isSome ∨ (d.mirror.darnOwed ∧ d.team.modeLeg = some d.leg) then
    { d with mirror := { d.mirror with darnOwed := true } }
  else
    let segs := d.segments
    let d := { d with mirror := { d.mirror with
                 darning := true, darnNow := none, darnQueue := segs, darnPieces := [], darnWait := [], peerHeld := [], darnStart := d.now
                 darnLegL := none, darnOwed := false
                 belayFrom := some (d.mirror.belayFrom.getD (d.plan.leg + d.legPu)) } }
    let d := ((d.put 0x2604 0x01 1).put 0x2604 0x02 segs.length).put 0x2604 0x03 0
    let d := (d.count 0x2603 0x0A).raise 0xA313 1 segs.length
    d.ropeSend 0x30 (be 4 (d.get 0x2602 0x03) ++ be 4 (d.get 0x2020 0x02) ++ be 1 d.mode ++ be 3 0
      ++ be 8 (d.get 0x2000 0x0B) ++ be 4 segs.length)

/-- Send a whole segment at once, in answer to a request (R223). -/
def Dev.sendSegment (d : Dev) (seg : Nat) : Dev :=
  (chunksOf 4 0 (d.segContent seg)).zipIdx.foldl (fun d c =>
    d.ropeSend 0x31 (pieceBody c.2 seg (d.segVersion seg) c.1.1 false c.1.2)) d

/-- DARNING_SEGMENT_SEND: the next piece leaves (R222, R224). -/
def Dev.darnSend (d : Dev) : Dev :=
  let m := d.mirror
  if !d.mirrors then d
  else
    let go (d : Dev) (seg v n : Nat) (pieces : List (List Byte)) : Dev :=
      match pieces with
      | [] => d
      | p :: ps =>
        let d := { d with mirror := { d.mirror with
                     darnPieces := ps
                     darnNow := if ps.isEmpty then none else some (seg, v, n + 1)
                     darnWait := if ps.isEmpty ∧ !d.mirror.darnWait.contains seg then d.mirror.darnWait ++ [seg]
                                 else d.mirror.darnWait } }
        d.ropeSend 0x31 (pieceBody n seg v (1024 * n) false p)
    match m.darnNow, m.darnQueue with
    | some (seg, v, n), _ => go d seg v n m.darnPieces
    | none, seg :: rest =>
      go { d with mirror := { m with darnQueue := rest } } seg (d.segVersion seg) 0
        ((chunksOf 4 0 (d.segContent seg)).map Prod.snd)
    | none, [] => d

/-- The active has sent every segment and holds every acknowledgement: DARN END names the next leg to start (R224). -/
def Dev.darnEnd (d : Dev) : Dev :=
  let m := d.mirror
  if m.darning ∧ m.darnLegL.isNone ∧ m.darnNow.isNone ∧ m.darnQueue.isEmpty ∧ m.darnWait.isEmpty then
    let l := d.leg + d.legPu
    ({ d with mirror := { m with darnLegL := some l } }.put 0x2604 0x01 2).ropeSend 0x33 (be 8 l)
  else d

end Sys2Proof.Machine
end

