-- ==== Sys2Proof/Machine/Belay.lean ====
section
/-! DEFINITION. Admission records and belay, the shadow hold, orphans, cairns, audits, deltas and the joining side of
darning, pattern frames (R70, R178, R210 to R224, R229). -/

namespace Sys2Proof.Machine

/-! ### Admission records on the active (R210 to R213) -/

/-- A record on the wire (R211). -/
def recordBytes (r : AdmRec) : List Byte :=
  be 4 (r.mark * 2 ^ 30 + r.gsid) ++ be 4 r.seq ++ be 8 r.stamp ++ be 8 r.digest

/-- A record from its 24 bytes. -/
def recordOf (bs : List Byte) : AdmRec :=
  { mark := bits (beAt bs 0 4) 31 30, gsid := bits (beAt bs 0 4) 29 0, seq := beAt bs 4 4, stamp := beAt bs 8 8
    digest := beAt bs 16 8 }

/-- The body of an ADMIT frame. -/
def admitBody (leg first : Nat) (rs : List AdmRec) : List Byte :=
  be 8 leg ++ be 4 first ++ be 1 rs.length ++ be 3 0 ++ (rs.map recordBytes).flatten

/-- Send an ADMIT frame. -/
def Dev.sendAdmit (d : Dev) (leg first : Nat) (rs : List AdmRec) : Dev :=
  let d := d.ropeSend 0x10 (admitBody leg first rs)
  { d with mirror := { d.mirror with admits := d.mirror.admits ++ [(leg, first + rs.length - 1, d.now)] } }

/-- Send up to 60 of the waiting records: those of the oldest plan that has any. -/
def Dev.admitSome (d : Dev) : Dev :=
  match d.mirror.waiting with
  | [] => d
  | w :: ws =>
    let run := ((w :: ws).takeWhile (fun x => x.leg = w.leg)).take 60
    let d := (d.sendAdmit w.leg w.index (run.map (·.adm))).count 0x2603 0x01 run.length
    { d with mirror := { d.mirror with
        waiting := d.mirror.waiting.drop run.length
        unacked := d.mirror.unacked ++ run.map (fun x => (x.leg, x.index, x.adm)) } }

/-- A cairn leaves once no record waits that an ADMIT frame carries before it (R218, R247; log entry 76). -/
def Dev.cairnLeave (d : Dev) : Dev :=
  match d.mirror.cairnOwed with
  | some b =>
    if d.mirror.waiting.isEmpty then ({ d with mirror := { d.mirror with cairnOwed := none } } : Dev).ropeSend 0x18 b else d
  | none => d

/-- ADMIT_SEND_TIMER: 60 records wait, or 0.2 µs have passed since the first was queued (R212). -/
def Dev.admitTimer (d : Dev) : Dev :=
  let due := match d.mirror.waiting with | w :: _ => decide (w.since + 160 ≤ d.now) | [] => false
  if 60 ≤ d.mirror.waiting.length ∨ due = true then d.admitSome.cairnLeave else d

/-- Close the holds of the items of a plan whose records an index covers (R213). -/
def closeHolds (leg n : Nat) (pl : Plan) : Plan :=
  if pl.leg = leg then
    { pl with acked := max pl.acked n
              items := pl.items.map (fun i => if i.index + i.item.parts.length ≤ n then { i with held := false } else i) }
  else pl

/-- ACK_RECEIVED (R212, R213): the acknowledged records' holds close; a frame held by one may start. -/
def Dev.ackReceived (d : Dev) (f : RopeFrame) (foreign : Dev → Dev) : Dev :=
  d.onRope f [0x11] foreign fun d b =>
    if d.team.role == .active then
      let leg := beAt b 0 8
      let n := beAt b 8 4
      let m := d.mirror
      let covered := m.admits.filter (fun a => a.1 = leg ∧ a.2.1 < n)
      let d := covered.foldl (fun d a => d.histAdd 24 ((d.now - a.2.2) * 5 / 4 / 100)) d
      let d := { d with
        mirror := { m with admits := m.admits.filter (fun a => !(a.1 = leg ∧ a.2.1 < n))
                           unacked := m.unacked.filter (fun u => !(u.1 = leg ∧ u.2.1 < n)) } }
      (d.mapPlans (closeHolds leg n)).portsStart
    else d

/-- Send records again in frames of 60. -/
def Dev.resendRecs (d : Dev) (leg : Nat) : Nat → Nat → List AdmRec → Dev
  | 0, _, _ => d
  | fuel + 1, first, rs =>
    if rs.isEmpty then d else (d.sendAdmit leg first (rs.take 60)).resendRecs leg fuel (first + 60) (rs.drop 60)

/-- ADMIT_ACK_TIMEOUT: 5 µs have passed since an ADMIT frame; every record of its plan from the first unacknowledged
index is sent again (R212). -/
def Dev.admitTimeout (d : Dev) : Dev :=
  match d.mirror.admits.find? (fun a => decide (a.2.2 + 5 * usCycles < d.now)) with
  | none => d
  | some (leg, _, _) =>
    let mine := d.mirror.unacked.filter (fun u => u.1 = leg)
    let d := { d with mirror := { d.mirror with admits := d.mirror.admits.filter (fun a => !(a.1 = leg)) } }
    match mine.head? with
    | none => d
    | some (_, first, _) =>
      (d.resendRecs leg (mine.length + 1) first (mine.map (fun u => u.2.2))).count 0x2603 0x03

/-- Release every open hold at once (R213). -/
def Dev.releaseHolds (d : Dev) : Dev :=
  let held (pl : Plan) : Nat := (pl.items.filter (·.held)).length
  let n := ((d.plansSent ++ [d.plan]).map held).sum
  let free (pl : Plan) : Plan := { pl with items := pl.items.map (fun i => { i with held := false }) }
  let d := { d.mapPlans free with
    mirror := { d.mirror with waiting := [], unacked := [], admits := [], belayFrom := none } }
  let d := if n = 0 then d else (d.count 0x2603 0x04 n).raise 0xA315 2 (sat 0xFFFFFFFF n)
  d.cairnLeave.portsStart

/-! ### The shadow plan (R178, R214, R215) -/

/-- This unit holds the plan of a leg stamp. -/
def Dev.hasPlan (d : Dev) (leg : Nat) : Bool := leg = d.plan.leg || leg = d.sending.leg || leg = d.previous.leg

/-- A received record. -/
def Dev.recvAt (d : Dev) (leg index : Nat) : Option RecvRec :=
  d.mirror.recv.find? (fun r => r.leg = leg ∧ r.index = index)

/-- Charge a matched copy to the shadow plan of its record: it takes the record's sequence number, stamp and index. A
copy matched after its plan's rinse goes in frames of its own, which are queued at once. -/
def Dev.chargeCopy (d : Dev) (r : RecvRec) (pr : Proposal) : Dev :=
  let unheld (i : Nat) : Bool := match d.recvAt r.leg (r.index + i) with | some x => decide (x.state ≠ 1) | none => false
  let pr := { pr with item := { pr.item with origin := r.adm.stamp }, skip := (List.range pr.item.parts.length).filter unheld }
  let pl := d.planOf r.leg
  let late := decide (r.leg ≠ d.plan.leg)
  let base := if late then { pl with frames := [] } else pl
  match d.place base pr r.adm.seq r.index false true with
  | none => d
  | some (d, q) =>
    let d := d.setPlan { q with cursor := r.index + pr.item.parts.length
                                count := max q.count (r.index + pr.item.parts.length)
                                frames := if late then pl.frames ++ q.frames else q.frames }
    if late then (d.queueFrames (d.framesSent q.frames r.leg) r.leg (decide (r.leg ≠ d.sending.leg))).portsStart else d

/-- The n: and g: counters that a record without a copy here moves on: those of the standard groups that the stream's listener
set names (R253; log entry 76). -/
def Dev.countLine (d : Dev) (a : AdmRec) : Dev :=
  let row := d.row .stream (a.gsid % 2 ^ 18)
  let groups := (List.range 64).filter (fun g => bit (d.lset (rowLset row)) (208 + g) && decide (d.groupFormat g = 0)
    && !(d.groupPorts g).isEmpty && fieldOf row 1 31 29 ≠ 2 && fieldOf row 1 31 29 ≠ 4)
  groups.foldl (fun (d : Dev) g =>
    let r := d.row .txgroup g
    let d := if flagOf r 1 10 then
        { d with lineNo := SMap.set (fun _ => 0) d.lineNo g (nextLine (SMap.get (fun _ => 0) d.lineNo g)) } else d
    if flagOf r 1 9 ∧ a.mark = 1 then
      { d with groupId := SMap.set (fun _ => 0) d.groupId g ((SMap.get (fun _ => 0) d.groupId g + 1) % 100000) } else d) d

/-- Charge matched records to a plan in index order, up to the first that is pending: an item once every record of its parts
has been matched or judged. `all` takes the records that have not come as held (R196). -/
def Dev.chargeShadow (d : Dev) (leg : Nat) (all : Bool) : Nat → Dev
  | 0 => d
  | fuel + 1 =>
    if !d.hasPlan leg then d
    else
      let pl := d.planOf leg
      match d.recvAt leg pl.cursor with
      | none => d
      | some r =>
        if r.state = 0 then d
        else
          match (if r.state = 1 ∧ r.part = 0 then r.copy else none) with
          | some pr =>
            let ready (i : Nat) : Bool := match d.recvAt leg (pl.cursor + i) with | some x => decide (x.state ≠ 0) | none => all
            if (List.range pr.item.parts.length).all ready then (d.chargeCopy r pr).chargeShadow leg all fuel else d
          | none =>
            ((d.countLine r.adm).setPlan
              { pl with cursor := pl.cursor + 1, count := max pl.count (pl.cursor + 1) }).chargeShadow leg all fuel

/-- Charge what can be charged in the plans that are held. -/
def Dev.chargeShadows (d : Dev) (all : Bool) : Dev :=
  let n := d.mirror.recv.length + 1
  ((d.chargeShadow d.previous.leg all n).chargeShadow d.sending.leg all n).chargeShadow d.plan.leg all n

/-- A stream is internal: the KIND of its row is 5. -/
def Dev.internalStream (d : Dev) (s : Nat) : Bool := rowKeyOf (d.row .stream s) / 2 ^ 61 = 5

/-- An item that this unit relayed itself is on its way to the proposal point with a digest (R70, R214). -/
def Dev.relayOnWay (d : Dev) (digest : Nat) : Bool :=
  (d.waitTag ++ d.tagged.map (·.item)).any (fun i => decide (i.src = 247) && (i.parts.head?.map (·.digest)) == some digest)

/-- Replace a received record. -/
def Dev.setRecv (d : Dev) (r : RecvRec) : Dev :=
  { d with mirror := { d.mirror with
      recv := d.mirror.recv.map (fun x => if x.leg = r.leg ∧ x.index = r.index then r else x) } }

/-- Discard a copy as an orphan (R216). -/
def Dev.orphan (d : Dev) (sub : Nat) (c : Shadow) : Dev := d.discard .orphan sub c.prop.item.src c.prop.item.stamp

/-- Match one pending record (R214): the oldest copy of its stream with its digest; older copies become orphans. The
later parts of an item follow its first part's copy. Records of the active's own internal items have no copy; those of an
item that this unit relayed wait for it. -/
def Dev.matchRec (d : Dev) (r : RecvRec) : Dev :=
  let stream := r.adm.gsid % 2 ^ 18
  if r.part = 0 then
    let mine := d.mirror.shadow.filter (fun c => c.prop.stream = stream)
    let fits (c : Shadow) : Bool := (c.prop.item.parts.head?.map (·.digest)) == some r.adm.digest
    match mine.find? fits with
    | some c =>
      let older := mine.filter (fun x => decide (x.order < c.order))
      let d := { d with mirror := { d.mirror with
        shadow := d.mirror.shadow.filter (fun x => !(x.prop.stream = stream ∧ x.order ≤ c.order)) } }
      (older.foldl (fun d x => d.orphan 1 x) d).setRecv { r with state := 1, copy := some c.prop }
    | none => if d.internalStream stream ∧ !d.relayOnWay r.adm.digest then d.setRecv { r with state := 3 } else d
  else
    match d.mirror.recv.find? (fun x => x.leg = r.leg ∧ x.index + r.part = r.index) with
    | some h =>
      match h.copy with
      | some pr =>
        if ((pr.item.parts.drop r.part).head?.map (·.digest)) == some r.adm.digest then
          d.setRecv { r with state := 1, copy := some pr }
        else d
      | none => if h.state = 3 then d.setRecv { r with state := 3 } else d
    | none => d

/-- Every record of a plan up to a count has been matched or judged. -/
def Dev.resolved (d : Dev) (leg n : Nat) : Bool :=
  (List.range n).all (fun i => d.mirror.recv.any (fun r => r.leg = leg && r.index = i && decide (r.state ≠ 0)))

/-- The stream field of a matched copy's part (R219). -/
def Dev.shadowDigest (d : Dev) (leg n : Nat) : Nat :=
  ((List.range n).foldl (fun c i =>
    match d.mirror.recv.find? (fun r => r.leg = leg ∧ r.index = i) with
    | none => c
    | some r =>
      match r.state, r.copy with
      | 1, some pr =>
        digestRec c (partMark r.part pr.item.parts.length) (d.globalId pr.stream % 2 ^ 30) r.ownSeq
          (((pr.item.parts.drop r.part).head?.map (·.digest)).getD 0)
      | 3, _ => digestRec c r.adm.mark r.adm.gsid r.ownSeq r.adm.digest
      | _, _ => digestRec c r.adm.mark r.adm.gsid r.ownSeq 0) 0xFFFFFFFFFFFFFFFF) ^^^ 0xFFFFFFFFFFFFFFFF

/-! ### Cairn outcomes (R220, R224) -/

/-- Withdraw the plan frames that wait on the ports (R190, R192). -/
def Dev.dropQueued (d : Dev) : Dev :=
  (List.range 4).foldl (fun d p => d.setPort p { d.port p with queue := [] }) d

/-- Out of step: the standby goes back to DARNING and stops twin sending (R192, R220, R223). -/
def Dev.reDarn (d : Dev) : Dev :=
  if d.shadows then
    let d := { d with team := { d.team with role := .darning }
                      mirror := { d.mirror with darnLegL := none, cairnCheck := none } }
    (d.put 0x2604 0x01 0).dropQueued
  else d

/-- Mismatches of the cairn of leg j: counted, reported, alerted (R220). -/
def Dev.diverge (d : Dev) (j causes n : Nat) : Dev :=
  let again := d.get 0x2604 0x04 = j ∧ d.get 0x2604 0x05 ≠ 0
  let all := if again then d.get 0x2604 0x05 ||| causes else causes
  let d := ((d.count 0x2603 0x07 n).put 0x2604 0x04 j).put 0x2604 0x05 all
  let d := { d with mirror := { d.mirror with hCause := d.mirror.hCause ||| causes
                                              hDiv := if again then d.mirror.hDiv else d.mirror.hDiv + 1 } }
  d.raise 0xA310 2 all

/-- Darning completes on the joining unit: STANDBY, twin sending from leg L + 2 (R192, R224, R442). -/
def Dev.darnedHere (d : Dev) (l : Nat) : Dev :=
  let us := (d.now - d.mirror.darnStart) / usCycles
  let d := { d with team := { d.team with role := .standby }
                    mirror := { d.mirror with darnLegL := none, twinFrom := l + 2 * d.legPu } }
  (((d.put 0x2604 0x01 0).count 0x2603 0x0B).histAdd 22 (logBin (us / 1000))).raise 0xA314 0 (sat 0xFFFFFFFF us)

/-- The digest comparison that a cairn awaits is made once every record of its plan is matched or judged; the cairn of
leg L then decides darning (R219, R220, R224). -/
def Dev.cairnSettle (d : Dev) : Dev :=
  match d.mirror.cairnCheck with
  | none => d
  | some (leg, digest, j) =>
    let n := SMap.get (fun _ => 0) d.mirror.expect leg
    if !d.resolved leg n then d
    else
      let d := { d with mirror := { d.mirror with cairnCheck := none } }
      let bad := d.shadowDigest leg n ≠ digest
      let d := if bad then d.diverge j 2 1 else d
      if d.team.role == .darning ∧ d.mirror.darnLegL = some j then
        (if bad ∨ (d.get 0x2604 0x04 = j ∧ d.get 0x2604 0x05 ≠ 0) then d.reDarn else d.darnedHere j)
      else d

/-- Match what can be matched, charge it, and settle a cairn that waited. -/
def Dev.resolveAll (d : Dev) : Dev :=
  let pending := d.mirror.recv.filter (fun r => r.state = 0)
  (((pending.foldl (fun d r => d.matchRec r) d)).chargeShadows false).cairnSettle

/-- A copy reaches the standby's proposal point (R214). -/
def Dev.shadowPlace (d : Dev) (pr : Proposal) : Dev :=
  let m := d.mirror
  let d := { d with mirror := { m with shadow := m.shadow ++ [Shadow.mk pr d.leg m.shadowNext], shadowNext := m.shadowNext + 1 } }
  if d.shadows then d.resolveAll else d

/-- The standby acknowledges records of a plan (R190, R197, R224). -/
def Dev.acknowledges (d : Dev) (leg : Nat) : Bool :=
  d.shadows && d.team.claiming.isNone && (match d.mirror.ackFrom with | some f => decide (f ≤ leg) | none => false)

/-- Take one record: R214, R217. -/
def Dev.takeRecord (d : Dev) (leg index : Nat) (a : AdmRec) : Dev :=
  let s := a.gsid % 2 ^ 18
  let prev := d.mirror.recv.find? (fun r => r.leg = leg ∧ r.index + 1 = index)
  let part := if a.mark < 2 then 0 else match prev with | some r => r.part + 1 | none => 1
  let r : RecvRec := { leg := leg, index := index, adm := a, arrived := d.now, state := 0, ownSeq := d.seqOf s
                       part := part, copy := none }
  { d with mirror := { d.mirror with recv := d.mirror.recv ++ [r] } }.setSeq s (a.seq + 1)

/-- ADMIT_RECEIVED: records in order are taken, matched and acknowledged (R212, R214, R217). -/
def Dev.admitReceived (d : Dev) (f : RopeFrame) (foreign : Dev → Dev) : Dev :=
  d.onRope f [0x10] foreign fun d b =>
    let leg := beAt b 0 8
    let first := beAt b 8 4
    let n := beAt b 12 1
    let next := SMap.get (fun _ => 0) d.mirror.expect leg
    if !d.acknowledges leg ∨ next < first ∨ n = 0 ∨ 60 < n ∨ b.length < 16 + 24 * n then d
    else
      let skip := next - first
      let fresh := (List.range n).drop skip
      let d := fresh.foldl (fun d i => d.takeRecord leg (first + i) (recordOf (slice b (16 + 24 * i) 24))) d
      let d := { d with mirror := { d.mirror with
        expect := SMap.set (fun _ => 0) d.mirror.expect leg (max next (first + n)) } }
      let d := d.count 0x2603 0x02 fresh.length
      let d := d.ropeSend 0x11 (be 8 leg ++ be 4 (max next (first + n)) ++ be 4 0)
      d.resolveAll

/-- RECORD_PENDING_EXPIRY: records pending past both instants of R214 are unheld. -/
def Dev.pendingExpiry (d : Dev) : Dev :=
  let late := d.mirror.recv.filter (fun r => r.state = 0 ∧ r.leg ≤ d.leg ∧ r.arrived + 2400 < d.now)
  if late.isEmpty ∨ !d.shadows then d
  else
    let d := late.foldl (fun d r => d.setRecv { r with state := 2 }) d
    let first := decide (d.mirror.unheldLeg = 0)
    let n := d.mirror.unheldLeg + late.length
    let d := { d with mirror := { d.mirror with unheldLeg := n } }
    let d := d.count 0x2603 0x05 late.length
    let d := if first then d.raise 0xA316 1 (sat 0xFFFFFFFF n) else d.alertDetail 0xA316 (sat 0xFFFFFFFF n)
    (d.chargeShadows false).cairnSettle

/-- ORPHAN_JUDGE: 10 µs after the last rinse at which the active could have admitted an item, its unmatched copy is an
orphan (R216). -/
def Dev.orphanJudge (d : Dev) : Dev :=
  if !d.shadows then d
  else
    let due (c : Shadow) : Bool :=
      let fin := c.leg + (c.prop.defer + 1) * d.legPu
      decide (fin < d.leg) || (decide (fin = d.leg) && decide (d.legAt + 10 * usCycles < d.now))
    let gone := d.mirror.shadow.filter due
    gone.foldl (fun d c => d.orphan 1 c)
      { d with mirror := { d.mirror with shadow := d.mirror.shadow.filter (fun c => !due c) } }

/-! ### Cairns (R218 to R221) -/

/-- The body of the cairn of leg j (R218): the plan of leg j + 1 has just closed. -/
def Dev.cairnBody (d : Dev) (j : Nat) (pl : Plan) (overrun applied : Bool) : List Byte :=
  be 8 j ++ be 4 pl.count ++ be 1 (b2n overrun + 2 * b2n d.team.degraded + 4 * b2n applied) ++ be 1 d.mode ++ be 2 0
    ++ be 8 (pl.digest ^^^ 0xFFFFFFFFFFFFFFFF) ++ be 4 d.mirror.deltaSeq ++ be 4 (d.get 0x2020 0x02)
    ++ be 4 (d.get 0x2602 0x03) ++ be 4 0 ++ be 8 (d.get 0x2000 0x0B)

/-- What a cairn disagrees with this unit about: the record count of the leg it opens, the delta count, the generation, mode
epoch or mode, and the rack (R219, R220). -/
def Dev.cairnDiffers (d : Dev) (b : List Byte) : Bool × Bool × Bool × Bool :=
  (decide (beAt b 8 4 ≠ SMap.get (fun _ => 0) d.mirror.expect (beAt b 0 8 + d.legPu)),
    (match d.mirror.cairnDeltas with
      | some n => decide (2 ^ 31 ≤ (d.mirror.deltaIn + 2 ^ 32 - n) % 2 ^ 32)
      | none => false),
    decide (beAt b 32 4 ≠ d.get 0x2602 0x03 ∨ beAt b 28 4 ≠ d.get 0x2020 0x02 ∨ beAt b 13 1 ≠ d.mode),
    decide (beAt b 40 8 ≠ d.get 0x2000 0x0B))

/-- CAIRN_RECEIVED (R220, R224). A leg stamp that differs shows in the health report as a divergent cairn: R154 has it reported
there, and R228 names no other field for it (DESIGN CHOICE, log entry 76). -/
def Dev.cairnReceived (d : Dev) (f : RopeFrame) (foreign : Dev → Dev) : Dev :=
  d.onRope f [0x18] foreign fun d b =>
    let j := beAt b 0 8
    let awaited := d.team.role == .darning && d.mirror.darnLegL = some j
    if !(d.team.role == .standby || awaited) then d
    else
      let own := d.leg - d.legPu
      let d := if own ≠ j then d.raise 0xA107 2 (ofI32 (satI32 ((own : Int) - (j : Int)))) else d
      let d := if own ≠ j then { d with mirror := { d.mirror with hDiv := d.mirror.hDiv + 1 } } else d
      let m := d.mirror
      let (count, delta, state, rack) := d.cairnDiffers b
      let causes := b2n count + 4 * b2n delta + 8 * b2n state + 16 * b2n rack
      let n := b2n count + b2n delta + b2n state + b2n rack
      let d := { d with mirror := { m with
        cairnLeg := some j, cairnDeltas := some (beAt b 24 4), cairnsMissed := 0, hCairns := m.hCairns + 1
        cairnCheck := some (j + d.legPu, beAt b 16 8, j) } }
      let d := d.count 0x2603 0x06
      let d := if n = 0 then d else d.diverge j causes n
      let d := d.cairnSettle
      if delta ∨ state ∨ rack then d.reDarn else d

/-- CAIRN_MISSING: the cairn of the leg just closed has not come by the rinse plus 50 µs (R221), also on a unit that has taken
over since that rinse (R226). -/
def Dev.cairnMissing (d : Dev) : Dev :=
  let j := d.leg - d.legPu
  let m := d.mirror
  if (d.team.role == .standby || (d.team.role == .darning && m.darnLegL = some j) || m.cairnDue = some j)
      ∧ m.cairnLeg ≠ some j ∧ m.missedLeg ≠ some j ∧ d.legAt + 50 * usCycles < d.now then
    let n := m.cairnsMissed + 1
    (({ d with mirror := { m with cairnsMissed := n, missedLeg := some j } }).count 0x2603 0x08).raise 0xA311 1
      (sat 0xFFFFFFFF n)
  else d

/-! ### Deltas on the standby (R116, R135, R222) -/

/-- Ask the active for a segment (R223). -/
def Dev.requestSegment (d : Dev) (seg : Nat) : Dev :=
  let m := d.mirror
  ({ d with mirror := { m with requested := if m.requested.contains seg then m.requested else m.requested ++ [seg] } }).ropeSend
    0x34 (be 4 seg)

/-- An audit mismatch (R135, R223). -/
def Dev.auditMismatch (d : Dev) (seg : Nat) : Dev :=
  let d := { d with mirror := { d.mirror with hAudit := true } }
  (d.count 0x2603 0x0C).raise 0xA312 1 seg

/-- A group's decision arrives (R135): one that comes after this unit's own selection point, or in the second half of
the leg, waits for the boundary; a later one that differs in NONE, SEL, CAND or HCOUNT is applied at once, counted and
followed by a request. -/
def Dev.takeDecision (d : Dev) (g w ord : Nat) : Dev :=
  let s := d.sel g
  let side := { s with disputed := bit w 30, lastDis := d.fullOrdinal ord }
  if s.pend.isSome ∨ d.legPu * 2 ^ 16 ≤ 2 * d.legPhase16 then d.setSel g { side with decision := some w }
  else if s.none = bit w 31 ∧ s.sel = bits w 29 28 ∧ s.cand = bits w 27 26 ∧ s.hcount = bits w 15 0 then d.setSel g side
  else
    let late : Sel := { side with cand := bits w 27 26 }
    let n := selOfWord s (grpHyst (d.row .group g)) w
    let d := if s.none ∧ n.none then d.setSel g { late with sel := n.sel, hcount := n.hcount }
      else (d.setSel g late).applySelection g n
    (d.auditMismatch (segId 2 (g / 64))).requestSegment (segId 2 (g / 64))

/-- Apply a whole run under the version rule (R222). -/
def Dev.applyRun (d : Dev) (run : List Delta) : Dev :=
  match run.getLast? with
  | none => d
  | some x =>
    if !d.segHeld x.seg ∨ x.version ≤ d.segVersion x.seg then d
    else
      let d := d.setVersion x.seg x.version
      if x.seg / 2 ^ 24 = 2 then
        run.foldl (fun d y => d.takeDecision (64 * (x.seg % 2 ^ 24) + y.offset / 8) (beAt y.data 0 4) (beAt y.data 4 4)) d
      else d.segStore x.seg (run.foldl (fun bs y => patch bs y.offset y.data) (d.segContent x.seg))

/-- A delta from its body. -/
def deltaOf (b : List Byte) : Delta :=
  { seq := beAt b 0 4, seg := beAt b 4 4, version := beAt b 8 4, offset := beAt b 12 2, cont := bit (beAt b 14 2) 15
    data := slice b 16 (beAt b 14 2 % 2 ^ 11) }

/-- The acknowledgement of deltas. -/
def Dev.deltaAck (d : Dev) : Dev := d.ropeSend 0x21 (be 4 d.mirror.deltaIn ++ be 4 0)

/-- MIRROR_DELTA_RECEIVED: in order, held until its run is whole, then applied and acknowledged in one step (R222). -/
def Dev.deltaReceived (d : Dev) (f : RopeFrame) (foreign : Dev → Dev) : Dev :=
  d.onRope f [0x20] foreign fun d b =>
    let x := deltaOf b
    let m := d.mirror
    if !d.shadows ∨ d.team.claiming.isSome then d
    else
      let start := x.seq = m.deltaIn
      let next := x.seq = (m.deltaIn + m.run.length) % 2 ^ 32
      let older := 2 ^ 31 ≤ (x.seq + 2 ^ 32 - m.deltaIn) % 2 ^ 32
      if start ∨ next then
        let run := (if start then [] else m.run) ++ [x]
        if x.cont then { d with mirror := { m with run := run } }
        else
          ({ d with mirror := { m with run := [], deltaIn := (m.deltaIn + run.length) % 2 ^ 32 } }.applyRun run).deltaAck
      else if older then d.deltaAck
      else d

/-- DELTA_ACK_RECEIVED (R209, R222). -/
def Dev.deltaAckReceived (d : Dev) (f : RopeFrame) (foreign : Dev → Dev) : Dev :=
  d.onRope f [0x21] foreign fun d b =>
    if d.team.role == .active then
      let n := beAt b 0 4
      let d := { d with mirror := { d.mirror with
        deltas := d.mirror.deltas.filter (fun x => decide ((x.seq + 2 ^ 32 - n) % 2 ^ 32 < 2 ^ 31)) } }
      d.completeWrites false
    else d

/-- DELTA_ACK_TIMEOUT: every unacknowledged delta is sent again (R222). -/
def Dev.deltaTimeout (d : Dev) : Dev :=
  match d.mirror.deltas with
  | [] => d
  | x :: _ =>
    if x.sent + 5 * usCycles < d.now ∧ d.mirrors then
      let ds := d.mirror.deltas.map (fun y => { y with sent := d.now })
      let d := { d with mirror := { d.mirror with deltas := ds } }
      (ds.foldl (fun (d : Dev) y => d.sendDelta y) d).count 0x2603 0x03
    else d

/-! ### Audits and requests (R223) -/

/-- Send the audit frames of a leg, taking the segments in turn (R223). -/
def Dev.sendAudits (d : Dev) : Dev :=
  if !d.mirrors then d
  else
    let segs := d.segments
    (List.range (d.get 0x2602 0x02)).foldl (fun d _ =>
      let seg := segs.getD (d.mirror.auditNext % segs.length) 0
      let d := d.ropeSend 0x22 (be 4 seg ++ be 4 (d.segVersion seg) ++ be 8 (crc64 (d.segContent seg)))
      { d with mirror := { d.mirror with auditNext := (d.mirror.auditNext + 1) % segs.length } }) d

/-- The audits of a leg that has begun leave after the deltas of its boundary, so that content and version agree (R223). -/
def Dev.auditsLeave (d : Dev) : Dev :=
  if d.mirror.auditDue then ({ d with mirror := { d.mirror with auditDue := false } } : Dev).sendAudits else d

/-- AUDIT_FRAME_RECEIVED. -/
def Dev.auditReceived (d : Dev) (f : RopeFrame) (foreign : Dev → Dev) : Dev :=
  d.onRope f [0x22] foreign fun d b =>
    let seg := beAt b 0 4
    let v := beAt b 4 4
    if !d.shadows ∨ !d.segHeld seg then d
    else if d.segVersion seg < v then d.requestSegment seg
    else if d.segVersion seg = v ∧ crc64 (d.segContent seg) ≠ beAt b 8 8 then
      let d := d.auditMismatch seg
      if seg / 2 ^ 24 = 0 then d.reDarn else d.requestSegment seg
    else d

/-- SEGMENT_REQUEST_RECEIVED. -/
def Dev.segmentRequest (d : Dev) (f : RopeFrame) (foreign : Dev → Dev) : Dev :=
  d.onRope f [0x34] foreign fun d b =>
    if d.mirrors then (d.sendSegment (beAt b 0 4)).count 0x2603 0x09 else d

/-! ### Darning, joining side (R224, R442) -/

/-- DARN_BEGIN_RECEIVED. -/
def Dev.darnBegin (d : Dev) (f : RopeFrame) (foreign : Dev → Dev) : Dev :=
  d.onRope f [0x30] foreign fun d b =>
    if !d.shadows then d
    else
      let d := if d.team.role == .standby then d.reDarn else d
      let d := (d.put 0x2020 0x02 (beAt b 4 4)).put 0x2020 0x01 (beAt b 8 1)
      let d := d.adoptGeneration (beAt b 0 4)
      let slots := d.slots.map (fun x => (x.1, { x.2 with fromActive := false }))
      let d := { d with
        slots := slots.filter (fun x => x.2 ≠ ({} : Slot))
        team := { d.team with change := none }
        mirror := { d.mirror with held := [], versions := [], pieces := [], requested := [], run := [], darnStart := d.now
                                  darnLegL := none, cairnCheck := none, cairnDeltas := none
                                  ackFrom := some (d.mirror.ackFrom.getD (d.plan.leg + d.legPu)) } }
      let d := ((d.put 0x2604 0x01 1).put 0x2604 0x02 (beAt b 20 4)).put 0x2604 0x03 0
      (d.count 0x2603 0x0A).raise 0xA313 1 (beAt b 20 4)

/-- A segment is whole: apply it when it is at least as new, and acknowledge it (R222, R224). -/
def Dev.segmentWhole (d : Dev) (seg v : Nat) (bs : List Byte) : Dev :=
  let d :=
    if !d.segHeld seg ∨ d.segVersion seg ≤ v then
      let d := (d.segStore seg bs).setVersion seg v
      { d with mirror := { d.mirror with held := SMap.set (fun _ => false) d.mirror.held seg true } }
    else d
  let d := { d with mirror := { d.mirror with requested := d.mirror.requested.filter (· ≠ seg) } }
  let d := if d.team.role == .darning then d.put 0x2604 0x03 (d.get 0x2604 0x03 + 1) else d
  d.ropeSend 0x32 (be 4 seg ++ be 4 v)

/-- DARNING_SEGMENT_RECEIVED: a piece of a segment (R222, R224). -/
def Dev.segmentReceived (d : Dev) (f : RopeFrame) (foreign : Dev → Dev) : Dev :=
  d.onRope f [0x31] foreign fun d b =>
    let x := deltaOf b
    if !d.shadows then d
    else
      let others := d.mirror.pieces.filter (fun p => !(p.1 = x.seg))
      let mine := (if x.seq = 0 then [] else d.mirror.pieces.filter (fun p => p.1 = x.seg)) ++ [(x.seg, x.offset, x.data)]
      let len := (mine.map (fun p => p.2.2.length)).sum
      if len < segSize x.seg then { d with mirror := { d.mirror with pieces := others ++ mine } }
      else
        let bs := mine.foldl (fun bs p => patch bs p.2.1 p.2.2) (List.replicate (segSize x.seg) 0)
        ({ d with mirror := { d.mirror with pieces := others } }).segmentWhole x.seg x.version bs

/-- SEGMENT_ACK_RECEIVED: DARN END follows the last (R224). -/
def Dev.segmentAck (d : Dev) (f : RopeFrame) (foreign : Dev → Dev) : Dev :=
  d.onRope f [0x32] foreign fun d b =>
    let seg := beAt b 0 4
    if d.mirrors ∧ d.mirror.darnWait.contains seg then
      let m := d.mirror
      let d := { d with mirror := { m with
        darnWait := m.darnWait.filter (· ≠ seg), peerHeld := if m.peerHeld.contains seg then m.peerHeld else m.peerHeld ++ [seg] } }
      if m.darning then (d.put 0x2604 0x03 (d.get 0x2604 0x03 + 1)).darnEnd else d
    else d

/-- DARN_END_RECEIVED. -/
def Dev.darnEndReceived (d : Dev) (f : RopeFrame) (foreign : Dev → Dev) : Dev :=
  d.onRope f [0x33] foreign fun d b =>
    if d.team.role == .darning ∧ d.get 0x2604 0x01 = 1 then
      ({ d with mirror := { d.mirror with darnLegL := some (beAt b 0 8) } }).put 0x2604 0x01 2
    else d

/-- DARNING_COMPLETION_TIMEOUT: the partner still shows DARNING past the step-5 bound plus 20 µs (R442). -/
def Dev.darnTimeout (d : Dev) : Dev :=
  match d.mirror.darnLegL with
  | some l =>
    if d.mirrors ∧ d.mirror.darning ∧ d.team.partnerRole == .darning
        ∧ (l + d.legPu < d.leg ∨ (l + d.legPu = d.leg ∧ d.legAt + 70 * usCycles < d.now)) then d.startDarning
    else d
  | none => d

/-! ### Relayed items and pattern frames (R70, R229, R422) -/

/-- RELAYED_ITEM_RECEIVED: the active proposes the standby's internal item under source 247 (R70). Its T_last on this unit is the
arrival of the relay frame: R50 gives no T_last for a relayed item (DESIGN CHOICE, log entry 75). -/
def Dev.relayedReceived (d : Dev) (f : RopeFrame) (foreign : Dev → Dev) : Dev :=
  d.onRope f [0x50] foreign fun d b =>
    if d.leads then
      let bytes := b.drop 9
      { d with waitTag := d.waitTag ++ [d.internalItem 247 (beAt b 8 1) (beAt b 0 8) bytes (crc64 bytes)] }
    else d

/-- `n` bits of PRBS-31 (x^31 + x^28 + 1) and the state after them. -/
def prbs : Nat → Nat → List Bool × Nat
  | 0, s => ([], s)
  | n + 1, s =>
    let b := xor (bit s 30) (bit s 27)
    let (bs, s') := prbs n ((s * 2 + b2n b) % 2 ^ 31)
    (b :: bs, s')

/-- Bytes of bits, the first in bit 7. -/
def bitBytes : Nat → List Bool → List Byte
  | 0, _ => []
  | n + 1, bs => BitVec.ofNat 8 ((bs.take 8).foldl (fun a b => 2 * a + b2n b) 0) :: bitBytes n (bs.drop 8)

/-- Bits of a byte that are set. -/
def onesOf (b : Byte) : Nat := (List.range 8).foldl (fun a i => a + b2n (bit b.toNat i)) 0

/-- A pattern frame's body checked against the sequence expected; the checker then follows the frame's last bits. -/
def Dev.patternCheck (d : Dev) (body : List Byte) : Dev :=
  let errs := match d.mirror.prbsRx with
    | some s => ((bitBytes 256 (prbs 2048 s).1).zip body).foldl (fun a p => a + onesOf (p.1 ^^^ p.2)) 0
    | none => 0
  let d := { d with mirror := { d.mirror with prbsRx := some (beAt body 252 4 % 2 ^ 31), hPattern := d.mirror.hPattern + errs } }
  if errs = 0 then d else d.count 0x2A20 0x04 errs

/-- PATTERN_FRAME_TIMER: no rope frame has left for 10 µs (R229); a rope loop carries the unit's own frames (R422). -/
def Dev.patternTimer (d : Dev) : Dev :=
  let loop := bits d.loops.ports 14 12
  let looped := 1 ≤ loop ∧ loop ≤ 3
  if d.team.lastSent + 10 * usCycles ≤ d.now ∧ (looped ∨ (d.inTeam ∧ d.ropeSends)) then
    let (bs, s) := prbs 2048 d.mirror.prbsTx
    let d := { d with mirror := { d.mirror with prbsTx := s }, team := { d.team with lastSent := d.now } }
    if looped then d.patternCheck (bitBytes 256 bs) else d.ropeSend 0x3F (bitBytes 256 bs)
  else d

/-- PATTERN_FRAME_RECEIVED. -/
def Dev.patternReceived (d : Dev) (f : RopeFrame) (foreign : Dev → Dev) : Dev :=
  d.onRope f [0x3F] foreign fun d b => d.patternCheck b

end Sys2Proof.Machine
end

