-- ==== Sys2Proof/Machine/Custody.lean ====
section
/-! DEFINITION. What the serial channels, the CAN channels and the host rings share: custody completion (R171), and wake
events (R345, R346). -/

namespace Sys2Proof.Machine

/-- A time in pu as whole microseconds at the engine's rate. -/
def Dev.puToUs (d : Dev) (pu : Nat) : Nat := if d.pitch.rateN = 0 then 0 else pu * d.pitch.rateD / (200 * d.pitch.rateN)

/-- An item of a listener completes: its latency from S' goes to WORST and to its histogram, a completion past the
custody deadline is an overrun (R170, R171, R180, R407). -/
def Dev.custodyDone (d : Dev) (l startNow hist : Nat) (deadline : Option Nat) : Dev :=
  let us := (d.now - startNow) / usCycles
  let d := d.histAdd hist (logBin us)
  let d := { d with worst := SMap.set (fun _ => 0) d.worst l (sat 0xFFFFFFFF (max (SMap.get (fun _ => 0) d.worst l) us)) }
  match deadline with
  | none => d
  | some s =>
    if d.stamp ≤ s then d
    else
      let n := sat 0xFFFFFFFF (SMap.get (fun _ => 0) d.overruns l + 1)
      let d := { d with overruns := SMap.set (fun _ => 0) d.overruns l n }
      (d.count 0x2510 0x07).raise 0xA2A1 1 (sat 0x7FFFFF (d.puToUs (d.stamp - s)) * 2 ^ 9 + l)

/-- The custody deadline of a listener for a handover in the leg that began at `legAt` (R171). -/
def Dev.custodyDeadline (d : Dev) (l : Nat) : Nat := d.stampAt d.legAt + d.usToPu (d.latency l d.leg)

/-- A wake event of BIVOUAC: source, alert code and alert detail (R345, R346). The first sets the wake cause and stamp;
one that falls before the entry has completed is noted for 0xA604. -/
def Dev.wakeEvent (d : Dev) (source code detail : Nat) : Dev :=
  if d.pw.st ≠ .bivouac ∨ !d.pw.armed then d
  else
    let d := if d.now < d.pw.entryDone ∧ d.pw.wakeDuring.isNone then
        { d with pw := { d.pw with wakeDuring := some source } } else d
    if d.pw.wakeOut then
      let more := bits (d.get 0x2001 0x06) 23 16
      d.field 0x2001 0x06 23 16 (sat 255 (more + 1))
    else
      let d := (d.put 0x2001 0x06 (2 ^ 31 + source * 2 ^ 28 + detail % 2 ^ 16)).put 0x2001 0x07 d.stamp
      { d with pw := { d.pw with wakeOut := true, wakeAlert := some (code, detail) } }

end Sys2Proof.Machine
end

