-- ==== Sys2Proof/Machine/Serial.lean ====
section
/-! DEFINITION. The asynchronous serial channels (chapter Asynchronous serial channels, R265 to R293), the cutting of
serial tunnel runs (R334) and the serial loops (R420). -/

namespace Sys2Proof.Machine

/-! ### A channel -/

/-- Loop depth of a channel (R418, R420). -/
def Dev.serLoop (d : Dev) (n : Nat) : Nat :=
  bits (d.loops.serial.getD (n / 16) 0) (2 * (n % 16) + 1) (2 * (n % 16))

/-- The channel is trimmed now: one that holds custody stays powered until it is empty (R343). -/
def Dev.serTrimmed (d : Dev) (n : Nat) : Bool := d.pw.trim && d.masked n && (d.serCh n).custody.isEmpty

/-- The channel runs from the PORT clock. -/
def Dev.serRuns (d : Dev) (n : Nat) : Bool :=
  n < 192 && (d.pw.st == .service || d.pw.st == .config) && d.serMode n ≠ 0 && !d.serTrimmed n

/-- The receiver runs from the keep-alive clock, which SHELTER switches off (R288, R341). -/
def Dev.serKa (d : Dev) (n : Nat) : Bool := (d.serCh n).ka && (d.on || d.pw.st == .bivouac)

/-- The transmitter is no shadow (R287, R419, R420). -/
def Dev.serLive (d : Dev) (n : Nat) : Bool := if d.loops.any then d.serLoop n ≠ 0 && (d.serLoop n ≠ 3 || d.team.serOwn) else d.team.serOwn

/-- The transmitter drives TXD. -/
def Dev.serDrives (d : Dev) (n : Nat) : Bool := d.serLive n && d.serLoop n ≠ 1 && !d.released

/-- Fields of Line control (R268). -/
def Dev.serHdx (d : Dev) (n : Nat) : Bool := bit (d.serLine n) 5
def Dev.serDeEn (d : Dev) (n : Nat) : Bool := bit (d.serLine n) 4
def Dev.serCtsEn (d : Dev) (n : Nat) : Bool := bit (d.serLine n) 3
def Dev.serRtsEn (d : Dev) (n : Nat) : Bool := bit (d.serLine n) 2

/-- The divisor of a baud rate: 3,200,000,000 ÷ baud to the nearest integer (R270). -/
def divisorOf (baud : Nat) : Nat := (2 * 3200000000 + baud) / (2 * baud)

/-- Sticky status bits (R291). -/
def Dev.serSticky (d : Dev) (n b : Nat) : Dev := d.sticky (0x3000 + n) 0x0A (2 ^ b)

/-- RTS_N is asserted (R268, R277, R280). -/
def Dev.serRts (d : Dev) (n : Nat) : Bool :=
  if d.serMode n = 0 then false
  else if !d.serRtsEn n then true
  else if d.serMode n = 1 then !d.secondHeld n
  else (d.serCh n).rts

/-- The RTS level of RAW mode after the FIFO's count changed (R280). -/
def Dev.rtsUpdate (d : Dev) (n : Nat) : Dev :=
  let c := d.serCh n
  let k := c.rx.length
  let lvl := if bits (d.serLine n) 31 24 ≤ k then false else if k ≤ bits (d.serLine n) 23 16 then true else c.rts
  d.setSer n { c with rts := lvl }

/-- CTS_N is asserted now: as a command of this cycle tells it, else not known to the model (R282; log entry 50). -/
def Dev.ctsNow (d : Dev) (n : Nat) : Bool :=
  let s := d.serCh n
  if s.ctsAt = some d.now then s.cts else Config.ctsLevel n d.now

/-- A command tells the level of CTS_N. -/
def Dev.ctsTold (d : Dev) (n : Nat) (cts : Bool) : Dev := d.setSer n { d.serCh n with cts := cts, ctsAt := some d.now }

/-- The time of so many characters at the rate at which the receiver runs, in CORE cycles: from the divisor in force on the
PORT clock, or from the divisor of the keep-alive clock (R270, R274, R288). -/
def Dev.rxTime (d : Dev) (n count : Nat) : Nat :=
  let s := d.serCh n
  let bits := count * d.charBits n
  if s.ka then
    let baud := d.get (0x3000 + n) 0x02
    ceilDiv (bits * ((2 * 307200 + baud) / (2 * baud)) * 15625) 6
  else ceilDiv (bits * s.rxDiv) 4

/-! ### Deciding a character (R271, R273) -/

/-- Where the sampling of a character stands: samples since the start of the bit in progress, with the edge sample number 0;
the level of the sample before; how many of samples 7 to 9 were high; the bits decided, in order (R271). -/
structure Sampler where
  count : Nat := 0
  last : Bool := false
  votes : Nat := 0
  bits : List Bool := []

/-- One sample of a character of `want` bits: a falling edge starts the bit in progress anew, sample 9 decides it by the
majority, sample 15 ends it (R271). -/
def Sampler.take (want : Nat) (s : Sampler) (x : Bool) : Sampler :=
  if want ≤ s.bits.length ∨ s.bits.head? = some true then s
  else
    let c := if s.last && !x then 0 else s.count
    let v := (if s.last && !x then 0 else s.votes) + (if 7 ≤ c ∧ c ≤ 9 then b2n x else 0)
    let bits := if c = 9 then s.bits ++ [decide (2 ≤ v)] else s.bits
    { count := (c + 1) % 16, last := x, votes := if c = 9 then 0 else v, bits := bits }

/-- The samples from the falling edge on that starts a character, if one is found: the first low sample after a high one. -/
def huntEdge : Bool → List Bool → Option (List Bool)
  | _, [] => none
  | true, false :: xs => some xs
  | _, x :: xs => huntEdge x xs

/-- The bits of a character by a Format, from its decided bits: data bit 0 first (R267). -/
def serBitsOf (format : Nat) (bs : List Bool) : SerBits :=
  let k := if bits format 6 5 = 0 then 7 else 8
  let a := if bits format 6 5 = 2 then 1 else 0
  let p := if bits format 4 3 ≠ 0 then 1 else 0
  { start := bs.getD 0 false
    data := BitVec.ofNat 8 ((List.range k).foldl (fun v i => v + 2 ^ i * b2n (bs.getD (1 + i) false)) 0)
    addr := a = 1 && bs.getD (1 + k) false, parity := p = 1 && bs.getD (1 + k + a) false
    stop := bs.getD (1 + k + a + p) false }

/-- The receiver's decision on a line given by its samples, after a sample of the given level: the character's bits, and the
level of the last sample used. Past the samples given the line keeps its level; none: no falling edge (R271; log entry 77). -/
def serSampled (format : Nat) (before : Bool) (samples : List Bool) : Option (SerBits × Bool) :=
  let want := 2 + (if bits format 6 5 = 0 then 7 else 8) + (if bits format 6 5 = 2 then 1 else 0) + (if bits format 4 3 ≠ 0 then 1 else 0)
  (huntEdge before samples).map (fun xs =>
    let s := (xs ++ List.replicate (16 * want) (samples.getLastD before)).foldl (Sampler.take want) { count := 1 }
    (serBitsOf format s.bits, s.last))

/-- Odd number of ones. -/
def oddOnes (b : Byte) (a : Bool) : Bool := ((onesOf b) + b2n a) % 2 = 1

/-- The outcome of a decided character under a Format; `none` for a false start. -/
def serOutcome (format : Nat) (b : SerBits) : Option RxChar :=
  let nine := bits format 6 5 = 2
  let data : Byte := if bits format 6 5 = 0 then b.data &&& 0x7F else b.data
  let addr := nine && b.addr
  let par := bits format 4 3
  let wrong := if par = 1 then oddOnes data addr != b.parity else if par = 2 then oddOnes data addr == b.parity else false
  if b.start then none
  else if data = 0 ∧ !addr ∧ !(par ≠ 0 && b.parity) ∧ !b.stop then some { RxChar.plain 0 with brk := true }
  else if !b.stop then some { RxChar.plain data with addr := addr, framing := true }
  else if wrong then some { RxChar.plain data with addr := addr, parity := true }
  else some { RxChar.plain data with addr := addr }

/-- A decided character adds to the counts of R292. -/
def Dev.serCount (d : Dev) (n : Nat) (c : RxChar) : Dev :=
  let i := 0x3000 + n
  let d := d.count i 0x20
  let d := if c.framing then d.count i 0x21 else d
  let d := if c.parity then d.count i 0x22 else d
  if c.brk then d.count i 0x23 else d

/-- A character is lost: counted, marked, and alerted from the tenth of a pitch on (R277, R278, R290). -/
def Dev.serLose (d : Dev) (n : Nat) : Dev :=
  let c := d.serCh n
  let d := (d.setSer n { c with overrun := true, lost := c.lost + 1 }).count (0x3000 + n) 0x24
  (d.serSticky n 1).raiseFrom 0xA423 1 (decide (10 ≤ c.lost + 1)) (countDetail n)

/-- Take the pending overrun mark into a character. -/
def Dev.serMark (d : Dev) (n : Nat) (c : RxChar) : Dev × RxChar :=
  let s := d.serCh n
  (d.setSer n { s with overrun := false }, { c with overrun := s.overrun })

/-! ### Tunnel runs (R334) -/

/-- The tunnel channel that cuts runs from a channel, or from a CAN frame stream (R333). -/
def Dev.tunnelIn (d : Dev) (can : Bool) (chan fs : Nat) : Option (Nat × List Word32) :=
  (d.rowsOf .tunnel).find? (fun r => flagOf r.2 0 31 ∧ flagOf r.2 0 30 ∧ flagOf r.2 0 28 = can ∧ fieldOf r.2 0 7 0 = chan
    ∧ (!can ∨ fieldOf r.2 0 13 8 = fs))

/-- A run enters the road: an item of KIND 4 (R95, R259, R333). -/
def Dev.runItem (d : Dev) (src tunnel kind stamp quality : Nat) (bytes : List Byte) : Dev :=
  let it : Item :=
    { src := src, kind := 4, form := .run, parts := [{ bytes := bytes, digest := crc64 bytes }], stamp := stamp
      origin := stamp, tLast := d.now, sel := tunnel, runKind := kind, quality := quality }
  d.toLane it

/-- A run is cut from a channel (R334). -/
def Dev.cutRun (d : Dev) (src tunnel kind stamp quality : Nat) (bytes : List Byte) : Dev :=
  (d.count 0x2740 0x0A).runItem src tunnel kind stamp quality bytes

/-- Close the run that is open on a channel. -/
def Dev.closeRun (d : Dev) (n : Nat) : Dev :=
  match (d.serCh n).run, d.tunnelIn false n 0 with
  | some (st, q, bs, _), some (t, _) => (d.setSer n { d.serCh n with run := none }).cutRun n t 0 st q bs
  | some _, none => d.setSer n { d.serCh n with run := none }
  | none, _ => d

/-- IDLE of the run open on a channel has passed at an instant. -/
def Dev.runIdle (d : Dev) (n at_ : Nat) (row : List Word32) : Bool :=
  match (d.serCh n).run with
  | some (_, _, _, last) => decide (last + d.rxTime n (fieldOf row 1 15 8) < at_)
  | none => false

/-- A character of a channel bound by IN. -/
def Dev.tunnelChar (d : Dev) (n : Nat) (row : List Word32) (c : RxChar) (edge : Nat) : Dev :=
  let d := if d.runIdle n edge row then d.closeRun n else d
  if c.framing || c.parity || c.brk || c.overrun then (d.closeRun n).count 0x2740 0x09
  else
    let s := d.serCh n
    let (st, q, bs) := match s.run with
      | some (st, q, bs, _) => (st, q, bs ++ [c.data])
      | none => (d.stampAt edge, d.qualityAt edge, [c.data])
    let d := d.setSer n { s with run := some (st, q, bs, d.now) }
    if fieldOf row 1 7 0 ≤ bs.length then d.closeRun n else d

/-- TUNNEL_IDLE_GAP: a start edge on the tick of the deadline extends the run. -/
def Dev.tunnelIdle (d : Dev) (n : Nat) : Dev :=
  match d.tunnelIn false n 0, (d.serCh n).run with
  | some (_, row), some (_, _, _, last) => if last + d.rxTime n (fieldOf row 1 15 8) < d.now then d.closeRun n else d
  | _, _ => d

/-! ### Reception (R276 to R280) -/

/-- The mute rule: the character's fate, and MUTED after it (R276). -/
def Dev.serMute (d : Dev) (n : Nat) (c : RxChar) : Dev × Bool :=
  let a := d.get (0x3000 + n) 0x05
  let s := d.serCh n
  if !d.nineBit n || !bit a 16 then (d, true)
  else if c.addr then
    let hit := c.data.toNat &&& bits a 15 8 = bits a 7 0 &&& bits a 15 8
    (d.setSer n { s with muted := !hit }, true)
  else if s.muted then (d.count (0x3000 + n) 0x27, false)
  else (d, true)

/-- A character enters the parse context (R277). -/
def Dev.serSentence (d : Dev) (n : Nat) (c : RxChar) (stamp quality : Nat) : Dev :=
  if 2 ≤ d.itemsWaiting n then d.serLose n
  else
    let (d, c) := d.serMark n c
    d.feedChar n c stamp quality d.now

/-- A character enters the RAW FIFO (R278). -/
def Dev.serRaw (d : Dev) (n : Nat) (c : RxChar) : Dev :=
  if 64 ≤ (d.serCh n).rx.length then d.serLose n
  else
    let (d, c) := d.serMark n c
    (d.setSer n { d.serCh n with rx := (d.serCh n).rx ++ [c] }).rtsUpdate n

/-- A character passes the mute and reaches the parse context, the FIFO or the cutter. -/
def Dev.serDeliver (d : Dev) (n : Nat) (c : RxChar) (edge : Nat) : Dev :=
  match d.serMute n c with
  | (d, false) => d
  | (d, true) =>
    if d.serMode n = 1 then d.serSentence n c (d.stampAt edge) (d.qualityAt edge)
    else if d.serMode n = 2 then
      match d.tunnelIn false n 0 with
      | some (_, row) => d.tunnelChar n row c edge
      | none => d.serRaw n c
    else d

/-! ### The wake buffer (R289, R290) -/

/-- Wake of a channel (R288). -/
def Dev.serWake (d : Dev) (n : Nat) : Nat := d.get (0x3000 + n) 0x07

/-- A clean character. -/
def rxClean (c : RxChar) : Bool := !(c.framing || c.parity || c.brk || c.overrun || c.addr)

/-- Whether a wake header row matches a delimiter and the characters after it, of which there are at most five. -/
def headerFits (row n delim : Nat) (cs : List RxChar) : Bool :=
  row ≠ 0 && bit row (48 + n) && ((delim = 0x24 && bit row 45) || (delim = 0x21 && bit row 46)) &&
    cs.zipIdx.all (fun ci => rxClean ci.1 && (bit row (40 + ci.2) || ci.1.data.toNat = bits row (8 * ci.2 + 7) (8 * ci.2)))

/-- The wake header rows that fit a channel's buffer so far: numbers 1 to 8. -/
def Dev.headerRows (d : Dev) (n : Nat) (cs : List RxChar) : List Nat :=
  match cs with
  | [] => []
  | x :: xs => ((List.range 8).map (· + 1)).filter (fun r => rxClean x && headerFits (d.get 0x2C20 r) n x.data.toNat xs)

/-- A character decided while the receiver runs from the keep-alive clock. -/
def Dev.wakeChar (d : Dev) (n : Nat) (c : RxChar) (edge : Nat) : Dev :=
  let s := d.serCh n
  if s.wakeHit.isSome then
    if 384 ≤ s.wakeBuf.length then d.serLose n
    else
      let (d, c) := d.serMark n c
      d.setSer n { d.serCh n with wakeBuf := s.wakeBuf ++ [(c, edge)] }
  else if d.serWake n = 3 then
    let a := d.get (0x3000 + n) 0x05
    if c.addr ∧ c.data.toNat &&& bits a 15 8 = bits a 7 0 &&& bits a 15 8 then
      d.setSer n { s with wakeBuf := [(c, edge)], wakeHit := some 0xFE }
    else d
  else
    let buf := if rxClean c ∧ isStart c.data.toNat then [(c, edge)]
      else if s.wakeBuf.isEmpty then [] else s.wakeBuf ++ [(c, edge)]
    let cs := buf.map Prod.fst
    let tag : Bool := match cs with | x :: _ => x.data == 0x5C | [] => true
    if tag then d.setSer n { s with wakeBuf := if buf.length ≤ 384 then buf else [] }
    else
      match d.headerRows n cs with
      | [] => d.setSer n { s with wakeBuf := [] }
      | r :: _ => d.setSer n { s with wakeBuf := buf, wakeHit := if buf.length = 6 then some r else none }

/-- SERIAL_HEADER_WAKE and SERIAL_ADDRESS_WAKE: the match of Wake 2, or of Wake 3, is given as a wake event (R289). -/
def Dev.serMatchWake (d : Dev) (n wake : Nat) : Dev :=
  let s := d.serCh n
  match s.wakeHit with
  | some r =>
    if s.ka ∧ !s.wakeTold ∧ d.serWake n = wake ∧ d.pw.st = .bivouac then
      (d.setSer n { s with wakeTold := true }).wakeEvent 0 0xA422 (r * 256 + n)
    else d
  | none => d

/-- SERIAL_START_EDGE_WAKE (R288). -/
def Dev.serEdgeWake (d : Dev) (n : Nat) : Dev :=
  if n < 192 ∧ d.serWake n = 1 ∧ d.serMode n ≠ 0 ∧ !(d.serCh n).stuck then d.wakeEvent 0 0xA422 (0xFF * 256 + n) else d

/-- The stamp of an instant counted back from now by the keep-alive ticks since it, 4.9152 MHz (R150, R290). -/
def Dev.stampBack (d : Dev) (edge : Nat) : Nat :=
  let ticks := (d.now - edge) * 6144 / 1000000
  d.stamp - ceilDiv (ticks * 15625 * d.pitch.rateN) (384 * d.pitch.rateD)

/-- The line became stuck: the item in progress in the parse context ends (R81, R274). -/
def Dev.endItem (d : Dev) (n : Nat) : Dev :=
  if d.serMode n ≠ 1 then d
  else
    let (x, es) := parseStuck (d.context n)
    (d.setContext n x).parseEvents n d.now es

/-- WAKE_BUFFER_HANDOVER: the receiver moves to the PORT clock and its buffer goes to the parse context (R290). -/
def Dev.wakeHandover (d : Dev) (n : Nat) : Dev :=
  let s := d.serCh n
  if !s.ka ∨ d.pw.st ≠ .service then d
  else
    let d := d.setSer n { s with ka := false, wakeBuf := [], wakeHit := none, wakeTold := false, wakeCuts := [] }
    let d := s.wakeBuf.zipIdx.foldl (fun d ce =>
      let d := if s.wakeCuts.contains ce.2 then d.endItem n else d
      match d.serMute n ce.1.1 with
      | (d, false) => d
      | (d, true) =>
        if d.serMode n = 1 then d.feedChar n ce.1.1 (d.stampBack ce.1.2) 2 d.now
        else if d.serMode n = 2 then d.serDeliver n ce.1.1 ce.1.2
        else d) d
    if s.wakeCuts.contains s.wakeBuf.length then d.endItem n else d

/-! ### SERIAL_CHAR_DECIDED -/

/-- Half duplex: whether a character whose start edge is given is delivered; the line's quiet time runs on otherwise
(R284). -/
def Dev.serUnblind (d : Dev) (n edge : Nat) : Dev × Bool :=
  let s := d.serCh n
  if !s.blind then (d, true)
  else if s.shift.isNone ∧ s.quiet + d.charCycles n 1 ≤ edge then (d.setSer n { s with blind := false }, true)
  else (d.setSer n { s with quiet := max s.quiet d.now }, false)

/-- After a decision the receiver applies a Baud write that waited (R275). -/
def Dev.rxRate (d : Dev) (n : Nat) : Dev :=
  let s := d.serCh n
  if s.rxPend then d.setSer n { s with rxPend := false, rxDiv := divisorOf (d.get (0x3000 + n) 0x02) } else d

/-- SERIAL_CHAR_DECIDED: the line's samples and the instant of the start edge (R271, R273). -/
def Dev.serDecided (d : Dev) (n : Nat) (samples : List Bool) (edge : Nat) : Dev :=
  let s := d.serCh n
  if s.stuck ∨ d.serLoop n = 1 ∨ d.serLoop n = 2 ∨ !(d.serRuns n || d.serKa n) then d
  else match serSampled (d.serFormat n) s.high samples with
  | none => d.setSer n { s with high := samples.getLastD s.high }
  | some (b, high) =>
    let d := (d.setSer n { s with high := high }).rxRate n
    match d.serUnblind n edge with
    | (d, false) => d
    | (d, true) =>
      match serOutcome (d.serFormat n) b with
      | none => d.count (0x3000 + n) 0x25
      | some c =>
        let d := d.serCount n c
        if s.ka then d.wakeChar n c edge else d.serDeliver n c edge

/-! ### Line stuck (R274) -/

/-- LINE_STUCK_ENTRY: RXD has been low for Stuck time since the given edge. -/
def Dev.lineStuck (d : Dev) (n edge : Nat) : Dev :=
  let s := d.serCh n
  if s.stuck ∨ !(d.serRuns n || d.serKa n) ∨ d.now < edge + d.get (0x3000 + n) 0x06 * msCycles then d
  else
    let buf := if s.wakeHit.isSome then s.wakeBuf else []
    let d := d.setSer n { s with stuck := true, high := false, wakeBuf := buf
                                 wakeCuts := if s.ka then s.wakeCuts ++ [buf.length] else s.wakeCuts }
    let d := d.closeRun n
    let d := if s.ka then d else d.endItem n
    (((d.serSticky n 2).count (0x3000 + n) 0x26)).raiseKa 0xA420 2 n

/-- Wake of a channel arms its receiver on the keep-alive clock (R288). -/
def Dev.armReceiver (d : Dev) (n : Nat) : Dev :=
  d.setSer n { d.serCh n with ka := true, wakeBuf := [], wakeHit := none, wakeTold := false, wakeCuts := [] }

/-- LINE_STUCK_EXIT: RXD has been high for one character time since the given edge. Wake is enabled again: in BIVOUAC a watch
channel with Wake 2 or 3 that the entry could not arm is armed (R274, R288). -/
def Dev.lineFree (d : Dev) (n edge : Nat) : Dev :=
  let s := d.serCh n
  if !s.stuck ∨ d.now < edge + d.rxTime n 1 then d
  else
    let d := d.setSer n { s with stuck := false, high := true }
    let d := if n < 16 ∧ d.pw.st = .bivouac ∧ d.pw.armed ∧ !s.ka ∧ (d.serWake n = 2 ∨ d.serWake n = 3) ∧ d.serMode n ≠ 0 then
        d.armReceiver n else d
    if !d.coreOn ∨ d.ser.any (fun kv => kv.2.stuck) then d else d.clearAlert 0xA420

/-! ### Transmission (R281 to R287) -/

/-- The next character to send: from the custody head, or from the RAW FIFO (R281, R285 to R287). -/
def Dev.serReady (d : Dev) (n : Nat) : Option (Byte × Bool) :=
  let s := d.serCh n
  if d.serMode n = 2 then
    if d.serLive n ∧ !bit (d.get (0x3000 + n) 0x0A) 3 then s.tx.head? else none
  else if d.serMode n = 1 ∧ s.waitUntil.isNone then
    match s.custody with
    | it :: _ => (it.chars.drop s.sent).head?
    | [] => none
  else none

/-- A free transmitter starts the next character when CTS allows (R275, R282, R283). -/
def Dev.serNext (d : Dev) (n : Nat) : Dev :=
  let s := d.serCh n
  if s.shift.isSome ∨ !d.serRuns n ∨ (d.serCtsEn n ∧ !d.ctsNow n) then d
  else
    match d.serReady n with
    | none => d
    | some ch =>
      let raw := d.serMode n = 2
      d.setSer n { s with
        shift := some ch, shiftRaw := raw, tx := if raw then s.tx.drop 1 else s.tx
        txPend := false, txDiv := if s.txPend then divisorOf (d.get (0x3000 + n) 0x02) else s.txDiv
        de := s.de || (d.serDeEn n && d.serDrives n), blind := s.blind || d.serHdx n }

/-- The head item of a channel is complete (R171). -/
def Dev.serItemDone (d : Dev) (n : Nat) : Dev :=
  let s := d.serCh n
  match s.custody with
  | it :: rest =>
    (d.setSer n { s with custody := rest, sent := 0, attempts := 0, waitUntil := none }).custodyDone n it.startNow 11
      (some it.deadline)
  | [] => d

/-- SERIAL_CHAR_SENT: the character in the shifter has ended; CTS_N as it stands (R281 to R283, R287, R420). -/
def Dev.serSent (d : Dev) (n : Nat) (cts : Bool) : Dev :=
  let s := d.serCh n
  match s.shift with
  | none => d
  | some ch =>
    let d := (d.setSer n { s with shift := none, txEnd := d.now, quiet := d.now }).ctsTold n cts
    let d := if d.serLive n then d.count (0x3000 + n) 0x28 else d
    let d := if d.serDrives n then d.emit (.serial n ch.1 ch.2) else d
    let d := if s.shiftRaw then d
      else
        let d := (d.setSer n { d.serCh n with sent := s.sent + 1 }).subOwed n 1
        match s.custody with
        | it :: _ => if it.chars.length ≤ s.sent + 1 then d.serItemDone n else d
        | [] => d
    let c : RxChar := { RxChar.plain ch.1 with addr := d.nineBit n && ch.2 }
    let d := if d.serLoop n = 1 ∨ d.serLoop n = 2 then (d.serCount n c).serDeliver n c (d.now - d.charCycles n 1) else d
    d.serNext n

/-- CTS_ASSERTED (R282). -/
def Dev.ctsAsserted (d : Dev) (n : Nat) : Dev := (d.ctsTold n true).serNext n

/-- DE_RELEASE: one bit time has passed since the last stop bit and no character has started (R283). -/
def Dev.deRelease (d : Dev) (n : Nat) : Dev :=
  let s := d.serCh n
  if s.de ∧ s.shift.isNone ∧ s.txEnd + ceilDiv s.txDiv 4 ≤ d.now then
    d.setSer n { s with de := false }
  else d

/-- The characters of an aborted item are owed again. -/
def Dev.serReowe (d : Dev) (n : Nat) : Dev :=
  let s := d.serCh n
  (d.setSer n { s with sent := 0 }).addOwed n s.sent

/-- An item leaves custody unsent (R285). -/
def Dev.custodyLoss (d : Dev) (n : Nat) (it : SerItem) (rest : List SerItem) : Dev :=
  let d := d.setSer n { d.serCh n with custody := rest, sent := 0, attempts := 0, waitUntil := none }
  (((d.subOwed n it.chars.length).serSticky n 5).count (0x3000 + n) 0x2A).raise 0xA421 2 (n * 2 ^ 24 + it.stream % 2 ^ 18)

/-- SERIAL_COLLISION: read-back mismatched, the transmission is aborted (R284 to R286). -/
def Dev.serCollision (d : Dev) (n : Nat) : Dev :=
  let s := d.serCh n
  if s.shift.isNone ∨ !d.serHdx n then d
  else
    let d := d.setSer n { s with shift := none, de := false, txEnd := d.now, quiet := d.now, coll := s.coll + 1 }
    let d := (d.serSticky n 3).count (0x3000 + n) 0x29
    let d := d.raiseFrom 0xA424 1 (decide (4 ≤ s.coll + 1)) (countDetail n)
    if s.shiftRaw then d
    else
      match s.custody with
      | [] => d
      | it :: rest =>
        let d := d.serReowe n
        let r := s.attempts + 1
        if 4 ≤ r then (d.custodyLoss n it rest).serNext n
        else
          let wait := d.charCycles n (1 + (it.digest >>> (4 * r)) % 16)
          d.setSer n { d.serCh n with attempts := r, waitUntil := some (d.now + wait) }

/-- COLLISION_RETRY_TIMER: the wait is over and the line idle; the item starts again (R285). -/
def Dev.retryTimer (d : Dev) (n : Nat) (cts : Bool) : Dev :=
  let s := d.serCh n
  match s.waitUntil with
  | some w => if w ≤ d.now then ((d.setSer n { s with waitUntil := none }).ctsTold n cts).serNext n else d
  | none => d

/-- An item enters the custody of a serial channel (R65, R281). -/
def Dev.serHand (d : Dev) (n : Nat) (it : SerItem) (cts : Bool) : Dev :=
  let s := d.serCh n
  ((d.setSer n { s with custody := s.custody ++ [it] }).ctsTold n cts).serNext n

/-- Takeover and other restarts: the item in progress is sent again from its first character (R197). -/
def Dev.serRestart (d : Dev) (n : Nat) : Dev :=
  let s := d.serCh n
  let d := if s.shiftRaw then d else d.serReowe n
  let s := d.serCh n
  (d.setSer n { s with shift := none, attempts := 0, waitUntil := none }).serNext n

/-! ### RAW access and line settings (R275, R279, R286) -/

/-- BAUD_WRITE: the new divisor awaits the transmitter's next start bit and the receiver's character (R275). -/
def Dev.baudSet (d : Dev) (n baud : Nat) (rxBusy : Bool) : Dev :=
  let s := d.serCh n
  (d.setSer n { s with txPend := true, rxPend := rxBusy, rxDiv := if rxBusy then s.rxDiv else divisorOf baud }).put
    (0x3000 + n) 0x02 baud

/-- A write of Mode: a channel set to OFF stops, its DE low (R266). -/
def Dev.serModeSet (d : Dev) (n v : Nat) : Dev :=
  let d := d.put (0x3000 + n) 0x01 v
  if v = 0 then d.setSer n { d.serCh n with shift := none, de := false, waitUntil := none } else d

/-- RX status (R279). -/
def Dev.rxStatus (d : Dev) (n : Nat) : Nat :=
  if d.serMode n ≠ 2 then 0
  else
    let s := d.serCh n
    let un := bit (d.get (0x3000 + n) 0x0A) 0
    match s.rx with
    | [] => 128 * b2n un
    | c :: _ =>
      2 ^ 15 + 2 ^ 11 * b2n c.brk + 2 ^ 10 * b2n c.framing + 2 ^ 9 * b2n c.parity + 2 ^ 8 * b2n c.overrun + 128 * b2n un
        + s.rx.length

/-- RX_STATUS_READ. -/
def Dev.rxStatusRead (d : Dev) (tr : Transport) (n : Nat) : Dev × Nat :=
  (d.setSer n { d.serCh n with statusRead := (d.serCh n).statusRead.set tr true }, d.rxStatus n)

/-- RX_DATA_READ: the head is popped; its flags are reported or UNREPORTED is set (R279, R280). -/
def Dev.rxDataRead (d : Dev) (tr : Transport) (n : Nat) : Dev × Nat :=
  let s := d.serCh n
  let told := s.statusRead.get tr
  let d := d.setSer n { s with statusRead := s.statusRead.set tr false }
  if d.serMode n ≠ 2 ∨ (d.tunnelIn false n 0).isSome then (d, 0)
  else
    match s.rx with
    | [] => (d, 0)
    | c :: rest =>
      let d := (d.setSer n { d.serCh n with rx := rest }).rtsUpdate n
      let d := if !told && (c.framing || c.parity || c.brk || c.overrun) then d.serSticky n 0 else d
      (d, 2 ^ 15 + 256 * b2n (c.addr && d.nineBit n) + c.data.toNat)

/-- A write tells the level of CTS_N where its initiator's command gives it. -/
def Dev.ctsFrom (d : Dev) (n : Nat) (cts : Option Bool) : Dev := match cts with | some c => d.ctsTold n c | none => d

/-- TX_DATA_WRITE of a character that the format admits (R286). -/
def Dev.txWrite (d : Dev) (n v : Nat) (cts : Option Bool) : Dev :=
  let s := d.serCh n
  if d.serMode n ≠ 2 then d
  else if 64 ≤ s.tx.length then d.serSticky n 4
  else ((d.setSer n { s with tx := s.tx ++ [(BitVec.ofNat 8 v, bit v 8)] }).ctsFrom n cts).serNext n

/-- A TX data value fits the character width (R286). -/
def Dev.txFits (d : Dev) (n v : Nat) : Bool :=
  if bits (d.serFormat n) 6 5 = 0 then v < 128 else if d.nineBit n then v < 512 else v < 256

/-- A character is in the receive shifter: never while the receiver is stopped, stuck or, in half duplex, for the channel's own
characters; the character in the transmit shifter under loops 1 and 2; one for which a Baud write waits (R275); else not known to
the model (log entry 50). -/
def Dev.rxBusy (d : Dev) (n : Nat) : Bool :=
  let s := d.serCh n
  if s.stuck || !d.serRuns n then false
  else if d.serLoop n = 1 ∨ d.serLoop n = 2 then s.shift.isSome
  else s.rxPend || Config.rxBusy n d.now

/-- Line status (R291). -/
def Dev.lineStatus (d : Dev) (n : Nat) : Nat :=
  let s := d.serCh n
  let muted := s.muted && d.nineBit n && bit (d.get (0x3000 + n) 0x05) 16
  256 * b2n (d.serMode n = 1 && !d.serLive n) + 128 * b2n (s.txPend || s.rxPend) + 64 * b2n muted + 32 * b2n s.stuck
    + 16 * b2n (s.de && d.serDeEn n) + 8 * b2n (decide (n < 64) && d.ctsNow n) + 4 * b2n (d.serRts n) + 2 * b2n s.shift.isSome + b2n (d.rxBusy n)

/-- A transmitter stopped or started by a change of role or sticky status may start (R286, R287). -/
def Dev.serStartAll (d : Dev) : Dev := (d.ser.map Prod.fst).foldl (fun d n => d.serNext n) d

end Sys2Proof.Machine
end

