-- ==== Sys2Proof/Machine/Can.lean ====
section
/-! DEFINITION. The CAN channels: reception, transmission, faults (chapter CAN channels and edge-network sleep, R294 to
R305, R309 to R313), CAN tunnel runs (R334) and CAN loops (R421). -/

namespace Sys2Proof.Machine

/-! ### Completion and loss of custody items (R171, R303) -/

/-- The first frame of a channel's custody is complete. -/
def Dev.canFrameDone (d : Dev) (n : Nat) : Dev :=
  let c := d.canCh n
  match c.custody with
  | [] => d
  | it :: rest =>
    let d := d.subOwed (192 + n) 1
    if it.frames.length ≤ 1 then
      (d.setCan n { c with custody := rest }).custodyDone (192 + n) it.startNow 12 (some it.deadline)
    else d.setCan n { c with custody := { it with frames := it.frames.drop 1 } :: rest }

/-- Every item leaves custody unsent (R303): the channel and the number of items lost. -/
def Dev.canCustodyLoss (d : Dev) (n : Nat) : Dev × Nat :=
  let c := d.canCh n
  let d := d.setCan n { c with custody := [], tx := none }
  (c.custody.foldl (fun d it =>
    (((d.subOwed (192 + n) it.frames.length).sticky (0x3100 + n) 0x07 0x40).count (0x3100 + n) 0x2A).raise 0xA433 2
      (n * 2 ^ 28 + it.stream % 2 ^ 18)) d, c.custody.length)

/-! ### Error counts (R304, R305, R311) -/

/-- Set the error counts of a channel; entering and leaving error passive are reported (R304, R305, R313). A frame that is yet
to be sent again carries the error state of its retransmission in ESI (R300, R301). -/
def Dev.canCounts (d : Dev) (n tec rec : Nat) : Dev :=
  let was := (d.canCh n).passive
  let c : CanCh := { d.canCh n with txErr := tec, rxErr := rec }
  let d := d.setCan n { c with tx := c.tx.map (fun qf => (qf.1, { qf.2 with esi := qf.2.fdf && c.passive })) }
  let is := (d.canCh n).passive
  if !was && is then
    (d.sticky (0x3100 + n) 0x07 0x04).raise 0xA434 1 (sat 255 tec * 2 ^ 24 + sat 255 rec * 2 ^ 16 + n)
  else if was && !is && !(List.range 16).any (fun m => (d.canCh m).passive) then d.clearAlert 0xA434
  else d

/-- Bus-off entry (R303, R304). -/
def Dev.canBusOff (d : Dev) (n : Nat) : Dev :=
  let auto := bit (d.get (0x3100 + n) 0x04) 1
  let (d, lost) := d.canCustodyLoss n
  let d := d.setCan n { d.canCh n with busOff := true, recovering := auto, sync := false }
  ((d.sticky (0x3100 + n) 0x07 0x08).count (0x3100 + n) 0x25).raise 0xA430 2 (sat 0xFFFF lost * 2 ^ 16 + n)

/-- The event is an error that the controller detects, rather than what follows one. -/
def faultIsError : CanFault → Bool
  | .dominantAfterFlag | .dominantRun => false
  | .error | .ackPassive | .stuffArbitration | .flagBit => true

/-- The transmit and receive error counts after an event, at a transmitter or a receiver, by the error confinement of
ISO 11898-1. PRESUMED (log entry 77): the standard's rules, which R294 names. A controller that has nothing to send takes no transmit error (R304). -/
def faultCounts (e : CanFault) (asTx sends : Bool) (tec rec : Nat) : Nat × Nat :=
  let tx := (if sends then sat 256 (tec + 8) else tec, rec)
  let rx (k : Nat) := (tec, sat 255 (rec + k))
  match e with
  | .error => if asTx then tx else rx 1
  | .dominantAfterFlag => if asTx then (tec, rec) else rx 8
  | .ackPassive | .stuffArbitration => if asTx then (tec, rec) else rx 1
  | .flagBit | .dominantRun => if asTx then tx else rx 8

/-- CAN_ERROR: an event of the error confinement moves the error counts on; in selective listen they are frozen (R304, R311). -/
def Dev.canError (d : Dev) (n : Nat) (asTx : Bool) (e : CanFault) : Dev :=
  let c := d.canCh n
  if !d.canOnBus n then d
  else if c.sleep == .agreed then (if faultIsError e then d.count (0x3100 + n) 0x2B else d)
  else
    let k := faultCounts e asTx c.tx.isSome c.txErr c.rxErr
    let d := (if faultIsError e then d.count (0x3100 + n) 0x24 else d).canCounts n k.1 k.2
    if 255 < k.1 then d.canBusOff n else d

/-- TX_DOMINANT_TIMEOUT (R304). -/
def Dev.txDominant (d : Dev) (n : Nat) : Dev :=
  if !d.canOnBus n then d
  else ((((d.sticky (0x3100 + n) 0x07 0x20).count (0x3100 + n) 0x27).raise 0xA432 2 n)).canBusOff n

/-- CAN_STUCK_DOMINANT: RXD has been dominant for Stuck time since the given edge (R304). -/
def Dev.canStuck (d : Dev) (n edge : Nat) : Dev :=
  let c := d.canCh n
  if c.stuck ∨ !d.canPowered n ∨ d.now < edge + d.get (0x3100 + n) 0x05 * msCycles then d
  else
    let (d, lost) := d.canCustodyLoss n
    let d := d.setCan n { d.canCh n with stuck := true, sync := false }
    ((d.sticky (0x3100 + n) 0x07 0x10).count (0x3100 + n) 0x26).raise 0xA431 2 (sat 0xFFFF lost * 2 ^ 16 + n)

/-- CAN_STUCK_CLEAR: RXD has been recessive for 11 nominal bit times since the given edge (R304). -/
def Dev.canFree (d : Dev) (n edge : Nat) : Dev :=
  let c := d.canCh n
  if !c.stuck ∨ d.ps < edge * 1250 + 11 * bitPs (d.get (0x3100 + n) 0x02) then d
  else
    let d := d.setCan n { c with stuck := false }
    if (List.range 16).any (fun m => (d.canCh m).stuck) then d else d.clearAlert 0xA431

/-- RECOVERY_REQUEST: a write of 1 starts recovery when AUTO_REC is 0 (R295). -/
def Dev.recoveryRequest (d : Dev) (n : Nat) : Dev :=
  let c := d.canCh n
  if c.busOff ∧ !bit (d.get (0x3100 + n) 0x04) 1 then d.setCan n { c with recovering := true } else d

/-- BUS_OFF_RECOVERY_COMPLETE (R304). -/
def Dev.recoveryDone (d : Dev) (n : Nat) : Dev :=
  let c := d.canCh n
  if c.busOff ∧ c.recovering then
    let d := (d.setCan n { c with busOff := false, recovering := false, sync := true }).canCounts n 0 0
    let d := if (List.range 16).any (fun m => (d.canCh m).busOff) then d else d.clearAlert 0xA430
    d.canNext n
  else d

/-- CAN_BUS_INTEGRATION (R304). -/
def Dev.canIntegrate (d : Dev) (n : Nat) : Dev :=
  let c := d.canCh n
  if d.canRuns n ∧ !c.sync ∧ !c.busOff then (d.setCan n { c with sync := true }).canNext n else d

/-! ### Reception (R297 to R299, R302, R306, R310 to R312) -/

/-- A successful reception lowers the receive error count by 1; one above 127 takes a value from 119 to 127 that the
controller chooses. -/
def Dev.canRxGood (d : Dev) (n : Nat) : Dev :=
  let c := d.canCh n
  if c.sleep == .agreed ∨ c.rxErr = 0 then d
  else if c.rxErr < 128 then d.canCounts n c.txErr (c.rxErr - 1)
  else let (v, d) := d.fresh; d.canCounts n c.txErr (119 + v % 9)

/-- The head frame of a shadow's custody was seen on the bus: it counts as sent (R302). -/
def Dev.canShadow (d : Dev) (n : Nat) (f : CanFrame) : Dev :=
  if d.leads then d
  else
    match (d.canCh n).custody.head?.bind (fun i => i.frames.head?) with
    | some h => if { h with esi := f.esi } = f then d.canFrameDone n else d
    | none => d

/-- The frame is an NM message of the channel (R306). -/
def Dev.isNm (d : Dev) (n : Nat) (f : CanFrame) : Bool :=
  let lo := d.nm n 0x04
  let hi := d.nm n 0x05
  bit lo 30 && bit lo 31 == f.ide && decide (lo % 2 ^ 29 ≤ f.ident) && decide (f.ident ≤ hi % 2 ^ 29)

/-- The NM message asks to stay awake; its source node byte (R306). -/
def Dev.nmAwake (d : Dev) (n : Nat) (f : CanFrame) : Option Nat :=
  let l := d.nm n 0x06
  let src := bits l 23 16
  let aw := bits l 15 8
  let asks := bits l 7 0 = 0 ∨ (aw < f.data.length ∧ (beAt f.data aw 1) &&& bits l 7 0 ≠ 0)
  if asks ∧ (aw < f.data.length ∨ bits l 7 0 = 0) then some (if src < f.data.length then beAt f.data src 1 else 0xFF) else none

/-- A filter row matches a frame (R298). -/
def filterFits (r : List Word32) (f : CanFrame) : Bool :=
  flagOf r 0 31 && (fieldOf r 0 29 28 = 2 || (fieldOf r 0 29 28 = 1) == f.ide)
    && (fieldOf r 0 27 26 = 2 || (fieldOf r 0 27 26 = 1) == f.fdf)
    && (f.ident ^^^ fieldOf r 1 28 0) &&& fieldOf r 2 28 0 = 0

/-- The filters of a channel that match a frame, ascending. -/
def Dev.canFilters (d : Dev) (n : Nat) (f : CanFrame) : List (List Word32) :=
  ((List.range 64).map (fun i => d.row .filter (64 * n + i))).filter (fun r => filterFits r f)

/-- The item of a matched frame (R49, R87, R95, R115). -/
def Dev.canItem (d : Dev) (n : Nat) (row : List Word32) (f : CanFrame) (sof : Nat) : Item :=
  let bytes := canLayout f
  { src := 192 + n, kind := 2, form := .can, parts := [{ bytes := bytes, digest := crc64 bytes }], stamp := d.stampAt sof
    origin := d.stampAt sof, tLast := d.now, sel := fieldOf row 0 5 0, quality := d.qualityAt sof
    fp := flagOf row 0 30 && !f.fdf && f.data.length = 8 }

/-- A matched frame becomes a run of a tunnel channel, or enters the parse context, or is lost (R299, R334). -/
def Dev.canMatched (d : Dev) (n : Nat) (row : List Word32) (f : CanFrame) (sof : Nat) : Dev :=
  match d.tunnelIn true n (fieldOf row 0 5 0) with
  | some (t, _) => d.cutRun (192 + n) t (if f.fdf then 2 else 1) (d.stampAt sof) (d.qualityAt sof) (canLayout f)
  | none =>
    if 2 ≤ d.itemsWaiting (192 + n) then
      ((d.count (0x3100 + n) 0x22).sticky (0x3100 + n) 0x07 0x01).malformedItem 1 (192 + n) (d.stampAt sof)
    else d.toLane (d.canItem n row f sof)

/-- An SDO or alert identifier of this unit on its SDO channel (R34, R297). -/
def Dev.isSdo (d : Dev) (n : Nat) (f : CanFrame) : Bool :=
  d.sdoChannel == some n && !f.ide && !f.rtr && (f.ident = 0x600 + d.sdoNode || f.ident = 0x580 + d.sdoNode)

/-- A received frame past the SDO server: NM, filters, wake events, items. A remote frame can match a filter, and so wake or be
valid communication, but is no NM message and no item (R294, R297, R310, R312). -/
def Dev.canData (d : Dev) (n : Nat) (f : CanFrame) (sof : Nat) : Dev :=
  let nm := d.isNm n f && !f.rtr
  let awake := if nm then d.nmAwake n f else none
  let rows := d.canFilters n f
  let wakes := rows.any (fun r => flagOf r 3 0)
  let asleep := (d.canCh n).sleep == .agreed
  let d := match awake with | some s => d.awakeRequest n s | none => d
  let d := if asleep ∧ (awake.isSome ∨ wakes) then (d.wakeCan n).canNext n else d
  let d := if nm ∨ !rows.isEmpty then d.validComm n else d
  if f.rtr then d
  else match rows with
  | [] => d.count (0x3100 + n) 0x21
  | r :: _ => if asleep ∧ !nm ∧ !wakes then d else d.canMatched n r f sof

/-- A protocol exception: the controller waits for bus idle, and what it was to send with it (R297). -/
def Dev.canException (d : Dev) (n : Nat) : Dev := d.setCan n { d.canCh n with sync := false, tx := none }

/-- The controller takes an error-free frame, with its start of frame. -/
def Dev.canReceive (d : Dev) (n : Nat) (f : CanFrame) (sof : Nat) : Dev :=
  if !d.canOnBus n then d
  else if f.fdf ∧ d.canMode n = 2 then ((d.count (0x3100 + n) 0x28).sticky (0x3100 + n) 0x07 0x02).canException n
  else
    let d := (d.count (0x3100 + n) 0x20).canRxGood n
    let d := d.canShadow n f
    if d.isSdo n f then d else d.canData n f sof

/-- CAN_FRAME_RECEIVED: a frame on RXD; under loop 1 the controller takes its own stream in place of RXD (R421). -/
def Dev.canHeard (d : Dev) (n : Nat) (f : CanFrame) (sof : Nat) : Dev :=
  if d.canLoop n = 1 then d else d.canReceive n f sof

/-- The frame that leaves on TXD; under loop 1 TXD is held recessive (R421). -/
def Dev.canDrive (d : Dev) (n : Nat) (f : CanFrame) : Dev := if d.canLoop n = 1 then d else d.emit (.can n f)

/-! ### Transmission (R300 to R302, R421) -/

/-- The frame in transmission leaves its queue. -/
def Dev.canDequeue (d : Dev) (n : Nat) (q : CanQueue) : Dev :=
  let c := d.canCh n
  match q with
  | .prio => d.setCan n { c with prio := c.prio.drop 1 }
  | .tunnel => d.setCan n { c with tunnel := c.tunnel.drop 1 }
  | .custody => d.canFrameDone n

/-- A frame was sent without error: the transmit error count falls by 1, but in selective listen (R311). -/
def Dev.canTxGood (d : Dev) (n : Nat) : Dev :=
  let c := d.canCh n
  if c.sleep == .agreed then d else d.canCounts n (c.txErr - 1) c.rxErr

/-- CAN_FRAME_SENT: the frame in transmission is complete. -/
def Dev.canSent (d : Dev) (n : Nat) : Dev :=
  let c := d.canCh n
  match c.tx with
  | none => d
  | some (q, f) =>
    let d := d.setCan n { c with tx := none }
    let d := d.canDequeue n q
    let d := if d.canIdle n then d
      else ((d.count (0x3100 + n) 0x23).canDrive n f).canTxGood n
    let d := if d.canLoop n = 1 ∨ d.canLoop n = 2 then d.canReceive n f (d.now - ceilDiv (d.canPs n [f]) 1250) else d
    d.canNext n

/-- An item enters the custody of a CAN channel (R65, R300). -/
def Dev.canHand (d : Dev) (n : Nat) (it : CanItem) : Dev :=
  let c := d.canCh n
  (d.setCan n { c with custody := c.custody ++ [it] }).canNext n

/-- A frame in transmission is withdrawn, as when the unit stops sending; its queue keeps it. -/
def Dev.canWithdraw (d : Dev) (n : Nat) : Dev := d.setCan n { d.canCh n with tx := none }

/-- CAN_WAKE_INPUT: a falling edge on C_WAKE_N (R309, R310). -/
def Dev.canWakeInput (d : Dev) (n : Nat) : Dev :=
  let c := d.canCh n
  let en := d.nm n 0x0B ≠ 0
  if d.pw.st = .bivouac then
    if en ∧ d.pw.armed ∧ !c.stuckThen then (d.setCan n { c with woke := true }).wakeEvent 1 0xA435 n else d
  else if !d.canPowered n then d
  else if d.inWindow n ∨ ((c.sleep == .asleep ∨ c.sleep == .committed) ∧ en) then d.wakeCan n
  else d

/-- Status of a channel (R305). -/
def Dev.canStatus (d : Dev) (n : Nat) : Nat :=
  let c := d.canCh n
  let agreed := c.sleep == .agreed
  let shadow := d.canMode n ≠ 0 && (d.team.role == .standby || d.team.role == .darning || d.team.role == .isolated)
  sat 255 c.txErr * 2 ^ 24 + sat 255 c.rxErr * 2 ^ 16 + 256 * b2n shadow + 128 * b2n agreed
    + 64 * b2n (d.canMode n ≠ 0 && ((!d.leads && d.sdoChannel != some n) || d.canIdle n)) + 32 * b2n c.stuck
    + 16 * b2n c.busOff + 8 * b2n c.passive + 4 * b2n (decide (96 ≤ c.txErr) || decide (96 ≤ c.rxErr))
    + 2 * b2n c.tx.isSome + b2n (d.canOnBus n)

/-- Level of C_STB_N: high while the transceiver is normal (R190, R295, R307, R309, R421). -/
def Dev.stbN (d : Dev) (n : Nat) : Bool :=
  d.inService && d.canPowered n && !((d.canCh n).sleep == .committed || (d.canCh n).sleep == .asleep)
    && !(d.team.role == .none || d.team.role == .hold)

/-- Every controller that is free starts what it may. -/
def Dev.canStartAll (d : Dev) : Dev := (List.range 16).foldl (fun d n => d.canNext n) d

end Sys2Proof.Machine
end

