-- ==== Sys2Proof/Machine/Team.lean ====
section
/-! DEFINITION. The rope team: roles and the outputs they drive, paths, the takeover decision, claims, takeover, pairing,
discrete outputs and mode changes (chapter Rope team roles and failover; R14, R225 to R227, R419, R442). -/

namespace Sys2Proof.Machine

/-! ### Discrete outputs (R198 to R200) -/

/-- A serial loop of depth 3 is set (R419). -/
def Loops.depth3 (l : Loops) : Bool :=
  (List.range 192).any (fun n => bits (l.serial.getD (n / 16) 0) (2 * (n % 16) + 1) (2 * (n % 16)) = 3)

/-- The pulse machinery of a discrete output. -/
def Dev.disc (d : Dev) (n : Nat) : Discrete := SMap.get (fun _ => ({} : Discrete)) d.discrete n
def Dev.setDisc (d : Dev) (n : Nat) (x : Discrete) : Dev :=
  { d with discrete := SMap.set (fun _ => ({} : Discrete)) d.discrete n x }

/-- Every pulse ends at once: the outputs are released or held low (R190, R352). -/
def Dev.cutPulses (d : Dev) : Dev := { d with discrete := [] }

/-- Start a pulse on D_SET (1) or D_CLR (0): a unit that leads, with no loop in force (R190, R199, R419). -/
def Dev.startPulse (d : Dev) (n v : Nat) : Dev :=
  if !d.leads || d.loops.any then d
  else
    let until_ := d.now + d.get (0x3300 + n) 0x02 * msCycles
    let d := d.setDisc n { pulse := some (v = 1, until_) }
    (d.count (0x3300 + n) 0x04).emit (.pulse n (v = 1))

/-- A pulse starts now, or is held while another runs; a later write replaces a held one (R199). -/
def Dev.pulseOrHold (d : Dev) (n v : Nat) : Dev :=
  let x := d.disc n
  if x.pulse.isSome || x.held.isSome then d.setDisc n { x with held := some (v = 1) } else d.startPulse n v

/-- DISCRETE_STATE_WRITE: State takes the value, Confirmation becomes 0, one pulse starts or is held (R199). -/
def Dev.discreteWrite (d : Dev) (n v : Nat) : Dev :=
  ((d.put (0x3300 + n) 0x01 v).put (0x3300 + n) 0x03 0).pulseOrHold n v

/-- DISCRETE_PULSE_END: the pulse has run its width; a held write may start 2 ms later (R199). -/
def Dev.pulseEnd (d : Dev) (n : Nat) : Dev :=
  let x := d.disc n
  match x.pulse with
  | some (_, e) => if e ≤ d.now then d.setDisc n { x with pulse := none, ready := if x.held.isSome then d.now + 2 * msCycles else 0 } else d
  | none => d

/-- HELD_PULSE_START (R199). -/
def Dev.heldStart (d : Dev) (n : Nat) : Dev :=
  let x := d.disc n
  match x.held with
  | some v => if x.pulse.isNone ∧ x.ready ≤ d.now then (d.setDisc n {}).startPulse n (b2n v) else d
  | none => d

/-- After a warm takeover every output is pulsed to its mirrored State; after a cold one and a boot every Confirmation is
1 and no pulse starts (R200). -/
def Dev.reassert (d : Dev) (warm : Bool) : Dev :=
  (List.range 16).foldl (fun (d : Dev) n =>
    if warm then (d.put (0x3300 + n) 0x03 0).startPulse n (d.get (0x3300 + n) 0x01)
    else d.put (0x3300 + n) 0x03 1) d

/-! ### Roles and outputs (R189, R190, R419) -/

/-- Withdraw the frame that a CAN controller transmits for its unit, as the unit stops leading. -/
def Dev.canYield (d : Dev) (n : Nat) : Dev :=
  match (d.canCh n).tx with
  | some (.prio, _) => d
  | some _ => d.canWithdraw n
  | none => d

/-- The unit stops driving its lines: pulses end, serial drivers close, CAN controllers listen only, and in HOLD release every
frame (R185, R190). -/
def Dev.releaseLines (d : Dev) (hold : Bool) : Dev :=
  let d := (d.ser.map Prod.fst).foldl (fun (d : Dev) n => d.setSer n { d.serCh n with de := false }) d.cutPulses
  (d.can.map Prod.fst).foldl (fun (d : Dev) n => if hold then d.canWithdraw n else d.canYield n) d

/-- Take a role with the outputs that R190 gives it; loops in force limit them (R419). -/
def Dev.setRole (d : Dev) (r : Role) : Dev :=
  let drives := r == .active || r == .solo
  let idle := r == .none || r == .hold
  let d := { d with team := { d.team with
    role := r, claimOut := r == .active, serOwn := if d.loops.any then d.loops.depth3 && r == .solo else drives
    aliveOut := d.team.aliveOut && !idle } }
  if drives then d else d.releaseLines (r == .hold)

/-- A plan with nothing admitted. -/
def Plan.empty (p : Plan) : Plan := { leg := p.leg, start := p.start }

/-- What an item that is not handed over any more was charged to a listener: OUTSTANDING goes down by it (R170). -/
def Dev.unowe (d : Dev) (it : PlanItem) (l : Nat) : Dev :=
  d.subOwed l (if l < 192 then ((it.chars.find? (fun c => c.1 = l)).map (fun c => c.2.length)).getD 0
    else if l < 208 then (canFrames it.item it.seq).length else it.item.parts.length)

/-- Every plan is dropped; what its items were charged and had not handed over is owed no longer. -/
def Dev.clearPlans (d : Dev) : Dev :=
  let d := (d.plansSent ++ [d.plan]).foldl (fun (d : Dev) pl =>
    pl.items.foldl (fun (d : Dev) i => (maskList i.hand).foldl (fun (d : Dev) l => d.unowe i l) d) d) d
  { d with older := [], previous := d.previous.empty, sending := d.sending.empty, plan := d.plan.empty }

/-- The unit drops its shadow plans and the records it holds; unmatched copies stay until the rinse (R195). -/
def Dev.clearShadow (d : Dev) : Dev :=
  let d := d.clearPlans
  { d with
    mirror := { d.mirror with recv := [], expect := [], run := [], pieces := [], requested := [], cairnCheck := none
                              ackFrom := none, darnLegL := none, cairnDue := none } }

/-- The sending side of mirroring ends with the team: no delta is owed, writes of M entries are complete (R209, R213). -/
def Dev.mirrorEnd (d : Dev) : Dev :=
  let d := { d with mirror := { d.mirror with
    deltas := [], darning := false, darnNow := none, darnQueue := [], darnPieces := [], darnWait := [], darnLegL := none
    darnOwed := false, peerHeld := [], cairnOwed := none, auditDue := false } }
  (d.completeWrites true).put 0x2604 0x01 0

/-- The CAN custody of a unit that leaves its active's plans: its items are the active's no more (R302). -/
def Dev.dropCustody (d : Dev) : Dev :=
  (d.can.map Prod.fst).foldl (fun (d : Dev) n =>
    let c := d.canCh n
    let d := c.custody.foldl (fun (d : Dev) it => d.subOwed (192 + n) it.frames.length) d
    d.setCan n { d.canCh n with custody := [], tx := if (c.tx.map Prod.fst) = some .custody then none else c.tx }) d

/-- Role ISOLATED: no acknowledgement, no twin sending, no admission record held (R190, R195). -/
def Dev.isolate (d : Dev) : Dev :=
  let d := (d.mirrorEnd.clearShadow.setRole .isolated).dropQueued.dropCustody
  { d with team := { d.team with degraded := false, formed := false } }

/-- The team status word (R189). -/
def Dev.teamStatus (d : Dev) : Nat :=
  let t := d.team
  2 ^ 15 * b2n t.refused + 2 ^ 12 * t.reason + 2 ^ 11 * b2n t.rope + 2 ^ 10 * b2n t.alive + 2 ^ 9 * b2n t.claimIn
    + 2 ^ 8 * b2n t.backbone + 2 ^ 7 * b2n t.serOwn + 2 ^ 6 * b2n t.claimOut + 2 ^ 5 * b2n t.posB + 2 ^ 4 * b2n t.degraded
    + 2 ^ 3 * b2n t.wiring + 2 ^ 2 * b2n t.aliveFault

/-- Detail of 0xA307 (R206). -/
def Dev.absentDetail (d : Dev) : Nat := 2 * b2n (!d.team.rope) + b2n (!d.team.alive)

/-- A new series of HELLOs, and with it a new rope session (R183, R382). -/
def Dev.newSeries (d : Dev) : Dev := d.endSession.sendHello

/-- The active runs degraded: the team is no longer formed, every open hold is released (R14, R192, R213). -/
def Dev.degrade (d : Dev) : Dev :=
  let d := { d with team := { d.team with degraded := true, formed := false } }
  d.mirrorEnd.releaseHolds

/-- The active runs degraded for want of its partner: 0xA307 (R184, R192). -/
def Dev.runDegraded (d : Dev) : Dev := d.degrade.raise 0xA307 1 d.absentDetail

/-! ### Takeover (R191, R196, R197, R200, R225 to R227) -/

/-- A record's bytes with another sequence number: formats 1 and 2 carry it at offset 4 (R255, R259). -/
def FrameRec.reseq (r : FrameRec) (format q : Nat) : FrameRec :=
  if format = 0 then r else { r with bytes := patch r.bytes 4 (be 4 (q + r.part)) }

/-- Give an item of a plan another sequence number. -/
def Plan.reseq (pl : Plan) (index q : Nat) : Plan :=
  { pl with
    items := pl.items.map (fun i => if i.index = index then { i with seq := q } else i)
    frames := pl.frames.map (fun f =>
      { f with recs := f.recs.map (fun r => if r.index = index then r.reseq f.format q else r) }) }

/-- Number the records of a plan anew, in admission order (R227). -/
def Dev.renumber (d : Dev) (pl : Plan) : Dev × Plan :=
  pl.items.foldl (fun (a : Dev × Plan) i =>
    let q := a.1.seqOf i.stream
    (a.1.setSeq i.stream (q + i.item.parts.length), a.2.reseq i.index q)) (d, pl)

/-- A new generation, written to the logbook before anything leaves under it (R225). -/
def Dev.newGeneration (d : Dev) : Dev := d.adoptGeneration (d.log.generation + 1)

/-- What a cold takeover and a cold start begin with: a new generation, sequence numbers from 0, empty last values, NONE
in every group, the held records of the failure leg and later numbered anew (R191, R227). -/
def Dev.coldClear (d : Dev) (fail : Nat) : Dev :=
  let d := { d.newGeneration with seqs := [], slots := [] }
  let d := (d.sels.map Prod.fst).foldl (fun (d : Dev) g => d.setSel g (d.sel g).applied) d
  let a := if fail ≤ d.previous.leg then d.renumber d.previous else (d, d.previous)
  let b := a.1.renumber d.sending
  let c := b.1.renumber d.plan
  { c.1 with previous := a.2, sending := b.2, plan := c.2 }

/-- Host rings of an item's listeners (R328). -/
def ringMask (i : PlanItem) : Nat := i.eset / 2 ^ 272 * 2 ^ 272

/-- A standby writes no receive descriptor; at a takeover its held items of the failure leg and later are owed to their rings, and
what the failed unit wrote before is not (R19, R196, R328). Their datagrams are built anew (R254). -/
def Plan.oweRings (fail : Nat) (p : Plan) : Plan :=
  if fail ≤ p.leg then { p with items := p.items.map (fun i => { i with hand := i.hand ||| ringMask i }), built := [] }
  else { p with items := p.items.map (fun i => { i with hand := i.hand % 2 ^ 272 }) }

/-- The descriptors that the items of a plan owe. -/
def Dev.ringOwed (d : Dev) (p : Plan) : Dev :=
  p.items.foldl (fun (d : Dev) i => (maskList (i.hand / 2 ^ 272 * 2 ^ 272)).foldl (fun (d : Dev) l =>
    d.addOwed l (i.item.without i.skip).parts.length) d) d

/-- The plans that a takeover owes to the rings: those of the failure leg and later (R19, R196). -/
def Dev.ringsTake (d : Dev) (fail : Nat) : Dev :=
  let d := d.mapPlans (Plan.oweRings fail)
  (d.plansSent ++ [d.plan]).foldl (fun (d : Dev) p => d.ringOwed p) d

/-- Records of a plan that this unit holds. -/
def Plan.recordCount (p : Plan) : Nat := (p.items.map (fun i => (i.item.without i.skip).parts.length)).sum

/-- Queue the re-sends of R196; `fail` is the failure leg, of which the plans of at most one leg back are held. A failure
leg that has ended is sent at the head of the leg in progress as leftovers, and the plan of the leg in progress departs
as planned: frames that the standby has queued already are not queued again. A unit in DARNING or ISOLATED has queued none
(R190). Answers the records re-sent. -/
def Dev.resend (d : Dev) (warm : Bool) (fail : Nat) : Dev × Nat :=
  let twins := warm ∧ d.mirror.twinFrom ≤ d.sending.leg
  if fail < d.sending.leg then
    let d := (d.queueFrames d.previous.frames d.previous.leg true).count 0x2510 0x05 d.previous.frames.length
    let rest := d.sending.frames.filter (fun f => !(twins && f.format = 1))
    (d.queueFrames rest d.sending.leg false, d.previous.recordCount)
  else (d.queueFrames d.sending.frames d.sending.leg false, d.sending.recordCount)

/-- Admit the copies of the leg in progress that have no record (R15, R196). -/
def Dev.admitOrphans (d : Dev) (copies : List Shadow) : Dev :=
  copies.foldl (fun (d : Dev) c => d.decideItem { c.prop with orphan := true }) d

/-- Journal a count beside the takeover, when it is not zero (R16, R226). -/
def Dev.journalCount (d : Dev) (code sev n : Nat) : Dev := if n = 0 then d else d.journal code sev n

/-- Acknowledged records of the failure leg and later whose copy the unit lacks (R16, R196, R214). -/
def Dev.unheldRecords (d : Dev) (fail : Nat) : Nat := (d.mirror.recv.filter (fun r => fail ≤ r.leg ∧ r.state ≠ 1)).length

/-- Steps 6 and 7 of R197: lines are driven, re-sends queued, items in progress restarted, discrete outputs re-asserted.
Answers the records re-sent. -/
def Dev.takeLines (d : Dev) (warm coldStart : Bool) (fail : Nat) : Dev × Nat :=
  let d := if warm then d else d.coldClear fail
  let r := if coldStart then (d, 0) else (d.ringsTake fail).resend warm fail
  let d := if coldStart then r.1 else (r.1.ser.map Prod.fst).foldl (fun (d : Dev) n => d.serRestart n) r.1
  (((d.reassert warm).serStartAll.canStartAll).portsStart, r.2)

/-- The mirror of a unit that has just taken custody: it acknowledges, shadows and darns nothing. -/
def Mirror.lead (m : Mirror) : Mirror :=
  { m with
    shadow := [], recv := [], expect := [], run := [], pieces := [], requested := [], cairnCheck := none, ackFrom := none
    belayFrom := none, waiting := [], unacked := [], admits := [], deltas := [], deltaSeq := 0, deltaIn := 0, held := []
    force := [], darning := false, darnLegL := none, darnOwed := false, peerHeld := [], cairnOwed := none, auditDue := false
    cairnDue := none }

/-- Counts, histogram and alert of a takeover or cold start (R197, R205, R206, R407). -/
def Dev.takeReport (d : Dev) (warm coldStart : Bool) (n : Nat) : Dev :=
  let us := (d.now - d.team.lastAlive) / usCycles
  let d := d.count 0x2601 (if warm then 0x01 else 0x02)
  let d := if coldStart then d else (d.put 0x2600 0x06 d.stamp).histAdd 20 (us / 5)
  let detail := if coldStart then 0 else sat 0xFFFF n * 2 ^ 16 + sat 0xFFFF us
  let d := if warm then d.raise 0xA300 2 detail else d.raise 0xA301 3 detail
  d.raise 0xA307 1 d.absentDetail

/-- At a takeover a record that is still pending is unheld: what was matched behind it is charged, so that it is re-sent (R16, R196,
R214). -/
def Dev.judgePending (d : Dev) : Dev :=
  let recv := d.mirror.recv.map (fun r => if r.state = 0 then { r with state := 2 } else r)
  ({ d with mirror := { d.mirror with recv := recv } } : Dev).chargeShadows true

/-- The unit becomes ACTIVE: a warm takeover, a cold one, or a cold start of R191. -/
def Dev.takeActive (d : Dev) (warm coldStart : Bool) : Dev :=
  let d := d.judgePending
  let old := d.mirror
  let fail := max (d.legOf (d.stampAt d.team.lastAlive)) d.previous.leg
  let unheld := d.unheldRecords fail
  let cairn := d.leg - d.legPu
  let mine := old.shadow.filter (fun c => c.leg = d.leg)
  let lost := if d.team.role == .isolated || coldStart then [] else old.shadow.filter (fun c => c.leg ≠ d.leg)
  let d := d.setRole .active
  let d := { d with team := { d.team with degraded := true, formed := false, wiring := false, aliveFault := false } }
  let r := d.takeLines warm coldStart fail
  let d := { r.1 with mirror := { r.1.mirror.lead with cairnDue := if warm ∧ old.cairnLeg ≠ some cairn then some cairn else none } }
  let d := (d.put 0x2604 0x01 0).takeReport warm coldStart r.2
  let code := if warm then 0xA300 else 0xA301
  let sev := if warm then 2 else 3
  let d := (d.journalCount code sev unheld).journalCount code sev old.requested.length
  let d := lost.foldl (fun (d : Dev) c => d.orphan 2 c) d
  let d := if d.team.rope then d.newSeries else d
  d.admitOrphans mine

/-! ### Claims (R191, R194) -/

/-- A CONFIG, power-state or reboot request is pending (R195). -/
def Dev.requestPending (d : Dev) : Bool := d.get 0x2000 0x03 = 1 || d.get 0x2001 0x03 = 1

/-- Assert the claim; the sample follows 2 µs later. Acknowledgements stop and DEGRADED is set (R194, R197). -/
def Dev.startClaim (d : Dev) (lastRow coldStart : Bool) : Dev :=
  { d with team := { d.team with claimOut := true, degraded := true, joining := none, retry := none
                                 claiming := some (d.now, lastRow, d.team.role == .standby, coldStart) } }

/-- Release the claim and take ISOLATED, releasing every output; HELLOs begin anew (R192, R194). -/
def Dev.dropClaim (d : Dev) : Dev :=
  let d := { d with team := { d.team with claimOut := false, claiming := none, degraded := false } }
  let d := d.isolate
  if d.team.rope then d.newSeries else d

/-- CLAIM_SAMPLE: CLAIM_IN_N 2 µs after this unit's claim (R194). -/
def Dev.claimSample (d : Dev) (asserted : Bool) : Dev :=
  match d.team.claiming with
  | none => d
  | some (since, lastRow, warm, coldStart) =>
    if d.now < since + 2 * usCycles then d
    else
      let known := d.team.partnerB
      let d := { d with team := { d.team with claiming := none, claimIn := asserted } }
      if !asserted then d.takeActive warm coldStart
      else
        let d := d.count 0x2601 0x06
        if d.posB then
          let d := d.dropClaim.raise 0xA305 3 0
          if lastRow then d.raise 0xA30A 3 0 else d
        else if known = some true then (d.raise 0xA305 3 1).takeActive warm coldStart
        else
          let joining := d.team.role == .none
          let d := if joining then { d with team := { d.team with claimOut := false, degraded := false } } else d.dropClaim
          ({ d with team := { d.team with retry := some d.now } }).raise 0xA305 3 0

/-! ### The takeover decision (R193, R195) -/

/-- WIRING and ALIVE_FAULT end with the state of the paths that they tell of (R189). -/
def Dev.faultsEnd (d : Dev) : Dev :=
  let t := d.team
  { d with team := { t with aliveFault := t.aliveFault && !t.alive && t.claimIn && t.rope
                            wiring := t.wiring && !t.alive && !t.rope && t.backbone } }

/-- The table of R193, whenever the state of a path changes. -/
def Dev.decidePaths (d : Dev) : Dev :=
  let d := d.faultsEnd
  let t := d.team
  if !(t.role == .standby || t.role == .darning || (t.role == .isolated && !t.refused)) || t.claiming.isSome
      || t.retry.isSome || !d.inService then d
  else if t.alive then d
  else if t.claimIn ∧ t.rope then
    if t.aliveFault then d
    else ({ d with team := { t with aliveFault := true } }.count 0x2601 0x04).raise 0xA303 2 0
  else if t.claimIn ∧ t.backbone then
    if t.wiring then d
    else
      let d := d.isolate
      ({ d with team := { d.team with wiring := true } }.count 0x2601 0x05).raise 0xA304 2 0
  else if d.requestPending then d
  else d.startClaim t.claimIn false

/-! ### Pair join (R191, R419) -/

/-- The pair-join step; role HOLD is left only by reset (R185). -/
def Dev.pairJoin (d : Dev) : Dev :=
  if d.team.role == .hold then d
  else if !d.paired || d.loops.any then (d.setRole .solo).serStartAll.canStartAll
  else if d.team.claimIn then
    let d := d.isolate
    if d.team.rope then d.newSeries else d
  else if d.posB then { d with team := { d.team with joining := some d.now } }
  else d.startClaim false true

/-- JOIN_WINDOW_EXPIRY: position B saw the claim released through the whole window (R191). -/
def Dev.joinExpiry (d : Dev) : Dev :=
  match d.team.joining with
  | some s => if s + d.get 0x2600 0x03 * usCycles < d.now then d.startClaim false true else d
  | none => d

/-- JOIN_RETRY: the join is tried again at least 100 µs after the claim was released (R194); an ISOLATED unit never while REFUSED,
while a request is pending, or while ALIVE_IN is present (R195). -/
def Dev.joinRetry (d : Dev) : Dev :=
  match d.team.retry with
  | some s =>
    if d.now < s + 100 * usCycles then d
    else
      let d := { d with team := { d.team with retry := none } }
      if d.team.role == .isolated && (d.team.refused || d.requestPending || d.team.alive) then d
      else if !d.team.claimIn then d.startClaim false true
      else if d.team.role == .isolated then d
      else
        let d := d.isolate
        if d.team.rope then d.newSeries else d
  | none => d

/-! ### Paths (R188, R192) -/

/-- ALIVE_LOST: `edge` is the instant of the last edge seen on ALIVE_IN, 40 µs ago or more. -/
def Dev.aliveLost (d : Dev) (edge : Nat) : Dev :=
  if !d.team.alive || d.now ≤ edge + 40 * usCycles then d
  else
    let d := { d with team := { d.team with alive := false, lastAlive := edge } }
    if d.team.role == .active then
      let d := d.runDegraded
      if d.team.rope then d.newSeries else d
    else d.decidePaths

/-- ALIVE_PRESENT. -/
def Dev.alivePresent (d : Dev) : Dev := ({ d with team := { d.team with alive := true } }).decidePaths

/-- CLAIM_RELEASED. -/
def Dev.claimReleased (d : Dev) : Dev := ({ d with team := { d.team with claimIn := false } }).decidePaths

/-- CLAIM_ASSERTED: position B in its join window finds its partner; an ACTIVE one yields (R191, R192, R194). -/
def Dev.claimAsserted (d : Dev) : Dev :=
  let d := { d with team := { d.team with claimIn := true } }
  if d.team.joining.isSome then
    let d := ({ d with team := { d.team with joining := none } }).isolate
    if d.team.rope then d.newSeries else d
  else if d.team.role == .active ∧ d.posB then ((d.count 0x2601 0x06).dropClaim).raise 0xA305 3 0
  else d.decidePaths

/-- What the loss of the rope makes of a role (R192). -/
def Dev.ropeLossRole (d : Dev) : Dev :=
  let detail := b2n d.team.alive
  match d.team.role with
  | .active => d.degrade.raise 0xA302 2 detail
  | .standby | .darning => (if d.team.alive then d.isolate else d).raise 0xA302 2 detail
  | .isolated => d.raise 0xA302 2 detail
  | .none | .solo | .hold => d

/-- The rope is lost (R188, R192); its link status reads 0 with the link down (R247). -/
def Dev.ropeLost (d : Dev) (linkDown : Bool) : Dev :=
  let was := d.team.rope
  let d := { d with team := { d.team with rope := false, ropeLink := d.team.ropeLink && !linkDown, beats := 0 } }
  let d := if linkDown then d.setPort 4 { d.port 4 with link := 0 } else d
  if !was then d
  else
    let d := (d.count 0x2601 0x03).ropeLossRole
    d.endSession.decidePaths

/-- ROPE_LOST: the link is down, or no valid rope frame came for 60 µs (R188). -/
def Dev.ropeSilent (d : Dev) (linkDown : Bool) : Dev :=
  if linkDown || d.team.lastRope + 60 * usCycles < d.now then d.ropeLost linkDown else d

/-- Eight HEARTBEATs have come in a row, and the link is up (R188). -/
def Dev.ropeSeen (d : Dev) : Bool :=
  d.team.ropeLink && decide (8 ≤ d.team.beats) && decide (d.now ≤ d.team.lastBeat + 25 * usCycles)

/-- ROPE_PRESENT: a new session and its first HELLO (R183, R188, R382). -/
def Dev.ropePresent (d : Dev) : Dev :=
  if d.team.rope || !d.ropeSeen then d
  else
    let d := { d with team := { d.team with rope := true } }
    let d := d.newSeries.clearAlert 0xA302
    d.decidePaths

/-- The backbone path: a partner beacon came, or none within the window. -/
def Dev.setBackbone (d : Dev) (on : Bool) : Dev :=
  if d.team.backbone = on then d else ({ d with team := { d.team with backbone := on } }).decidePaths

/-- A partner beacon sets the stamp by which the next is due (R150, R187, R188). -/
def Dev.partnerBeacon (d : Dev) : Dev :=
  ({ d with team := { d.team with beaconDue := d.stamp + d.usToPu (d.get 0x2600 0x04) } }).setBackbone true

/-- BACKBONE_HEARTBEAT_LOST: no partner beacon came for the backbone heartbeat window (R188). -/
def Dev.backboneSilent (d : Dev) : Dev := if d.team.beaconDue < d.stamp then d.setBackbone false else d

/-! ### Pairing (R184, R192, R442) -/

/-- The role that a byte of 0x2600:01 names. -/
def roleOf (n : Nat) : Role :=
  if n = 1 then .solo else if n = 2 then .active else if n = 3 then .standby else if n = 4 then .darning
  else if n = 5 then .isolated else if n = 6 then .hold else .none

/-- The team forms on either side: deltas count from here; 0xA306 and 0xA307 clear (R206, R222). -/
def Dev.formTeam (d : Dev) : Dev :=
  let d := { d with
    team := { d.team with formed := true, refused := false, reason := 0, refusal := 0 }
    mirror := { d.mirror with deltaSeq := 0, deltaIn := 0, deltas := [], run := [], admits := [], unacked := [], waiting := [], peerHeld := []
                              cairnOwed := none, auditDue := false
                              belayFrom := none, cairnDeltas := none, cairnLeg := none, cairnsMissed := 0 } }
  (d.clearAlert 0xA306).clearAlert 0xA307

/-- Role DARNING: the unit awaits the active's segments (R184, R190, R192). -/
def Dev.joinDarning (d : Dev) : Dev :=
  let d : Dev := { d with team := { d.team with retry := none, joining := none } }
  let d := (d.clearShadow.setRole .darning).dropCustody.formTeam
  d.put 0x2604 0x01 0

/-- Darning of the partner is complete: DEGRADED clears (R192, R442). -/
def Dev.darningDone (d : Dev) : Dev :=
  let us := (d.now - d.mirror.darnStart) / usCycles
  let d := { d with team := { d.team with degraded := false }, mirror := { d.mirror with darning := false, darnLegL := none } }
  (((d.put 0x2604 0x01 0).count 0x2603 0x0B).histAdd 22 (logBin (us / 1000))).raise 0xA314 0 (sat 0xFFFFFFFF us)

/-- The cairn of leg L has been sent and the bound of step 5 plus 20 µs has not passed (R224, R442). -/
def Dev.darnInTime (d : Dev) : Bool :=
  match d.mirror.darnLegL with
  | some l => decide (l + d.legPu = d.leg ∧ d.now ≤ d.legAt + 70 * usCycles)
  | none => false

/-- A formed partner has gone out of step: the team runs degraded until it is darned, and its open holds are released (R14,
R213). -/
def Dev.outOfStep (d : Dev) : Dev := ({ d with team := { d.team with degraded := true } } : Dev).releaseHolds

/-- What a unit makes of the role that its partner shows (R184, R192, R442); `stale` when the partner shows another mode epoch: one
in DARNING is then out of step after a late mode change (R14, R202). -/
def Dev.actOnPartner (d : Dev) (stale : Bool) : Dev :=
  let p := d.team.partnerRole
  if d.team.role == .active then
    if d.team.formed then
      if p == .darning then
        (if d.mirror.darning then d
         else (if stale && d.mirror.belayFrom.isSome then d.outOfStep else d).startDarning)
      else if p == .standby then (if d.mirror.darning && d.darnInTime then d.darningDone else d)
      else d.runDegraded
    else if d.team.passed ∧ (p == .darning || p == .standby) then d.formTeam.startDarning
    else d
  else if d.team.role == .isolated ∧ d.team.passed ∧ p == .active ∧ d.team.claiming.isNone then d.joinDarning
  else d

/-- A pairing check fails (R184): counted and alerted when the refusal begins or its reason changes. -/
def Dev.refusePair (d : Dev) (reason : Nat) : Dev :=
  let fresh := d.team.refusal ≠ reason
  let d := { d with team := { d.team with refusal := reason, passed := false, keyed := false } }
  let d := if fresh then d.count 0x2601 0x07 else d
  if d.team.role == .active then d.runDegraded
  else
    let d := { d with team := { d.team with refused := true, reason := reason } }
    if fresh then d.raise 0xA306 2 reason else d

/-- The checks of R184 in their order; 0 when all pass. -/
def Dev.pairCheck (d : Dev) (f : RopeFrame) (b : List Byte) : Nat :=
  if frameVersion f ≠ 1 then 1
  else if frameSenderB f = d.posB then 2
  else if framePair f ≠ d.pairId then 3
  else if beAt b 16 8 ≠ d.get 0x2000 0x0B ∨ beAt b 32 8 ≠ d.get 0x2000 0x0E then 4
  else 0

/-- The pairing check of a HELLO. Where it passes and neither unit is ACTIVE, position A claims (R184). -/
def Dev.pairing (d : Dev) (f : RopeFrame) (b : List Byte) : Dev :=
  let r := d.pairCheck f b
  if r ≠ 0 then d.refusePair r
  else
    let d := { d with team := { d.team with refusal := 0, refused := false, reason := 0, passed := true, keyed := true } }
    let d := d.actOnPartner false
    if d.team.role == .isolated ∧ !d.posB ∧ d.team.partnerRole ≠ .active ∧ d.team.claiming.isNone ∧ d.team.retry.isNone then
      d.startClaim false true
    else d

/-- A frame of another pair leads to refusal (R182, R184). -/
def Dev.foreignPair (d : Dev) : Dev := if d.team.formed then d else d.refusePair 3

/-- HELLO_RECEIVED. A rope epoch other than that of the session ends the session and starts a new series (R382). -/
def Dev.helloReceived (d : Dev) (f : RopeFrame) : Dev :=
  d.onRope f [0x01] Dev.foreignPair fun d b =>
    let e := beAt b 40 4
    let d := if d.team.peerKnown ∧ d.team.peerEpoch ≠ e then d.ropeLossRole.newSeries else d
    let d := (({ d with team := { d.team with peerKnown := true, peerEpoch := e, partnerRole := roleOf (beAt b 0 1)
                                              partnerB := some (frameSenderB f) } }).put 0x2600 0x05 (beAt b 28 2))
    if d.team.formed then d else d.pairing f b

/-- A HEARTBEAT counts towards the presence of the rope when it comes within 25 µs of the one before (R188). -/
def Dev.beat (d : Dev) (f : RopeFrame) : Dev :=
  if frameType f ≠ 0x02 then d
  else
    let t := d.team
    { d with team := { t with beats := if d.now ≤ t.lastBeat + 25 * usCycles ∧ 0 < t.beats then t.beats + 1 else 1, lastBeat := d.now } }

/-- HEARTBEAT_RECEIVED (R183, R188, R442). -/
def Dev.heartbeatReceived (d : Dev) (f : RopeFrame) : Dev :=
  d.onRope f [0x02] (fun d => (d.beat f).foreignPair) fun d b =>
    let d := d.beat f
    ({ d with team := { d.team with partnerRole := roleOf (beAt b 0 1), partnerB := some (frameSenderB f) } } : Dev).actOnPartner
      (decide (beAt b 4 4 ≠ d.get 0x2020 0x02))

/-- HELLO_TIMER: every 1,000 µs until the team forms (R183). -/
def Dev.helloTimer (d : Dev) : Dev := if d.team.formed || d.now < d.team.lastHello + msCycles then d else d.sendHello

/-- HEARTBEAT_TIMER (R183). -/
def Dev.heartbeatTimer (d : Dev) : Dev := if d.inTeam then d.ropeSend 0x02 d.heartbeatBody else d

/-! ### Health (R185) -/

/-- PROGRESS_LOST: role HOLD, left only by reset; every output is released as in device state HOLD (R185, R192, R352). -/
def Dev.progressLost (d : Dev) : Dev :=
  if d.team.role == .hold then d
  else
    let d := ((d.mirrorEnd.clearShadow.setRole .hold).endSession).dropQueued
    ({ d with team := { d.team with claiming := none, retry := none, joining := none, change := none } } : Dev).outRelease

/-- ALIVE_OUT toggles while the unit is healthy, and through the pair-join step (R185, R191, R419). -/
def Dev.aliveToggle (d : Dev) : Dev :=
  let t := d.team
  let joins := t.joining.isSome || t.claiming.isSome || t.retry.isSome
  let healthy := !(t.role == .none || t.role == .hold) || joins
  if (d.inService || d.pw.st == .boot) && !d.loops.any && healthy then
    ({ d with team := { t with aliveOut := !t.aliveOut } }).emit (.aliveOut !t.aliveOut)
  else d

/-! ### Mode changes (R201 to R204) -/

/-- A mode is in the rack: the base configuration, or one with overlay rows (R201). -/
def Dev.hasMode (d : Dev) (m : Nat) : Bool := m = 0 || d.overlays.any (fun kv => kv.1 / 2 ^ 64 = m)

/-- The body of a mode relay and of its acknowledgement: the spec names its content, the places are the model's (R202). -/
def relayBody (c : ModeChange) : List Byte := be 1 c.mode ++ be 1 (b2n c.domain) ++ be 2 0 ++ be 4 c.epoch ++ be 8 c.target

/-- A change is accepted: pending, and relayed to the standby (R202, R203, R206). -/
def Dev.acceptMode (d : Dev) (c : ModeChange) : Dev :=
  let d := { d with team := { d.team with change := some c, lastDomain := if c.domain then some c else d.team.lastDomain } }
  let d := (d.put 0x2020 0x06 1).clearAlert 0xA308
  if d.mirrors then d.ropeSend 0x40 (relayBody c) else d

/-- A write of Target stamp (R201 to R203): refused, or accepted. 0xA308 clears as it is written (R206). -/
def Dev.modeRequest (d : Dev) (target : Nat) : Dev :=
  let d := d.clearAlert 0xA308
  let m := d.get 0x2020 0x03
  let domain := d.get 0x2020 0x05 = 1
  let refuse (n : Nat) : Dev := d.put 0x2020 0x06 n
  let busy := match d.team.change with | some c => c.domain || !domain | none => false
  if !d.leads ∨ (domain ∧ !d.isMaster) then refuse 6
  else if busy then refuse 7
  else if !d.hasMode m then refuse 5
  else if target % d.legPu ≠ 0 then refuse 4
  else if (if domain then target / 2 ^ 24 < d.pitch.num + 4 else target < d.leg + 2 * d.legPu) then refuse 3
  else d.acceptMode { mode := m, target := target, epoch := (d.get 0x2020 0x02 + 1) % 2 ^ 32, domain := domain }

/-- The boundary of the target leg has run, and not in this cycle (R202, R204). -/
def Dev.modeMissed (d : Dev) (target : Nat) : Bool :=
  decide (target < d.plan.leg) && !(decide (target + d.legPu = d.plan.leg) && decide (d.legAt = d.now))

/-- The pending change is applied once its target leg has begun: mode and epoch change together (R202, R203). -/
def Dev.modeApply (d : Dev) : Dev :=
  match d.team.change with
  | none => d
  | some c =>
    if d.leg < c.target then d
    else
      let d := { d with team := { d.team with change := none, modeLeg := some d.leg }, mirror := { d.mirror with applied := true } }
      (((d.put 0x2020 0x01 c.mode).put 0x2020 0x02 c.epoch).put 0x2020 0x06 2).count 0x2601 0x08

/-- A change that arrives in the first cycle of its target leg, after the boundary ran, is applied there. -/
def Dev.modeCatch (d : Dev) (target : Nat) : Dev := if target < d.plan.leg then d.modeApply else d

/-- A domain change carried by a master beacon; one that this unit has taken or reported already does nothing more (R203,
R204). -/
def Dev.domainBeacon (d : Dev) (mode target epoch : Nat) : Dev :=
  let c : ModeChange := { mode := mode, target := target, epoch := epoch, domain := true }
  if !d.leads ∨ d.team.change = some c ∨ d.team.lastDomain = some c then d
  else if !d.modeMissed target then (d.acceptMode c).modeCatch target
  else
    let d := { d with team := { d.team with lastDomain := some c } }
    ((d.put 0x2020 0x06 8).count 0x2601 0x09).raise 0xA308 2 (mode * 256 + d.mode)

/-- MODE_RELAY_RECEIVED: the standby acknowledges and holds the change, or goes out of step when it is late (R192, R202). -/
def Dev.modeRelay (d : Dev) (f : RopeFrame) : Dev :=
  d.onRope f [0x40] Dev.foreignPair fun d b =>
    let c : ModeChange := { mode := beAt b 0 1, target := beAt b 8 8, epoch := beAt b 4 4, domain := beAt b 1 1 ≠ 0 }
    if !d.shadows then d
    else
      let d := d.ropeSend 0x41 (relayBody c)
      let d := if c.domain then { d with team := { d.team with lastDomain := some c } } else d
      if d.get 0x2020 0x02 = c.epoch then d
      else if d.modeMissed c.target then ((d.count 0x2601 0x09).reDarn).raise 0xA309 2 c.mode
      else ({ d with team := { d.team with change := some c } }).modeCatch c.target

/-- MODE_ACK_RECEIVED: the change is applied whether or not it is acknowledged (R202). -/
def Dev.modeAck (d : Dev) (f : RopeFrame) : Dev := d.onRope f [0x41] Dev.foreignPair fun d _ => d

end Sys2Proof.Machine
end

