-- ==== Sys2Proof/Machine/Bridge.lean ====
section
/-! DEFINITION. Remote windows and their delayed reads, posted writes, prefetch and holding registers, the lock, the
mailbox, the DMA rings, MSI-X, and tunnel egress (chapter Host ports, bridge and tunnels). -/

namespace Sys2Proof.Machine

/-! ### Remote windows (R316, R318) -/

/-- The answer to one host access. -/
inductive HostReply where
  | data (v : Nat)
  | retry
  | done
  | unsupported
  deriving DecidableEq, Repr

/-- The output of an HLB answer. -/
def HostReply.hlb : HostReply → Out
  | .data v => .hlbData v
  | .retry | .unsupported => .hlbRetry
  | .done => .hlbDone

/-- The window of an HLB address among 0x1000_0000 to 0x1FFF_FFFF, and the address within it (R316). -/
def winOf (addr : Nat) : Nat := (addr - 0x10000000) / 0x02000000
def winOffset (addr : Nat) : Nat := addr % 0x02000000
def winAddr (w slot : Nat) : Nat := 0x10000000 + 0x02000000 * w + slot

/-- An address lies in the remote region. -/
def isRemote (addr : Nat) : Bool := 0x10000000 ≤ addr && addr < 0x20000000

/-- The slot that holds an address. -/
def slotOf (addr : Nat) : Nat := addr / 8 * 8

/-- Entries of a window (R318). -/
def Dev.winGet (d : Dev) (w sub : Nat) : Nat := d.get (0x2701 + w) sub
def Dev.winEnabled (d : Dev) (w : Nat) : Bool := d.winGet w 0x01 ≠ 0
def Dev.winNode (d : Dev) (w : Nat) : Nat := d.winGet w 0x02
def Dev.winCut (d : Dev) (w : Nat) : Bool := bit (d.winGet w 0x04) 1
def Dev.winPrefetch (d : Dev) (w : Nat) : Bool := bit (d.winGet w 0x04) 0
def Dev.winTimeout (d : Dev) (w : Nat) : Nat := d.winGet w 0x05 * msCycles
def Dev.winAttempts (d : Dev) (w : Nat) : Nat := if d.winGet w 0x01 = 2 then 1 else d.winGet w 0x06

/-- What the bridge keeps of a window. -/
def Dev.window (d : Dev) (w : Nat) : Window := SMap.get (fun _ => ({} : Window)) d.bridge.windows w
def Dev.setWindow (d : Dev) (w : Nat) (x : Window) : Dev :=
  { d with bridge := { d.bridge with windows := SMap.set (fun _ => ({} : Window)) d.bridge.windows w x } }

/-- Held address (R318). -/
def Dev.heldAddress (d : Dev) (w : Nat) : Nat := match (d.window w).holding with | some (a, _) => slotOf a + 1 | none => 0

/-- Whether the entry of a slot address fills both words (R26, R27): the directory of the target is taken to be that of
this device. -/
def slotWide (slot : Nat) : Bool :=
  match dictFind (bits slot 24 11) (bits slot 10 3) with | some r => r.ty.wide | none => false

/-- Take the next request ID. -/
def Dev.nextRequest (d : Dev) : Nat × Dev :=
  (d.bridge.nextRequest, { d with bridge := { d.bridge with nextRequest := (d.bridge.nextRequest + 1) % 2 ^ 16 } })

/-- Send a request to a window's target (R318). -/
def Dev.remoteSend (d : Dev) (w id slot : Nat) (value : Option Nat) : Dev := d.emit (.request w id slot value)

/-! ### Prefetch and the holding register (R321) -/

/-- One slot's data is lost. -/
def Dev.slotLost (d : Dev) (w slot : Nat) : Dev := (d.count 0x2740 0x05).raise 0xA704 1 (slotOf slot + w)

/-- Fetched data is discarded unread: the lowest-addressed slot enters the holding register, the others and what the
register held are lost. -/
def Dev.discardSlots (d : Dev) (w : Nat) : List (Nat × Nat) → Dev
  | [] => d
  | x :: rest =>
    let old := (d.window w).holding
    let d := d.setWindow w { d.window w with holding := some x }
    let d := rest.foldl (fun d y => d.slotLost w y.1) d
    match old with
    | some y => (d.slotLost w y.1).cause 8
    | none => d

/-- Discard the prefetched slot of a window. -/
def Dev.dropPrefetch (d : Dev) (w : Nat) : Dev :=
  match (d.window w).prefetch with
  | some x => (d.setWindow w { d.window w with prefetch := none }).discardSlots w [x]
  | none => d

/-- A read of a slot reaches a window: a prefetch that it neither asked for nor follows is discarded. -/
def Dev.readReaches (d : Dev) (w slot : Nat) : Dev :=
  match (d.window w).prefetch with
  | some (a, _) => if slot = a ∨ (slot + 8) % 0x02000000 = a then d else d.dropPrefetch w
  | none => d

/-- A write of a slot reaches a window: the prefetch goes, and a write to the held address empties the register. -/
def Dev.writeReaches (d : Dev) (w slot : Nat) : Dev :=
  let d := d.dropPrefetch w
  match (d.window w).holding with
  | some (a, _) => if a = slot then d.setWindow w { d.window w with holding := none } else d
  | none => d

/-! ### Posted writes (R322) -/

/-- A remote write fails: the error log, the counter, the cause and the alert. -/
def Dev.writeFailed (d : Dev) (w addr data code abort : Nat) : Dev :=
  let d :=
    if d.bridge.log.length < 16 then
      let e : LogEntry := ⟨addr, data, d.winNode w, code, abort, d.stamp⟩
      { d with bridge := { d.bridge with log := d.bridge.log ++ [e] } }
    else (d.count 0x2740 0x07).raiseCount 0xA702 2 1 (sat 0xFFFFFFFF)
  (((d.count 0x2740 0x06).cause 1).raise 0xA701 2 (d.winNode w * 2 ^ 8 + code))

/-- Writes queued for a window. -/
def Dev.postedTo (d : Dev) (w : Nat) : List Posted := d.bridge.posted.filter (fun p => p.win = w)

/-- Replace the queue. -/
def Dev.setPosted (d : Dev) (ps : List Posted) : Dev := { d with bridge := { d.bridge with posted := ps } }

/-- A running fetch or mailbox access that waits for `n` writes to a window waits for one fewer. -/
def BridgeSlot.advance (s : BridgeSlot) (w : Nat) : BridgeSlot :=
  if s.st = .queued ∧ winOf s.addr = w then { s with behind := s.behind - 1 } else s

/-- Start the fetch of a slot that waits for no write. -/
def Dev.startFetch (d : Dev) (k : Nat) : Dev :=
  match d.bridge.slots[k]? with
  | some s =>
    if s.st = .queued ∧ s.behind = 0 then
      let w := winOf s.addr
      let slot := slotOf (winOffset s.addr)
      let (id, d) := d.nextRequest
      let pre := d.winPrefetch w
      let s := { s with st := .fetching, since := d.now, attempts := 1, request := id, prefetch := pre }
      let d := { d with bridge := { d.bridge with slots := d.bridge.slots.set k s } }
      let d := d.remoteSend w id slot none
      if pre then d.remoteSend w id ((slot + 8) % 0x02000000) none else d
    else d
  | none => d

/-- Replace the mailbox. -/
def Dev.setMailbox (d : Dev) (m : Mailbox) : Dev := { d with bridge := { d.bridge with mailbox := m } }

/-- A mailbox access ends. -/
def Dev.mailboxEnd (d : Dev) (status abort : Nat) (value : Option Nat) : Dev :=
  let m := { d.bridge.mailbox with status := status, abort := abort, attempts := 0, behind := 0 }
  let m := match value with | some v => { m with low := bits v 31 0, high := bits v 63 32 } | none => m
  (d.setMailbox m).cause 9

/-- What the holding register of a window has for a slot. -/
def Dev.heldData (d : Dev) (w slot : Nat) : Option Nat :=
  match (d.window w).holding with | some (a, v) => if a = slot then some v else none | none => none

/-- The mailbox access runs once it waits for no write: a read of the held address is served from the holding register, any other
access is sent (R321, R326). -/
def Dev.startMailbox (d : Dev) : Dev :=
  let m := d.bridge.mailbox
  if m.status = 1 ∧ m.behind = 0 ∧ m.attempts = 0 then
    match (if m.command = 1 then d.heldData m.win m.slot else none) with
    | some v => ((d.setWindow m.win { d.window m.win with holding := none }).count 0x2740 0x04).mailboxEnd 2 0 (some v)
    | none =>
    let (id, d) := d.nextRequest
    let d := { d with bridge := { d.bridge with mailbox := { m with request := id, attempts := 1, since := d.now } } }
    d.remoteSend m.win id m.slot (if m.command = 2 then some (m.low + 2 ^ 32 * m.high) else none)
  else d

/-- One write to a window has left the queue: reads that wait for it advance. -/
def Dev.writeLeft (d : Dev) (w : Nat) : Dev :=
  let m := d.bridge.mailbox
  let m := if m.status = 1 ∧ m.attempts = 0 ∧ m.win = w then { m with behind := m.behind - 1 } else m
  let d := { d with bridge := { d.bridge with slots := d.bridge.slots.map (fun s => s.advance w), mailbox := m } }
  let d : Dev := (List.range 4).foldl (fun (d : Dev) k => d.startFetch k) d
  d.startMailbox

/-- The oldest write of a window leaves the queue. -/
def Dev.popWrite (d : Dev) (w : Nat) : Dev :=
  match d.bridge.posted.find? (fun p => p.win = w) with
  | some p =>
    let d := d.setPosted (d.bridge.posted.erase p)
    let d := if p.locked then
        { d with bridge := { d.bridge with lockWrite := d.bridge.lockWrite.map (fun l => (l.1, l.2.1, true)) } } else d
    d.writeLeft w
  | none => d

/-- Send the oldest write of a window when none of its writes is under way; one whose window has been disabled fails. -/
def Dev.sendNext (d : Dev) (w : Nat) : Nat → Dev
  | 0 => d
  | fuel + 1 =>
    match d.bridge.posted.find? (fun p => p.win = w) with
    | none => d
    | some p =>
      if p.sent then d
      else if !d.winEnabled w then ((d.writeFailed w p.addr p.data 3 0).popWrite w).sendNext w fuel
      else
        let (id, d) := d.nextRequest
        let q := { p with sent := true, attempts := 1, since := d.now, request := id }
        (d.setPosted (d.bridge.posted.map (fun x => if x = p then q else x))).remoteSend w id (winOffset p.addr) (some p.data)

/-- Queue a slot write: `none` when the queue is full. -/
def Dev.postWrite (d : Dev) (w addr data : Nat) (locked : Bool) : Option Dev :=
  if 32 ≤ d.bridge.posted.length then none
  else some ((d.setPosted (d.bridge.posted ++ [{ win := w, addr := addr, data := data, locked := locked }])).sendNext w 33)

/-- POSTED_WRITE_COMPLETE: the request of a window's oldest write is answered. -/
def Dev.writeAnswered (d : Dev) (w : Nat) (r : Remote) : Dev :=
  match d.bridge.posted.find? (fun p => p.win = w) with
  | some p =>
    if !p.sent then d
    else
      let d := match r with | .ok _ _ => d | .abort code => d.writeFailed w p.addr p.data 2 code
      (d.popWrite w).sendNext w 33
  | none => d

/-- POSTED_WRITE_LOG_POP: the oldest entry moves into the read entries. -/
def Dev.logPop (d : Dev) : Dev :=
  match d.bridge.log with
  | [] => ((((d.put 0x2730 0x03 0).put 0x2730 0x04 0).put 0x2730 0x05 0).put 0x2730 0x06 0).put 0x2730 0x07 0
  | e :: rest =>
    let d := { d with bridge := { d.bridge with log := rest } }
    ((((d.put 0x2730 0x03 e.addr).put 0x2730 0x04 (e.data % 2 ^ 32)).put 0x2730 0x05 (2 ^ 31 + e.node * 2 ^ 16 + e.code)).put
      0x2730 0x06 e.abort).put 0x2730 0x07 e.stamp

/-! ### The lock (R323) -/

/-- What the semaphore says of an access to a slot: `none` when it is answered with RETRY_N. -/
def Dev.lockGate (d : Dev) (w slot : Nat) (lock : Bool) : Option Dev :=
  let take (d : Dev) : Dev := { d with bridge := { d.bridge with sem := some (w, slot, d.now) } }
  match d.bridge.sem with
  | some (sw, ss, _) => if lock then (if sw = w ∧ ss = slot then some (take d) else none)
                        else if sw = w ∧ ss = slot then none else some d
  | none => some (if lock then take d else d)

/-- LOCK_SEQUENCE_END. -/
def Dev.lockEnd (d : Dev) : Dev := { d with bridge := { d.bridge with sem := none, lockWrite := none } }

/-- LOCK_TIMEOUT: a semaphore held for 10 ms with no access is released. -/
def Dev.lockTimeout (d : Dev) : Dev :=
  match d.bridge.sem with
  | some (w, slot, last) =>
    if last + 10 * msCycles < d.now then
      ((d.lockEnd.count 0x2740 0x08).cause 3).raise 0xA703 1 (winAddr w slot)
    else d
  | none => d

/-! ### Delayed reads (R319, R320) -/

/-- Words of a slot that an access of some beats covers. -/
def beatWords (addr beats value : Nat) : List Nat :=
  (List.range beats).map (fun i => bits (value / 2 ^ (32 * ((addr / 4 + i) % 2))) 31 0)

/-- The whole value of a low-word read is kept for the high-word read that follows (R28). -/
def Dev.remoteSnap (d : Dev) (w addr beats value : Nat) : Dev :=
  d.setWindow w { d.window w with snap := if addr % 8 = 0 ∧ beats = 1 then some (slotOf (winOffset addr), value) else none }

/-- A burst that a remote window does not support (R320). -/
def badBurst (addr beats : Nat) : Bool := !(beats ≤ 1 || (beats = 2 && addr % 8 = 0))

/-- Beats that lie in the first slot. -/
def firstBeats (addr beats : Nat) : Nat := min beats (if addr % 8 = 0 then 2 else 1)

/-- Find the slot of an access among those of an index list. -/
def Dev.findSlot (d : Dev) (p : BridgeSlot → Bool) : Option Nat := (List.range 4).find? (fun k => match d.bridge.slots[k]? with | some s => p s | none => false)

/-- Replace a delayed slot. -/
def Dev.setSlot4 (d : Dev) (k : Nat) (s : BridgeSlot) : Dev := { d with bridge := { d.bridge with slots := d.bridge.slots.set k s } }

/-- A read of the first slot of a burst: each beat's answer. -/
def Dev.readSlot (d : Dev) (addr beats : Nat) (whole : Nat) : Dev × List HostReply :=
  let w := winOf addr
  let slot := slotOf (winOffset addr)
  let serve (d : Dev) (v : Nat) : Dev × List HostReply := (d.remoteSnap w addr beats v, (beatWords addr beats v).map .data)
  let win := d.window w
  let match_ (s : BridgeSlot) : Bool :=
    (s.st = .queued || s.st = .fetching || s.st = .fetched) && s.addr = addr && s.beats = whole
  if addr % 8 ≠ 0 ∧ win.snap.map (·.1) = some slot then
    ((d.setWindow w { win with snap := none }), (beatWords addr beats ((win.snap.map (·.2)).getD 0)).map .data)
  else if win.holding.map (·.1) = some slot then
    if !(d.postedTo w).isEmpty then (d, [.retry])
    else
    let v := (win.holding.map (·.2)).getD 0
    serve (((d.setWindow w { win with holding := none }).count 0x2740 0x04).readReaches w slot) v
  else if win.prefetch.map (·.1) = some slot then
    serve (d.setWindow w { win with prefetch := none }) ((win.prefetch.map (·.2)).getD 0)
  else match d.findSlot match_ with
    | some k =>
      match d.bridge.slots[k]? with
      | some s =>
        if s.st = .fetched then
          let d := d.setSlot4 k {}
          match s.value with
          | some v => serve (d.readReaches w slot) v
          | none => (d.readReaches w slot, List.replicate beats (.data 0xFFFFFFFF))
        else (d.readReaches w slot, [.retry])
      | none => (d, [.retry])
    | none =>
      match d.findSlot (fun s => s.st = .free) with
      | none => (d, [.retry])
      | some k =>
        let d := (d.readReaches w slot).count 0x2740 0x01
        let s : BridgeSlot := { st := .queued, addr := addr, beats := whole, behind := (d.postedTo w).length }
        ((d.setSlot4 k s).startFetch k, [.retry])

/-- An HLB access ends the snapshots that other accesses left (R28). -/
def Dev.clearSnaps (d : Dev) (but : Nat) : Dev :=
  let d := { d with words := { d.words with hlb := { d.words.hlb with snap := none } } }
  (List.range 8).foldl (fun d w => if w = but then d else d.setWindow w { d.window w with snap := none }) d

/-- HLB_REMOTE_READ: the access and the answer to each of its beats, the last of them RETRY_N where it ends early. -/
def Dev.remoteRead (d : Dev) (addr beats : Nat) (lock : Bool) : Dev × List HostReply :=
  let w := winOf addr
  let slot := slotOf (winOffset addr)
  if !d.winEnabled w then (d.clearSnaps 8, List.replicate beats (.data 0))
  else match d.lockGate w slot lock with
    | none => (d, [.retry])
    | some d =>
      let d := d.clearSnaps w
      if badBurst addr beats then
        if d.winCut w then
          let (d, rs) := d.readSlot addr (firstBeats addr beats) beats
          (d, if rs = [.retry] then rs else rs ++ [.retry])
        else (d.writeFailed w addr 0 4 0, List.replicate beats (.data 0xFFFFFFFF))
      else d.readSlot addr beats beats

/-- A fetch has failed (R319): 0x2731, counter, cause, alert. -/
def Dev.fetchFailed (d : Dev) (k : Nat) (s : BridgeSlot) (abort : Nat) : Dev :=
  let d := d.setSlot4 k { s with st := .fetched, value := none, since := d.now }
  ((((d.put 0x2731 0x01 s.addr).put 0x2731 0x02 abort).count 0x2740 0x03).cause 2).raise 0xA700 1 s.addr

/-- REMOTE_FETCH_COMPLETE: the fetch of a slot is answered. -/
def Dev.fetchAnswered (d : Dev) (k : Nat) (r : Remote) : Dev :=
  match d.bridge.slots[k]? with
  | some s =>
    if s.st ≠ .fetching then d
    else match r with
      | .abort code => d.fetchFailed k s code
      | .ok v next =>
        let w := winOf s.addr
        let d := d.setSlot4 k { s with st := .fetched, value := some v, since := d.now }
        match (if s.prefetch then next else none) with
        | some x =>
          let d := d.dropPrefetch w
          d.setWindow w { d.window w with prefetch := some ((slotOf (winOffset s.addr) + 8) % 0x02000000, x) }
        | none => d
  | none => d

/-- DELAYED_READ_ABANDON: a completed fetch not taken within 10 ms is discarded, its prefetched slot with it (R319,
R321). -/
def Dev.readAbandoned (d : Dev) (k : Nat) : Dev :=
  match d.bridge.slots[k]? with
  | some s =>
    if s.st = .fetched ∧ s.since + 10 * msCycles < d.now then
      let w := winOf s.addr
      let slot := slotOf (winOffset s.addr)
      let d := (d.setSlot4 k {}).count 0x2740 0x02
      let own := match s.value with | some v => [(slot, v)] | none => []
      match (d.window w).prefetch with
      | some (a, v) =>
        if s.prefetch ∧ a = (slot + 8) % 0x02000000 then
          (d.setWindow w { d.window w with prefetch := none }).discardSlots w (own ++ [(a, v)])
        else d.discardSlots w own
      | none => d.discardSlots w own
    else d
  | none => d

/-! ### Remote writes (R320, R322, R323) -/

/-- A write of the locked sequence: RETRY_N until it has completed at the target. -/
def Dev.lockedWrite (d : Dev) (w addr data : Nat) : Dev × HostReply :=
  match d.bridge.lockWrite with
  | some (a, v, done) =>
    if a = addr ∧ v = data ∧ done then ({ d with bridge := { d.bridge with lockWrite := none } }, .done) else (d, .retry)
  | none =>
    match (d.writeReaches w (slotOf (winOffset addr))).postWrite w addr data true with
    | some e => ({ e with bridge := { e.bridge with lockWrite := some (addr, data, false) } }, .retry)
    | none => (d, .retry)

/-- A slot write whose words are all known. -/
def Dev.slotWrite (d : Dev) (w addr data : Nat) (lock : Bool) : Dev × HostReply :=
  let slot := slotOf (winOffset addr)
  if lock then d.lockedWrite w (slotOf addr) data
  else match (d.writeReaches w slot).postWrite w (slotOf addr) data false with
    | some e => (e, .done)
    | none => (d, .retry)

/-- A held low word of a window's slot that has not lapsed (R28). -/
def Dev.heldLow (d : Dev) (w slot : Nat) : Option Nat :=
  match (d.window w).low with
  | some (s, v, at_) => if s = slot ∧ d.now ≤ at_ + msCycles then some v else none
  | none => none

/-- One beat: an entry that fills both words is written at its high word, with the low word held (R27, R28). -/
def Dev.beatWrite (d : Dev) (w addr data be : Nat) (lock : Bool) : Dev × HostReply :=
  let slot := slotOf (winOffset addr)
  if be ≠ 15 then (d.raise 0xA7F2 1 (winOffset addr), .done)
  else if slotWide slot then
    if addr % 8 = 0 then (d.setWindow w { d.window w with low := some (slot, data, d.now) }, .done)
    else match d.heldLow w slot with
      | some lo =>
        let (d, r) := d.slotWrite w addr (lo + 2 ^ 32 * data) lock
        (if r = .done then d.setWindow w { d.window w with low := none } else d, r)
      | none => (d, .done)
  else if addr % 8 = 0 then d.slotWrite w addr data lock else (d, .done)

/-- Beats in address order, up to the first that is answered with RETRY_N. -/
def Dev.beatWrites (d : Dev) (w : Nat) (lock : Bool) : Nat → List (Nat × Nat) → Dev × List HostReply
  | _, [] => (d, [])
  | addr, (v, be) :: rest =>
    let (d, r) := d.beatWrite w addr v be lock
    if r = .retry then (d, [r])
    else
      let (d, rs) := d.beatWrites w lock (addr + 4) rest
      (d, r :: rs)

/-- HLB_REMOTE_WRITE: the data and byte enables of each beat. -/
def Dev.remoteWrite (d : Dev) (addr : Nat) (beats : List (Nat × Nat)) (lock : Bool) : Dev × List HostReply :=
  let w := winOf addr
  let slot := slotOf (winOffset addr)
  if !d.winEnabled w then
    ((List.range beats.length).foldl (fun d i => d.raise 0xA7F2 1 (winOffset (addr + 4 * i))) (d.clearSnaps 8),
      List.replicate beats.length .done)
  else match d.lockGate w slot lock with
    | none => (d, [.retry])
    | some d =>
      let d := d.clearSnaps 8
      if badBurst addr beats.length then
        if d.winCut w then
          let (d, rs) := d.beatWrites w lock addr (beats.take (firstBeats addr beats.length))
          (d, if rs.getLast? = some .retry then rs else rs ++ [.retry])
        else (d.writeFailed w addr ((beats.head?.map Prod.fst).getD 0) 4 0, List.replicate beats.length .done)
      else d.beatWrites w lock addr beats

/-! ### The mailbox (R326) -/

/-- MAILBOX_READ and MAILBOX_WRITE: the registers as the host has written them, and Command. -/
def Dev.mailboxStart (d : Dev) (win slot : Nat) (value : Option Nat) : Dev :=
  if d.bridge.mailbox.status = 1 then d
  else
    let slot := slotOf (slot % 0x02000000)
    let v := value.getD (d.bridge.mailbox.low + 2 ^ 32 * d.bridge.mailbox.high)
    let m : Mailbox := { win := win, slot := slot, low := bits v 31 0, high := bits v 63 32
                         command := if value.isSome then 2 else 1, status := 1 }
    let d := d.setMailbox m
    if !d.winEnabled win then
      match value with
      | some _ => (d.raise 0xA7F2 1 slot).mailboxEnd 2 0 none
      | none => d.mailboxEnd 2 0 (some 0)
    else if d.bridge.sem.map (fun s => (s.1, s.2.1)) = some (win, slot) then d.mailboxEnd 4 0 none
    else
      let e := if value.isSome then d.writeReaches win slot else d.readReaches win slot
      (e.setMailbox { m with behind := (d.postedTo win).length }).startMailbox

/-- MAILBOX_COMPLETE: the request is answered. -/
def Dev.mailboxAnswered (d : Dev) (r : Remote) : Dev :=
  let m := d.bridge.mailbox
  if m.status ≠ 1 ∨ m.attempts = 0 then d
  else match r with
    | .ok v _ => d.mailboxEnd 2 0 (if m.command = 1 then some v else none)
    | .abort code => d.mailboxEnd 3 code none

/-! ### Request timeouts (R318) -/

/-- REMOTE_REQUEST_TIMEOUT: the attempt is repeated with the same request ID, or the access fails. -/
def Dev.requestTimeout (d : Dev) (u : RemoteUse) : Dev :=
  match u with
  | .slot k =>
    match d.bridge.slots[k.val]? with
    | some s =>
      let w := winOf s.addr
      if s.st = .fetching ∧ s.since + d.winTimeout w < d.now then
        if s.attempts < d.winAttempts w then
          let slot := slotOf (winOffset s.addr)
          let d := (d.setSlot4 k { s with attempts := s.attempts + 1, since := d.now }).remoteSend w s.request slot none
          if s.prefetch then d.remoteSend w s.request ((slot + 8) % 0x02000000) none else d
        else d.fetchFailed k s 0
      else d
    | none => d
  | .write w =>
    match d.bridge.posted.find? (fun p => p.win = w.val) with
    | some p =>
      if p.sent ∧ p.since + d.winTimeout w < d.now then
        if p.attempts < d.winAttempts w then
          let q := { p with attempts := p.attempts + 1, since := d.now }
          (d.setPosted (d.bridge.posted.map (fun x => if x = p then q else x))).remoteSend w p.request (winOffset p.addr) (some p.data)
        else ((d.writeFailed w p.addr p.data 1 0).popWrite w).sendNext w 33
      else d
    | none => d
  | .mailbox =>
    let m := d.bridge.mailbox
    if m.status = 1 ∧ m.attempts ≠ 0 ∧ m.since + d.winTimeout m.win < d.now then
      if m.attempts < d.winAttempts m.win then
        (d.setMailbox { m with attempts := m.attempts + 1, since := d.now }).remoteSend m.win m.request m.slot
          (if m.command = 2 then some (m.low + 2 ^ 32 * m.high) else none)
      else d.mailboxEnd 3 0 none
    else d

/-! ### MSI-X and rings (R327 to R332) -/

/-- Send a message on a vector, or leave it pending under its mask (R332). -/
def Dev.vectorSend (d : Dev) (v : Nat) : Dev :=
  if d.msix.masked.getD v true then { d with msix := { d.msix with pending := d.msix.pending.set v true } } else d.emit (.msix v)

/-- MSIX_VECTOR_UNMASK. -/
def Dev.vectorUnmask (d : Dev) (v : Nat) : Dev :=
  let was := d.msix.pending.getD v false
  let d := { d with msix := { masked := d.msix.masked.set v false, pending := d.msix.pending.set v false } }
  if was then d.emit (.msix v) else d

/-- The index of a ring among the registers of BAR2: receive rings 0 to 31, transmit rings 32 to 63. -/
def txRing (t : Nat) : Nat := 32 + t

/-- A descriptor of a ring is complete: its cause, and its message now or within HOLDOFF (R331, R332). -/
def Dev.ringSignal (d : Dev) (r : Nat) : Dev :=
  let d := d.cause (if r < 32 then 5 else 6)
  let x := d.ring r
  if x.holdoff = 0 then d.vectorSend x.vector
  else if x.signal.isNone then d.setRing r { x with signal := some d.now } else d

/-- MSIX_HOLDOFF_EXPIRY. -/
def Dev.holdoffExpiry (d : Dev) (r : Nat) : Dev :=
  let x := d.ring r
  match x.signal with
  | some s => if s + x.holdoff * usCycles < d.now then (d.setRing r { x with signal := none }).vectorSend x.vector else d
  | none => d

/-- What the block writes of a receive descriptor, from offset 10 on (R328). -/
def rxDesc (written flags src quality stream seq gen epoch origin arrival cval nval name : Nat) : List Byte :=
  le 2 written ++ le 2 flags ++ le 1 src ++ le 1 quality ++ le 4 stream ++ le 4 seq ++ le 4 gen ++ le 4 epoch ++ le 8 origin
    ++ le 8 arrival ++ le 8 cval ++ le 2 nval ++ le 2 name ++ le 4 0

/-- Complete the next receive descriptor of a ring. -/
def Dev.ringPut (d : Dev) (r : Nat) (desc data : List Byte) : Dev :=
  let x := d.ring r
  let d := d.setRing r { x with consumer := (x.consumer + 1) % 2 ^ 16, buffers := x.buffers.drop 1 }
  (d.emit (.dma r (x.consumer % max 1 x.size) desc data)).ringSignal r

/-- The receive descriptor of one part of an item (R328). -/
def Dev.ringPart (d : Dev) (r stream seq : Nat) (it : Item) (i : Nat) (p : Part) : Dev :=
  let flags := 1 + 8 * b2n it.disputed + 16 * b2n it.foreign + 32 * b2n p.tagC.isSome + 64 * b2n p.tagN.isSome
    + 128 * b2n (it.form == .can)
  let desc := rxDesc p.bytes.length flags it.src it.quality (partMark i it.parts.length * 2 ^ 30 + d.globalId stream % 2 ^ 30)
    ((seq + i) % 2 ^ 32) d.log.generation (it.epoch.getD (d.get 0x2020 0x02)) it.origin it.stamp (decVal (p.tagC.getD []) % 2 ^ 64)
    (p.tagN.getD 0) it.name
  d.ringPut r desc p.bytes

/-- The exception ring (R329). -/
def Dev.exceptionRing (d : Dev) : Nat := d.get 0x2700 0x01

/-- A frame goes to the exception ring, or is dropped: cause, arrival stamp, source number and quality (R329). -/
def Dev.exceptionFrame (d : Dev) (cause src stamp quality : Nat) (frame : List Byte) : Dev :=
  let r := d.exceptionRing
  if r < 32 ∧ 0 < (d.ring r).avail then
    let (size, d) := match (d.ring r).buffers.head? with
      | some s => (s, d)
      | none => let (n, d) := d.fresh; (n % 2 ^ 16, d)
    let cut := decide (size < frame.length)
    let data := frame.take size
    let desc := rxDesc data.length (3 + 4 * b2n cut + 256 * cause) src quality 0 0 0 0 0 stamp 0 0 0
    (d.ringPut r desc data).cause 7
  else (d.count 0x2740 0x0C).raise 0xA706 1 cause

/-- Items of a plan that still owe a listener are no longer owed to it; and their number. -/
def dropHand (l : Nat) (pl : Plan) : Plan :=
  { pl with items := pl.items.map (fun i => if bit i.hand l then { i with hand := setBit i.hand l false } else i) }
def owing (l : Nat) (pl : Plan) : Nat := (pl.items.filter (fun i => bit i.hand l)).length

/-- A receive ring loses the items admitted to it and not yet written (R327, R367). -/
def Dev.ringDrop (d : Dev) (r : Nat) : Dev :=
  let l := 272 + r
  let total := ((d.plansSent ++ [d.plan]).map (owing l)).sum
  let d := { d.mapPlans (dropHand l) with owed := SMap.set (fun _ => 0) d.owed l 0 }
  if total = 0 then d
  else (d.count 0x2740 0x0B total).raiseCount 0xA707 2 total (countDetail r)

/-- Control of a ring as written. -/
def Ring.control (x : Ring) (v : Nat) : Ring :=
  { x with enable := bit v 0, vector := bits v 12 8, holdoff := bits v 25 16 }

/-- RING_ENABLE and RING_DISABLE: a write of a ring's Control. -/
def Dev.ringControl (d : Dev) (r v : Nat) : Dev :=
  let x := d.ring r
  let d := d.setRing r (x.control v)
  if r < 32 ∧ x.enable ∧ !bit v 0 then d.ringDrop r else d

/-- RING_BASE_SIZE_WRITE: offset 0x00, 0x04 or 0x08 of the ring's registers. -/
def Dev.ringBase (d : Dev) (r off v : Nat) : Dev :=
  let x := d.ring r
  if x.enable then d.raise 0xA7F2 1 (0x40 * r + off)
  else if off = 0 then d.setRing r { x with base := x.base / 2 ^ 32 * 2 ^ 32 + v }
  else if off = 4 then d.setRing r { x with base := x.base % 2 ^ 32 + v * 2 ^ 32 }
  else if off = 8 then d.setRing r { x with size := v }
  else d

/-- RING_PRODUCER_WRITE: the value, and for a receive ring the buffer sizes of the descriptors handed over. -/
def Dev.ringProducer (d : Dev) (r v : Nat) (sizes : List Nat) : Dev :=
  let x := d.ring r
  d.setRing r { x with producer := v, buffers := if r < 32 then x.buffers ++ sizes else [] }

/-- The result of a transmit descriptor (R330). -/
def Dev.txResult (d : Dev) (t code : Nat) : Dev :=
  let x := d.ring (txRing t)
  let d := d.setRing (txRing t) { x with consumer := (x.consumer + 1) % 2 ^ 16 }
  (d.emit (.dma (txRing t) (x.consumer % max 1 x.size) (le 2 (1 + 2 * code)) [])).ringSignal (txRing t)

/-- A state in which an LF ends a sentence, or what is left of a discarded one (R76). -/
def ParseState.inLine (s : ParseState) : Bool := s == .body || s == .cks || s == .crwait || s == .skip

/-- What the bytes of a descriptor report: none where they end before an LF, or go on after the first LF that ends a
sentence (R82). -/
def hostLine (o stamp quality : Nat) : Context → List Byte → Option (List PEvent)
  | _, [] => none
  | x, [b] => if b = 0x0A then some (parseCode o b.toNat stamp quality x).2 else none
  | x, b :: bs =>
    if b = 0x0A ∧ x.st.inLine then none
    else
      let (y, es) := parseCode o b.toNat stamp quality x
      (hostLine o stamp quality y bs).map (es ++ ·)

/-- An event that accounts for an item (R15). -/
def PEvent.item : PEvent → Bool
  | .bad _ _ | .sentence _ => true
  | _ => false

/-- A descriptor whose bytes are one line that holds an item (R82). -/
def hostEvents (o stamp quality : Nat) (bs : List Byte) : Option (List PEvent) :=
  (hostLine o stamp quality {} bs).filter (fun es => es.any PEvent.item)

/-- HOST_TX_DESCRIPTOR_FETCH: the next descriptor of a transmit ring is fetched and parsed, or taken as a tunnel run
(R49, R82, R330). -/
def Dev.txFetch (d : Dev) (t : Nat) (x : TxDesc) : Dev :=
  let r := d.ring (txRing t)
  let src := 212 + t
  if !d.inService ∨ r.avail = 0 ∨ 2 ≤ d.itemsWaiting src then d
  else if x.readError then d.txResult t 3
  else
    let stamp := x.stamp.getD d.stamp
    match x.tunnel with
    | some (ch, kind) =>
      if 3 ≤ kind ∨ !flagOf (d.row .tunnel ch) 0 31 then d.txResult t 2
      else (d.runItem src ch kind stamp d.quality x.data).txResult t 0
    | none =>
      match hostEvents (d.options src) stamp d.quality x.data with
      | some es =>
        let taken := match es.getLast? with | some (.sentence _) => true | _ => false
        (d.parseEvents src d.now es).txResult t (b2n (!taken))
      | none => (d.malformedItem 1 src stamp).txResult t 1

/-! ### Tunnel egress (R335) -/

/-- A run of a tunnel channel is dropped at egress. -/
def Dev.tunnelDrop (d : Dev) (ch : Nat) : Dev := (d.count 0x2740 0x0B).raise 0xA705 1 ch

/-- A run is released by the ordering stage: it goes to the bound channel on a unit that leads. -/
def Dev.tunnelEgress (d : Dev) (it : Item) : Dev :=
  let row := d.row .tunnel it.sel
  if it.kind ≠ 4 ∨ !d.leads ∨ !flagOf row 0 31 ∨ !flagOf row 0 29 then d
  else
    let n := fieldOf row 0 7 0
    let bs := it.firstBytes
    if flagOf row 0 28 then
      if it.src = 192 + n then d
      else
        let f := canFrameOf bs
        let c := d.canCh n
        if it.runKind = 0 ∨ f.fdf ≠ decide (it.runKind = 2) ∨ 16 ≤ c.tunnel.length ∨ (it.runKind = 2 ∧ d.canMode n = 2) then
          d.tunnelDrop it.sel
        else (d.setCan n { c with tunnel := c.tunnel ++ [f] }).canNext n
    else if it.src = n then d
    else
      let s := d.serCh n
      if it.runKind ≠ 0 ∨ 64 < s.tx.length + bs.length then d.tunnelDrop it.sel
      else (d.setSer n { s with tx := s.tx ++ bs.map (fun b => (b, false)) }).serNext n

end Sys2Proof.Machine
end

