-- ==== Sys2Proof/Machine/Logbook.lean ====
section
/-! DEFINITION. Snapshots, the last-gasp record, the journal's bytes, the export, the scrubber and the counts of each second
(chapter Logbook and field diagnostics). -/

namespace Sys2Proof.Machine

/-! ### Snapshots (R153, R405, R408 to R410) -/

/-- An entry's keep class is L. -/
def keepL (k : Nat) : Bool := match dictFind (k / 256) (k % 256) with | some r => r.keep == .L | none => false

/-- The pitch record (R153). -/
def Dev.pitchRecord (d : Dev) : PitchRecord := { stamp := d.stamp, period := d.pitch.period, rtc := d.rtc }

/-- Sequence number of the newest valid copy. -/
def Logbook.newest (l : Logbook) : Nat := max ((l.a.map (·.seq)).getD 0) ((l.b.map (·.seq)).getD 0)

/-- The next write goes to copy B: copy A holds the higher sequence number. -/
def Logbook.toB (l : Logbook) : Bool :=
  match l.a, l.b with
  | none, _ => false
  | some _, none => true
  | some a, some b => decide (b.seq < a.seq)

/-- Step 1: counters, histograms, ledger state and pitch record, each at one instant. -/
def Dev.snapTake (d : Dev) : Snap :=
  { seq := (d.log.newest + 1) % 2 ^ 32, stamp := d.stamp, counters := d.od.filter (fun kv => keepL kv.1)
    hist := d.log.hist, strings := d.ledger.strings, pitch := d.pitchRecord }

/-- A trigger: a snapshot starts, or is held while one runs; the interval restarts at each snapshot (R408). -/
def Dev.snapTrigger (d : Dev) : Dev :=
  if d.log.running.isSome then { d with log := { d.log with heldTrigger := true } }
  else { d with log := { d.log with running := some d.snapTake, since := d.now } }

/-- The copy being written, by the outcome: `none` leaves it invalid. -/
def Logbook.store (l : Logbook) (x : Option Snap) : Logbook :=
  if l.toB then { l with b := x, running := none } else { l with a := x, running := none }

/-- A running snapshot ends: its copy is complete, or an MRAM write at an address failed twice (R408, R410). -/
def Dev.snapEnd (d : Dev) (fault : Option Nat) : Dev :=
  match d.log.running with
  | none => d
  | some x =>
    match fault with
    | some a => { d with log := d.log.store none }.raise 0xA622 2 a
    | none =>
      let d := { d with log := { d.log.store (some x) with accum := x.strings }
                        clk := { d.clk with rtcMark := d.clk.rtcMark && !d.clk.rtcRuns } }
      (d.put 0x2A00 0x03 x.stamp).put 0x2A00 0x04 x.seq

/-- SNAPSHOT_COMPLETE: a held trigger starts the next snapshot. -/
def Dev.snapComplete (d : Dev) (fault : Option Nat) : Dev :=
  if d.log.running.isNone then d
  else
    let held := d.log.heldTrigger
    let d := d.snapEnd fault
    let d := { d with log := { d.log with heldTrigger := false } }
    if held then d.snapTrigger else d

/-- A snapshot taken whole within a step: one that runs completes first (R344, R372, R408). -/
def Dev.snapNow (d : Dev) : Dev :=
  let d := d.snapEnd none
  let d := { d with log := { d.log with heldTrigger := false } }
  (d.snapTrigger).snapEnd none

/-- SNAPSHOT_INTERVAL_EXPIRY. -/
def Dev.snapInterval (d : Dev) : Dev :=
  if d.on ∧ d.log.since + d.get 0x2A00 0x01 * secCycles ≤ d.now then d.snapTrigger else d

/-- A reset or a brown-out cuts off a running snapshot: its copy is invalid (R409, R411). -/
def Logbook.cut (l : Logbook) : Logbook :=
  match l.running with
  | some _ => { l.store none with heldTrigger := false }
  | none => { l with heldTrigger := false }

/-- The copy that boot uses (R409). -/
def Logbook.chosen (l : Logbook) : Option Snap :=
  match l.a, l.b with
  | some a, some b => some (if a.seq < b.seq then b else a)
  | some a, none => some a
  | none, b => b

/-! ### Journal entries and the last-gasp (R411 to R413) -/

/-- The 32 bytes of a journal entry. -/
def JEntry.bytes (e : JEntry) : List Byte :=
  le 8 e.stamp ++ le 4 e.number ++ le 2 e.code ++ le 1 e.flags ++ le 1 e.quality ++ le 4 e.detail ++ le 4 e.lost ++ le 4 e.rtc
    ++ le 4 0

/-- The 512 bytes of a last-gasp record. -/
def Gasp.bytes (g : Gasp) : List Byte :=
  let head := ascii "EULG" ++ le 1 1 ++ le 1 g.cause ++ le 1 g.entries.length ++ le 1 (sat 255 g.lost) ++ le 8 g.stamp
    ++ le 4 g.period ++ le 4 g.rtc ++ le 4 g.generation ++ le 4 g.latch ++ le 4 g.next ++ le 2 (ofI32 g.peak) ++ List.replicate 18 0
  let body := padTo 448 ((g.entries.map JEntry.bytes).flatten)
  head ++ le 8 (crc64 (head ++ body)) ++ body

/-- The record that a brown-out writes: cause bits, with bit 3 for a thermal trip at the same instant (R351, R411). -/
def Dev.gaspTake (d : Dev) (cause : Nat) : Gasp :=
  let d := d.journalFlush
  let es := d.log.queue.map Prod.fst
  { cause := cause, lost := es.length - 14, stamp := d.stamp, period := d.pitch.period, rtc := d.rtc
    generation := d.log.generation, latch := d.vault.latch, next := ((es.head?).map (·.number)).getD d.log.next
    peak := toI32 (d.get 0x2007 0x02), entries := es.take 14 }

/-- An entry that the keep-alive domain journals itself (R412). -/
def Dev.journalKa (d : Dev) (code sev detail : Nat) : Dev := d.journalQueue code (sev + 4) detail d.stamp

/-! ### Reading (R414, R415) -/

/-- A journal entry that is retained in MRAM. -/
def Dev.jEntry (d : Dev) (n : Nat) : Option JEntry := d.journalFlush.log.journal.find? (fun e => e.number = n)

/-- The counter of a number: index and subindex, 0 and 0 when unassigned. -/
def counterEntry (n : Nat) : Nat × Nat :=
  let e := Config.counterNumber n
  if keepL (odKey e.1 e.2) then e else (0, 0)

/-- The value of a counter. -/
def Dev.counterValue (d : Dev) (n : Nat) : Nat := let e := counterEntry n; if e = (0, 0) then 0 else d.get e.1 e.2

/-- Bin `b` of histogram `h`. -/
def Dev.hist (d : Dev) (h b : Nat) : Nat := SMap.get (fun _ => 0) d.log.hist (32 * h + b)

/-- HISTOGRAM_SELECT: the bins at one instant. -/
def Dev.histSelect (d : Dev) (h : Nat) : Dev :=
  { d.put 0x2A02 0x01 h with log := { d.log with histCopy := (List.range 32).map (fun b => d.hist h b) } }

/-- The export (R415). -/
def Dev.exportBytes (d : Dev) : List Byte :=
  let d := d.journalFlush
  let head := padTo 64 (ascii "EULX" ++ le 1 1 ++ le 8 Config.serial.toNat ++ le 2 d.node ++ le 8 d.stamp ++ le 4 d.rtc ++ le 4 d.log.next)
  let slot (i : Nat) : List Byte :=
    match d.log.journal.find? (fun e => e.number % 4096 = i) with | some e => e.bytes | none => List.replicate 32 0
  head ++ ((List.range 2048).map (fun n => le 8 (d.counterValue n))).flatten
    ++ ((List.range 2048).map (fun k => le 4 (SMap.get (fun _ => 0) d.log.hist k))).flatten
    ++ ((List.range 4096).map slot).flatten

/-! ### Scrubbing, dwell and temperature (R407, R416, R439) -/

/-- An uncorrectable word: address and location. -/
def Dev.scrubBad (d : Dev) (a : Nat) (at_ : ScrubAt) : Dev :=
  let d := { d.count 0x2A20 0x02 with mirror := { d.mirror with hUncorr := d.mirror.hUncorr + 1 } }
  let d := d.raise 0xA620 3 a
  match at_ with
  | .segment seg => if d.shadows then d.requestSegment seg else d.progressLost
  | .slot s ok =>
    let d := d.setSlot s {}
    if ok then d
    else if d.shadows then d.requestSegment (segId 1 (s / 256))
    else let (v, d) := d.fresh; d.setSeq s v
  | .other => d.progressLost

/-- SCRUB_PASS: a complete pass, with the words it corrected and those it could not. -/
def Dev.scrubPass (d : Dev) (corrected : Nat) (bad : List (Nat × ScrubAt)) : Dev :=
  if !d.on then d
  else
    let d := { d.count 0x2A20 0x01 corrected with mirror := { d.mirror with hScrub := d.mirror.hScrub + corrected } }
    let d := bad.foldl (fun d b => d.scrubBad b.1 b.2) d
    d.count 0x2A20 0x03

/-- Bin of a supply histogram: 5 mV steps from a lower edge. -/
def supplyBin (low mv : Nat) : Nat := if mv < low then 0 else min 31 ((mv - low) / 5)

/-- Bin of histogram 0. -/
def dwellBin (tj : Int) : Nat := if tj < -40 then 0 else min 31 ((tj + 40) / 5).toNat

/-- DWELL_SECOND: the readings of VDD_CORE and VDD_SRAM in millivolts. -/
def Dev.dwellSecond (d : Dev) (core sram : Nat) : Dev :=
  if d.pw.st == .config || d.pw.st == .service then
    ((d.histAdd 0 (dwellBin d.pw.tj)).histAdd 1 (supplyBin 720 core)).histAdd 2 (supplyBin 770 sram)
  else d

/-- TEMPERATURE_SAMPLE. -/
def Dev.tempSample (d : Dev) (tj : Int) : Dev :=
  if d.pw.st == .off then d
  else
    let d := { d with pw := { d.pw with tj := tj } }.put 0x2007 0x01 (ofI32 tj)
    if toI32 (d.get 0x2007 0x02) < tj then d.put 0x2007 0x02 (ofI32 tj) else d

end Sys2Proof.Machine
end

