-- ==== Sys2Proof/Machine/Ledger.lean ====
section
/-! DEFINITION. Energy, dwell, interval close, records and their emission (chapter Lease ledger). -/

namespace Sys2Proof.Machine

/-! ### Strings (R391) -/

/-- Fields of a ledger row. -/
def ledValid (r : List Word32) : Bool := flagOf r 0 31
def ledPower (r : List Word32) : Bool := flagOf r 0 30
def ledPowEn (r : List Word32) : Bool := flagOf r 0 29
def ledSocEn (r : List Word32) : Bool := flagOf r 0 28
def ledTempEn (r : List Word32) : Bool := flagOf r 0 27
def ledStream (r : List Word32) : Nat := fieldOf r 0 17 0
def ledChg (r : List Word32) : Nat := fieldOf r 1 29 16
def ledDis (r : List Word32) : Nat := fieldOf r 1 13 0
def ledPow (r : List Word32) : Nat := fieldOf r 2 29 16
def ledSoc (r : List Word32) : Nat := fieldOf r 2 13 0
def ledTemp (r : List Word32) : Nat := fieldOf r 3 29 16
def ledCapacity (r : List Word32) : Nat := word r 4
def ledGap (r : List Word32) : Nat := word r 6

/-- A two's complement field of four bits. -/
def exp4 (v : Nat) : Int := if v < 8 then (v : Int) else (v : Int) - 16
def ledEexp (r : List Word32) : Int := exp4 (fieldOf r 3 7 4)
def ledPexp (r : List Word32) : Int := exp4 (fieldOf r 3 3 0)

/-- A two's complement reading of 16 bits. -/
def toI16 (v : Nat) : Int := if v < 32768 then (v : Int) else (v : Int) - 65536

/-- `v × m × 10^e`, rounded toward zero. -/
def scaled (v m : Int) (e : Int) : Int := if 0 ≤ e then v * m * 10 ^ e.toNat else Int.tdiv (v * m) (10 ^ (-e).toNat)

/-- The numeric value of a probe on an item (R110, R111). -/
def Dev.ledValue (d : Dev) (probe : Nat) (it : Item) : Option Int :=
  match probeValue (d.row .probe probe) it.isCan it.firstBytes with | .num v => some v | _ => none

/-! ### Energy, bands and dwell (R394, R395) -/

/-- Add energy in units of 2^-32 mWh to the charge or the discharge accumulator, of the running or of the next interval. -/
def LString.energy (x : LString) (next charge : Bool) (e : Nat) : LString :=
  if charge then
    let t := x.remC + e
    let x := { x with remC := t % 2 ^ 32 }
    if next then { x with nextC := x.nextC + t / 2 ^ 32 } else { x with chg := (x.chg + t / 2 ^ 32) % 2 ^ 64 }
  else
    let t := x.remD + e
    let x := { x with remD := t % 2 ^ 32 }
    if next then { x with nextD := x.nextD + t / 2 ^ 32 } else { x with dis := (x.dis + t / 2 ^ 32) % 2 ^ 64 }

/-- Units of 2^-24 tick in a millisecond. -/
def dwellMs : Nat := 200000 * 2 ^ 24

/-- Add a span, in units of 2^-24 tick, to a bin. -/
def LString.dwell (x : LString) (next : Bool) (bin span : Nat) : LString :=
  let t := x.remMs + span
  let x := { x with remMs := t % dwellMs }
  let add (m : SMap Nat) : SMap Nat := SMap.set (fun _ => 0) m bin (sat 0xFFFFFFFF (SMap.get (fun _ => 0) m bin + t / dwellMs))
  if next then { x with nextBins := add x.nextBins } else { x with bins := add x.bins }

/-- State-of-charge band. -/
def socBand (v : Int) : Nat := min 7 ((max 0 v).toNat * 8 / 1000)

/-- Temperature band. -/
def tempBand (r : List Word32) (v : Int) : Nat :=
  let low := toI16 (fieldOf r 5 31 16)
  if v < low then 0 else min 7 ((v - low).toNat / max 1 (fieldOf r 5 15 0) + 1)

/-- The edges of the C-rate bands. -/
def cEdges : List (Nat × Nat) := [(1, 10), (1, 4), (1, 2), (1, 1), (2, 1), (3, 1), (5, 1)]

/-- C-rate band of a power of `num ÷ den` watts. -/
def cBand (cap num den : Nat) : Nat :=
  if cap = 0 ∨ num = 0 then 0 else (cEdges.filter (fun e => decide (e.1 * cap * den ≤ num * e.2))).length

/-- C-rate band of an energy in units of 2^-32 mWh over a span in units of 2^-24 tick. -/
def cBandEnergy (cap e span : Nat) : Nat := cBand cap (e * 3600000000) (span * 1280)

/-- Energy of a power in watts over a span, in units of 2^-32 mWh. -/
def powerEnergy (p span : Nat) : Nat := p * span * 4 / 11250000

/-! ### Updates (R393 to R396) -/

/-- Where a part of an update belongs. -/
inductive Belongs where
  | running
  | next
  /-- It would have belonged to the closed interval. -/
  | late (next : Bool)
  deriving DecidableEq, Repr

/-- The interval of a stamp for a string (R396). -/
def Dev.belongs (d : Dev) (n st : Nat) : Belongs :=
  match d.ledger.closing with
  | some b => if st < b then (if st < d.ledger.lastEnd then .late false else .running) else .next
  | none =>
    if d.ledger.pending.contains n then (if st < d.ledger.lastEnd then .late true else .next)
    else if st < d.ledger.lastEnd then .late false else .running

/-- To the next interval's accumulators. -/
def Belongs.toNext : Belongs → Bool
  | .next | .late true => true
  | _ => false

/-- Set a flag of the record of an interval. -/
def LString.mark (x : LString) (next : Bool) (b : Nat) : LString :=
  if next then { x with nextFlags := setBit x.nextFlags b true } else { x with flags := setBit x.flags b true }

/-- Replace a string's state. -/
def Dev.setString (d : Dev) (n : Nat) (x : LString) : Dev :=
  { d with ledger := { d.ledger with strings := SMap.set (fun _ => ({} : LString)) d.ledger.strings n x } }

/-- A span of POWER energy or dwell, split at the boundary that it crosses: parts in pu with their interval. -/
def Dev.spanParts (d : Dev) (n ref st delta : Nat) : List (Nat × Bool) :=
  match d.ledger.closing with
  | some b => if ref < b ∧ b ≤ st ∧ ref ≤ st then [(b - ref, false), (st - b, true)] else [(delta, (d.belongs n st).toNext)]
  | none => [(delta, (d.belongs n st).toNext)]

/-- What an item gives a string: registers, power, state of charge, temperature. -/
structure Reading where
  chg : Option Int
  dis : Option Int
  pow : Option Int
  soc : Option Int
  temp : Option Int

/-- Read an item with a string's probes. -/
def Dev.reading (d : Dev) (r : List Word32) (it : Item) : Reading :=
  let v (on : Bool) (p : Nat) : Option Int := if on then d.ledValue p it else none
  { chg := v (!ledPower r) (ledChg r), dis := v (!ledPower r) (ledDis r), pow := v (ledPowEn r) (ledPow r)
    soc := v (ledSocEn r) (ledSoc r), temp := v (ledTempEn r) (ledTemp r) }

/-- A required probe yields no value. -/
def Reading.lacks (x : Reading) (r : List Word32) : Bool := if ledPower r then x.pow.isNone else x.chg.isNone || x.dis.isNone

/-- The reference after an update: registers, power, bands, stamp. -/
def LString.refer (x : LString) (r : List Word32) (v : Reading) (st : Nat) : LString :=
  let p := v.pow.map (fun p => satI32 (scaled p 1 (ledPexp r)))
  { x with
    refC := v.chg.getD x.refC, refD := v.dis.getD x.refD, refStamp := st, valid := true, refP := p.getD x.refP
    s := if ledSocEn r then (v.soc.map socBand).getD x.s else 0
    t := if ledTempEn r then (v.temp.map (tempBand r)).getD x.t else 0
    c := if ledPowEn r then (p.map (fun p => cBand (ledCapacity r) p.natAbs 1)).getD x.c else x.c }

/-- DELTA: the energy of an update, charge and discharge; `none` for a register reset. -/
def deltaEnergy (x : LString) (r : List Word32) (v : Reading) : Option (Nat × Nat) :=
  let c := v.chg.getD 0
  let e := v.dis.getD 0
  if c < x.refC ∨ e < x.refD then none
  else some ((scaled (c - x.refC) (2 ^ 32) (ledEexp r)).toNat, (scaled (e - x.refD) (2 ^ 32) (ledEexp r)).toNat)

/-- An item updates a string (R393 to R396). -/
def Dev.ledUpdate (d : Dev) (n : Nat) (r : List Word32) (it : Item) : Dev :=
  let v := d.reading r it
  if v.lacks r then d.count 0x2920 0x02
  else
    let d := d.count 0x2920 0x01
    let x := d.ledger.string n
    let st := it.origin
    if !x.valid then d.setString n (x.refer r v st)
    else
      let per := d.pitch.period24
      let delta := (st + 2 ^ 64 - x.refStamp) % 2 ^ 64
      let inside := ledGap r = 0 || decide (delta ≤ ledGap r)
      let where_ := d.belongs n st
      let next := where_.toNext
      let (d, x) := match where_ with
        | .late _ => (d.count 0x2920 0x05, x.mark next 7)
        | _ => (d, x)
      let parts := d.spanParts n x.refStamp st delta
      let (d, x, c) :=
        if ledPower r then
          if inside then
            (d, parts.foldl (fun x q => x.energy q.2 (decide (x.refP < 0)) (powerEnergy x.refP.natAbs (q.1 * per))) x, x.c)
          else ((d.count 0x2920 0x04).raise 0xA802 1 n, x.mark next 2, x.c)
        else
          match deltaEnergy x r v with
          | some (ec, ed) =>
            let c := if ledPowEn r then x.c else cBandEnergy (ledCapacity r) ((ed : Int) - ec).natAbs (delta * per)
            (d, (x.energy next true ec).energy next false ed, c)
          | none => ((d.count 0x2920 0x03).raise 0xA801 1 n, x.mark next 3, if ledPowEn r then x.c else 0)
      let x := { x with c := c }
      let bin := 64 * x.s + 8 * x.t + c
      let x := if inside then parts.foldl (fun x q => x.dwell q.2 bin (q.1 * per)) x else x
      d.setString n (x.refer r v st)

/-- An item released by the ordering stage updates every string of its stream on a unit that leads (R393). -/
def Dev.ledItem (d : Dev) (stream : Nat) (it : Item) : Dev :=
  if !d.leads then d
  else (d.rowsOf .ledger).foldl (fun d r =>
    if ledValid r.2 ∧ ledStream r.2 = stream then d.ledUpdate r.1 r.2 it else d) d

/-- A ledger row is applied: a changed MSTREAM or METHOD clears the reference; a string that begins has a PARTIAL
interval (R391, R397). -/
def Dev.ledApplied (d : Dev) (n : Nat) (old new : List Word32) : Dev :=
  let x := d.ledger.string n
  let x := if ledStream old ≠ ledStream new ∨ ledPower old ≠ ledPower new then { x with valid := false } else x
  let x := if ledValid new ∧ !ledValid old then { x.mark false 1 with start := d.stamp } else x
  d.setString n x

/-! ### Closing and records (R396 to R399, R401, R402) -/

/-- LEDGER_INTERVAL_CLOSE: one leg after the boundary. A string whose interval began at the boundary has had its record
formed already, by the partner (R401). -/
def Dev.ledClose (d : Dev) : Dev :=
  match d.ledger.closing with
  | some b =>
    if d.leads ∧ b + d.legPu ≤ d.stamp then
      let ns := (List.range 64).filter (fun n => ledValid (d.row .ledger n) && decide ((d.ledger.string n).start < b))
      { d with ledger := { d.ledger with closing := none, lastEnd := b, pending := ns } }
    else d
  | none => d

/-- The pitch that has begun starts an interval boundary (R396). -/
def Dev.ledBoundary (d : Dev) : Dev :=
  let d := d.ledClose
  if d.pitch.num % max 1 (d.get 0x2900 0x01) = 0 then { d with ledger := { d.ledger with closing := some (d.pitch.num * 2 ^ 24) } }
  else d

/-- The sequence number that the delta of a change made now will take (R209, R222). -/
def Dev.nextDelta (d : Dev) : Option Nat := if d.mirrors then some d.mirror.deltaSeq else none

/-- SHA-256 as bytes. -/
def shaBytes (bs : List Byte) : List Byte := be 32 (Config.sha256 bs).toNat

/-- Bytes 0 to 119 of a record. -/
def Dev.ledHeader (d : Dev) (n flags : Nat) (x : LString) (finish : Nat) : List Byte :=
  ascii "EULR" ++ be 1 1 ++ be 1 n ++ be 2 flags ++ be 4 (d.get 0x2910 0x03) ++ be 8 (d.get 0x2910 0x06)
    ++ be 1 (d.get 0x2800 0x01) ++ be 1 (b2n (ledPower (d.row .ledger n))) ++ be 2 (if d.paired then d.base else d.node)
    ++ be 8 x.start ++ be 8 finish ++ be 8 x.chg ++ be 8 x.dis ++ shaBytes x.binBytes ++ padTo 32 d.ledger.head

/-- The string's state once its record is formed: the next interval has begun. -/
def LString.closed (x : LString) (finish : Nat) : LString :=
  { x with chg := (x.chg + x.nextC) % 2 ^ 64, dis := (x.dis + x.nextD) % 2 ^ 64, bins := x.nextBins, flags := x.nextFlags
           start := finish, nextC := 0, nextD := 0, nextBins := [], nextFlags := 0 }

/-- The `$PEUDL` sentence of a record (R399). -/
def Dev.ledSentence (d : Dev) (x : LRecord) : List Byte :=
  let c : List Byte := [0x2C]
  let at_ := beAt x.bytes
  let body := ascii "PEUDL," ++ hexN 3 (d.node % 4096) ++ c ++ decimal x.string ++ c ++ decimal x.number ++ c
    ++ decimal (x.finish / 2 ^ 24) ++ c ++ hexN 2 (at_ 6 2 % 256) ++ c ++ decimal (at_ 40 8) ++ c ++ decimal (at_ 48 8) ++ c
    ++ hexN 16 (ofBe ((shaBytes (x.bytes.take 120)).take 8)) ++ c ++ hexN 128 (at_ 120 64)
  ascii "$" ++ body ++ ascii "*" ++ hexN 2 (xorAll body).toNat ++ [0x0D, 0x0A]

/-- The record goes to the Ledger ring (R328, R399). -/
def Dev.ledRing (d : Dev) (x : LRecord) : Dev :=
  let r := d.get 0x2900 0x03
  let fits := match (d.ring r).buffers.head? with | some s => decide (2232 ≤ s) | none => true
  if r < 32 ∧ 0 < (d.ring r).avail ∧ fits = true then
    d.ringPut r (rxDesc x.bytes.length 1 245 d.quality (d.globalId (d.get 0x2212 0x02) % 2 ^ 30) x.number d.log.generation
      (d.get 0x2020 0x02) x.finish x.finish 0 0 0xFFF) x.bytes
  else (d.count 0x2920 0x08).raise 0xA803 1 x.number

/-- A record is emitted: to MRAM with every accumulator, to the ring, and as a sentence (R399, R400). -/
def Dev.ledEmit (d : Dev) (x : LRecord) : Dev :=
  let rs := ((x.number, x.bytes) :: d.ledger.records).take 256
  let d := { d with ledger := { d.ledger with records := rs }, log := { d.log with accum := d.ledger.strings } }
  let d := d.put 0x2910 0x05 ((rs.getLast?.map Prod.fst).getD 0)
  (d.ledRing x).internal 245 1 x.finish (d.ledSentence x)

/-- The delta that a record waits for has been acknowledged, or no team is formed any more. -/
def Dev.ledFree (d : Dev) (x : LRecord) : Bool :=
  match x.waits with
  | some q => !d.mirrors || !(decide (d.mirror.deltaSeq = q) || d.mirror.deltas.any (fun y => decide (y.seq = q)))
  | none => true

/-- Emit the records that wait for nothing, oldest first (R401). -/
def Dev.ledFlush (d : Dev) : Dev :=
  let go := d.ledger.owed.takeWhile (fun x => d.ledFree x)
  if go.isEmpty then d
  else go.foldl (fun d x => d.ledEmit x) { d with ledger := { d.ledger with owed := d.ledger.owed.drop go.length } }

/-- LEDGER_RECORD_SIGNED: the record of the next string is formed, signed or left UNSIGNED, and chained
(R397, R398). A signature that a tamper alarm ends is one without a key: the vault is KEYLESS from then on (R386). -/
def Dev.ledSigned (d : Dev) : Dev :=
  match d.ledger.pending with
  | [] => d
  | n :: rest =>
    if !d.leads then d
    else
      let key := d.keyOf (d.get 0x2900 0x02) 2
      let d := if d.get 0x2910 0x06 = 0 then d.put 0x2910 0x06 Config.serial.toNat else d
      let x := d.ledger.string n
      let number := d.get 0x2910 0x03
      let finish := d.ledger.lastEnd
      let flags := b2n key.isNone ||| x.flags ||| (32 * b2n d.ledger.restart) ||| (64 * b2n d.ledger.stateChange)
      let head := d.ledHeader n flags x finish
      let sig := match key with | some k => be 64 (Config.ecdsaSign (keyBits k) head).toNat | none => List.replicate 64 0
      let rec_ : LRecord := { string := n, number := number, bytes := head ++ sig ++ x.binBytes, finish := finish, waits := d.nextDelta }
      let d := (d.setString n (x.closed finish)).put 0x2910 0x03 ((number + 1) % 2 ^ 32)
      let d := { d with ledger := { d.ledger with pending := rest, head := shaBytes head, owed := d.ledger.owed ++ [rec_]
                                                  stateChange := false, restart := false } }
      let d := d.count 0x2920 0x06
      let d := if key.isNone then (d.count 0x2920 0x07).raise 0xA800 2 n else d
      d.ledFlush

/-- Next record number, head digest and serial of the chain as MRAM holds them (R364, R402). -/
def Dev.ledBoot (d : Dev) : Dev :=
  match d.ledger.records with
  | (n, bs) :: _ =>
    let d := ((d.put 0x2910 0x03 ((n + 1) % 2 ^ 32)).put 0x2910 0x06 (beAt bs 12 8)).put 0x2910 0x05
      ((d.ledger.records.getLast?.map Prod.fst).getD 0)
    { d with ledger := { d.ledger with head := shaBytes (bs.take 120) } }
  | [] => d

/-- Boot restores the accumulators; the interval of every string begins at this instant (R397, R400). -/
def Dev.ledRestore (d : Dev) (lost : Bool) : Dev :=
  let one (n : Nat) : LString :=
    let x := SMap.get (fun _ => ({} : LString)) d.log.accum n
    { chg := x.chg, dis := x.dis, remC := x.remC, remD := x.remD, start := d.stamp
      flags := 2 + 16 * b2n (lost && d.log.accum.any (fun kv => kv.1 = n)) }
  (List.range 64).foldl (fun d n =>
    if ledValid (d.row .ledger n) || d.log.accum.any (fun kv => kv.1 = n) then d.setString n (one n) else d) d

end Sys2Proof.Machine
end

