-- ==== Sys2Proof/Machine/Vault.lean ====
section
/-! DEFINITION. Key slots, unseal, import and erasure, life-cycle transitions, challenge-response and tamper response (chapter
Ngueno vault, life cycle and tamper). -/

namespace Sys2Proof.Machine

/-! ### Slots and the unseal (R374 to R378) -/

/-- Replace a key slot. -/
def Dev.setKeySlot (d : Dev) (n : Nat) (x : KeySlot) : Dev :=
  { d with vault := { d.vault with slots := SMap.set (fun _ => ({} : KeySlot)) d.vault.slots n x } }

/-- The life-cycle state that this boot read, as its code (R370). -/
def Dev.lifeCode (d : Dev) : Nat := d.get 0x2800 0x01

/-- Slot status as 0x2801 reads it (R376). -/
def KeySlot.report (x : KeySlot) : Nat :=
  match x.a with
  | some c => if x.status = 0 then 0
    else x.status * 2 ^ 28 + c.bind * 2 ^ 25 + b2n c.carry * 2 ^ 24 + c.version % 256 * 2 ^ 8 + c.len * 2 ^ 6 + c.mask % 64
  | none => 0

/-- A status for every slot that is not empty. -/
def Dev.statusAll (d : Dev) (v : Nat) : Dev :=
  { d with vault := { d.vault with slots := d.vault.slots.map (fun kv => (kv.1, { kv.2 with status := v })) } }

/-- The status of a non-empty slot at an unseal, with the alert that it raises (R375): code, detail. -/
def slotStatus (life n : Nat) (x : KeySlot) : Nat × Option (Nat × Nat) :=
  match x.a, x.b with
  | some a, some b =>
    if a.bind ≠ life then (4, none)
    else if !a.tagOk then (2, some (0xA502, n))
    else if !b.tagOk then (2, some (0xA502, 64 + n))
    else if a = b then (1, none)
    else (3, some (0xA503, n))
  | none, none => (0, none)
  | some a, none => if a.bind ≠ life then (4, none) else (2, some (0xA502, 64 + n))
  | none, some b => if b.bind ≠ life then (4, none) else (2, some (0xA502, n))

/-- Boot step 3: the vault unseals or enters KEYLESS; the alerts it raises (R375, R378). -/
def Dev.unseal (d : Dev) (life : Life) (rootOk : Bool) : Dev × List (Nat × Nat × Nat) :=
  let cause :=
    if d.vault.latch ≠ 0 then (if d.vault.coldAlarm then 3 else 1)
    else if life = .blank ∨ life = .retired then 4
    else if !rootOk then 5
    else 0
  if cause = 0 then
    let one (kv : Nat × KeySlot) : Nat × KeySlot := (kv.1, { kv.2 with status := (slotStatus life.code kv.1 kv.2).1 })
    let alerts := d.vault.slots.filterMap (fun kv => (slotStatus life.code kv.1 kv.2).2.map
      (fun a => (a.1, if a.1 = 0xA503 then 3 else 2, a.2)))
    ({ d with vault := { d.vault with st := 1, cause := 0, slots := d.vault.slots.map one } }, alerts)
  else
    let d := d.statusAll (if life = .retired then 6 else 5)
    ({ d with vault := { d.vault with st := 2, cause := cause } }, [(0xA501, 2, cause)])

/-- Without a usable pair key, a unit with rope protection treats its rope as lost (R382). -/
def Dev.ropeKeyCheck (d : Dev) : Dev := if d.protected ∧ d.pairKey.isNone ∧ d.team.rope then d.ropeLost true else d

/-! ### Import and erasure (R379 to R381) -/

/-- Offset of the wrapped key in an import package. -/
def wrapOffset (pkg : List Byte) : Nat := if beAt pkg 4 1 = 0 then 8 else 72

/-- Key bytes of a LEN code (R376). -/
def keyBytesOf (len : Nat) : Nat := 8 + 8 * len

/-- A package is well formed (R379). -/
def importFits (pkg : List Byte) : Bool :=
  let kind := beAt pkg 4 1
  let kw := beAt pkg 5 1
  let len := beAt pkg 7 1
  beAt pkg 0 4 = ofBe (ascii "EUKI") && kind < 2 && (if kind = 0 then kw < 64 else kw = 0) && beAt pkg 6 1 < 64
    && 1 ≤ len && len ≤ 3 && decide (pkg.length = wrapOffset pkg + 16 + keyBytesOf len)

/-- A commit of an import package: the wrapping key is taken now (R379). One that comes while an import runs is ignored. -/
def Dev.importStart (d : Dev) (pkg : List Byte) : Dev :=
  if d.vault.importing.isSome then d
  else
    let key :=
      if beAt pkg 4 1 = 0 then d.keyOf (beAt pkg 5 1) 5
      else (Config.ecdh d.lifeCode (slice pkg 8 64)).map
        (fun x => shaBytes (be 32 x.toNat ++ be 8 Config.serial.toNat ++ be 1 (beAt pkg 6 1)))
    { d.put 0x2810 0x02 1 with vault := { d.vault with importing := some (pkg, key) } }

/-- Result of an import, and the copy to write when it is 2. -/
def Dev.importResult (d : Dev) (pkg : List Byte) (key : Option (List Byte)) : Nat × Option KeyCopy :=
  if d.vault.st ≠ 1 then (7, none)
  else if !importFits pkg then (6, none)
  else match key with
    | none => (if beAt pkg 4 1 = 0 then 4 else 6, none)
    | some k =>
      match Config.keyUnwrap (keyBits k) (pkg.drop (wrapOffset pkg)) with
      | none => (3, none)
      | some m =>
        let bind := beAt m 1 1
        let len := beAt m 3 1
        if bind ≠ d.lifeCode then (5, none)
        else if len ≠ beAt pkg 7 1 then (6, none)
        else (2, some { key := (m.drop 8).take (keyBytesOf len), mask := beAt m 0 1 % 64, bind := bind
                        carry := bit (beAt m 2 1) 0, len := len, version := beAt m 4 4, tagOk := true })

/-- An import ends with a result. -/
def Dev.importEnd (d : Dev) (r target : Nat) (c : Option KeyCopy) : Dev :=
  let d := { d.put 0x2810 0x02 r with vault := { d.vault with importing := none } }
  match c with
  | some c => ((d.setKeySlot target { a := some c, b := some c, status := 1 }).count 0x2840 0x03).ropeKeyCheck
  | none => (d.count 0x2840 0x04).raise 0xA505 1 (r * 2 ^ 8 + target % 256)

/-- KEY_IMPORT_COMPLETE. -/
def Dev.importDone (d : Dev) : Dev :=
  match d.vault.importing with
  | some (pkg, key) =>
    let (r, c) := d.importResult pkg key
    d.importEnd r (beAt pkg 6 1) c
  | none => d

/-- SLOT_ERASE of a slot 0 to 63 (R381). -/
def Dev.slotErase (d : Dev) (n : Nat) : Dev := (d.setKeySlot n {}).ropeKeyCheck

/-! ### Transitions (R371 to R373) -/

/-- The result of a transition package's checks: 1 when it is accepted (R372). -/
def Dev.transitionCheck (d : Dev) (pkg : List Byte) : Nat :=
  let target := Life.ofCode (beAt pkg 4 1)
  let now := Life.ofCode d.lifeCode
  if d.pw.st ≠ .config then 6
  else if pkg.length ≠ 144 ∨ beAt pkg 0 4 ≠ ofBe (ascii "EULC") ∨ 2 ≤ beAt pkg 5 1 ∨ beAt pkg 6 2 ≠ 0
      ∨ (target = some .retired ∧ (slice pkg 16 64).any (· ≠ 0)) then 10
  else if beAt pkg 8 8 ≠ Config.serial.toNat then 4
  else match now, target with
    | some a, some b =>
      if !a.permits b then 5
      else if !Config.ecdsaVerify d.vault.verify (pkg.take 80) (pkg.drop 80) then 3
      else if d.get 0x2800 0x07 = 0 then 7
      else 1
    | _, _ => 5

/-- A refusal or failure of a transition. -/
def Dev.transitionFail (d : Dev) (r : Nat) : Dev :=
  { d.put 0x2812 0x02 r with vault := { d.vault with transition := none } }.raise 0xA508 1 r

/-- A commit of a transition package. One that comes while a transition runs is ignored. -/
def Dev.transitionStart (d : Dev) (pkg : List Byte) : Dev :=
  if d.vault.transition.isSome then d
  else
    let r := d.transitionCheck pkg
    if r ≠ 1 then d.transitionFail r
    else
      let t : Transition := { target := (Life.ofCode (beAt pkg 4 1)).getD .retired, verify := slice pkg 16 64
                              carry := bit (beAt pkg 5 1) 0 && d.vault.st = 1 }
      { d.put 0x2812 0x02 1 with vault := { d.vault with transition := some t } }.snapTrigger

/-- Steps 2 and 4: usable slots marked CARRY are bound to the new state, the others keep their binding (R372, R373). -/
def Dev.carrySlots (d : Dev) (t : Transition) : Dev :=
  let move (c : KeyCopy) : KeyCopy := { c with bind := t.target.code }
  let one (x : KeySlot) : KeySlot :=
    if t.carry ∧ x.status = 1 ∧ x.a.any (·.carry) then { x with a := x.a.map move, b := x.b.map move } else x
  { d with vault := { d.vault with slots := d.vault.slots.map (fun kv => (kv.1, one kv.2)) } }

/-- Step 3 onward of a transition whose fuses are burnt, short of the reboot: what the block keeps of it. -/
def Dev.transitionDone (d : Dev) (t : Transition) : Dev :=
  let old := d.lifeCode
  let d := d.carrySlots t
  { d.put 0x2812 0x02 2 with vault := { d.vault with transition := none, moved := some (old, t.target.code) }
                             ledger := { d.ledger with stateChange := true } }

/-! ### Challenge-response (R383) -/

/-- CHALLENGE_WRITE. -/
def Dev.challengeWrite (d : Dev) (bs : List Byte) : Dev :=
  let d := (d.setDomain 0x2830 0x01 bs).put 0x2830 0x04 0
  { d with vault := { d.vault with challenge := none, response := [] } }

/-- A refusal of a challenge. -/
def Dev.challengeRefuse (d : Dev) (r : Nat) : Dev := (d.put 0x2830 0x04 r).count 0x2840 0x07

/-- CHALLENGE_START. -/
def Dev.challengeStart (d : Dev) : Dev :=
  let c := SMap.get (fun _ => ([] : List Byte)) d.domains (odKey 0x2830 0x01)
  if d.get 0x2830 0x04 = 1 then d
  else
    let d := { d with vault := { d.vault with response := [] } }
    if d.vault.st ≠ 1 then d.challengeRefuse 3
    else match d.keyOf (d.get 0x2830 0x02) 3 with
      | none => d.challengeRefuse 4
      | some k =>
        if c.length ≠ 16 then d.challengeRefuse 5
        else
          let msg := c ++ be 8 Config.serial.toNat ++ be 1 d.lifeCode ++ padTo 32 d.ledger.head
          { d.put 0x2830 0x04 1 with vault := { d.vault with challenge := some (msg, k) } }

/-- CHALLENGE_COMPLETE. -/
def Dev.challengeDone (d : Dev) : Dev :=
  match d.vault.challenge with
  | some (msg, k) =>
    let r := (be 32 (Config.hmac (keyBits k) msg).toNat).take 16
    ({ d.put 0x2830 0x04 2 with vault := { d.vault with challenge := none, response := r } }).count 0x2840 0x06
  | none => d

/-! ### Tamper (R384 to R388) -/

/-- A tamper source is enabled: 0 to 3 the inputs, 4 the mesh, 5 to 7 the monitors (R384). -/
def Dev.tamperOn (d : Dev) (src : Nat) : Bool :=
  if src < 4 then bit (d.get 0x2820 0x01) (8 * src + 7)
  else if src = 4 then bit (d.get 0x2820 0x02) 0
  else bit (d.get 0x2820 0x03) (src - 5)

/-- A key operation of an engine is aborted (R386). -/
def Dev.abortOp (d : Dev) (engine : Nat) : Dev := (d.count 0x2840 0x02).raise 0xA504 2 engine

/-- Running key operations end: import, challenge, signature, transition; `copyA` when the import had written copy A,
`fused` when the transition had begun step 3, whose fuses are completed with no slot carried (R386, R387). -/
def Dev.abortAll (d : Dev) (copyA fused : Bool) : Dev :=
  let d := match d.vault.importing with
    | some (pkg, key) =>
      let target := beAt pkg 6 1
      let d := if copyA then
          match (d.importResult pkg key).2 with
          | some c => d.setKeySlot target { d.slot target with a := some c }
          | none => d
        else d
      (d.importEnd 8 target none).abortOp 5
    | none => d
  let d := if d.vault.challenge.isSome then
      ({ d.put 0x2830 0x04 6 with vault := { d.vault with challenge := none } }).abortOp 3
    else d
  let d := if d.leads ∧ d.ledger.pending ≠ [] ∧ (d.keyOf (d.get 0x2900 0x02) 2).isSome then d.abortOp 2 else d
  match d.vault.transition with
  | some t =>
    if fused then ({ d with vault := { d.vault with transition := some { t with carry := false } } } : Dev).abortOp 5
    else (d.transitionFail 8).abortOp 5
  | none => d

/-- The vault enters KEYLESS after the unseal: the key cache is zeroised (R378, R385). -/
def Dev.keyless (d : Dev) (cause : Nat) : Dev :=
  let d := d.statusAll (if d.lifeCode = 5 then 6 else 5)
  ({ d with vault := { d.vault with st := 2, cause := cause } }).raise 0xA501 2 cause

/-- TAMPER_ALARM of a source (R385): latched while VDD_KA is present, with the response of the device state. -/
def Dev.tamper (d : Dev) (src : Nat) (copyA fused : Bool) : Dev :=
  if d.pw.noKa ∨ !d.tamperOn src then d
  else
    let first := d.vault.latch = 0
    let v := { d.vault with latch := setBit d.vault.latch src true, stamp := if first then d.stamp else d.vault.stamp }
    let d : Dev := { d with vault := v }.count 0x2840 0x01
    if d.pw.st == .bivouac || d.pw.st == .shelter || d.pw.st == .off then
      let d := d.journalKa 0xA500 3 d.vault.latch
      { d with vault := { d.vault with coldAlarm := d.vault.coldAlarm || !(d.pw.st == .off), owed := true } }
    else
      let d := d.raise 0xA500 3 d.vault.latch
      if d.vault.st = 1 then ((d.abortAll copyA fused).keyless 2).ropeKeyCheck
      else if d.vault.st = 2 then d.abortAll copyA fused
      else d

/-- TAMPER_LATCH_CLEAR: the bits written as 1, less those whose source still alarms (R388). -/
def Dev.latchClear (d : Dev) (v alarming : Nat) : Dev :=
  let clear (l : Nat) : Nat := (List.range 8).foldl (fun l i => if bit v i ∧ !bit alarming i then setBit l i false else l) l
  let d := { d with vault := { d.vault with latch := clear d.vault.latch } }
  if d.vault.latch = 0 then ({ d with vault := { d.vault with owed := false } }).clearAlert 0xA500 else d

end Sys2Proof.Machine
end

