-- ==== Sys2Proof/Machine/Stage.lean ====
section
/-! DEFINITION. The tables behind the access blocks: the check of every row that is staged or applied at once (R6,
R96 to R103, R109, R117, R118, R124, R161, R162, R170, R250, R252, R298, R333, R391), the staged list and its commit
(R118, R119), the configuration digest (R39), and the validation at a SERVICE request (R38). -/

namespace Sys2Proof.Machine

/-! ### Tables (R31) -/

/-- Words of a row. -/
def tblLen : Tbl → Nat
  | .stream => 8 | .lset => 16 | .probe => 8 | .name => 4 | .lastval => 16 | .group => 16 | .custody => 4
  | .gate => 4 | .filter => 4 | .ledger => 7 | .txgroup => 5 | .binding => 3 | .tunnel => 2

/-- A row select names a row of the table. -/
def tblHasRow (t : Tbl) (n : Nat) : Bool :=
  match t with
  | .stream => n < 262144
  | .lset => n < 65536
  | .probe => n < 16384
  | .name => n < 4094
  | .lastval => n < 524288
  | .group => n < 4096
  | .custody => n < 208 || (272 ≤ n && n < 304)
  | .gate | .filter => n < 1024
  | .ledger | .txgroup | .binding => n < 64
  | .tunnel => n < 256

/-- Rows that take effect at once, in CONFIG only (R250, R252, R333). -/
def tblAtOnce : Tbl → Bool
  | .txgroup | .binding | .tunnel => true
  | _ => false

/-- A row as it stands in the table itself, mode overlays apart. -/
def Dev.baseRow (d : Dev) (t : Tbl) (n : Nat) : List Word32 := SMap.get (fun _ => emptyRow) d.rows (rowKey t n)

/-- What the staged list holds for a row. -/
def Dev.stagedRow (d : Dev) (t : Tbl) (n : Nat) : Option (List Word32) :=
  (d.staged.find? (fun s => s.tbl = t ∧ s.row = n)).map (fun s => if s.empty then [] else s.words)

/-- A row as it will stand once every staged row is applied (R102, R118). -/
def Dev.futureRow (d : Dev) (t : Tbl) (n : Nat) : List Word32 := (d.stagedRow t n).getD (d.baseRow t n)

/-- The filled rows of a table as they will stand. -/
def Dev.futureRows (d : Dev) (t : Tbl) : List (Nat × List Word32) :=
  let st := (d.staged.filter (fun s => s.tbl = t)).map (fun s => (s.row, if s.empty then [] else s.words))
  let base := (d.rows.filter (fun kv => kv.1 / 2 ^ 32 = t.index)).map (fun kv => (kv.1 % 2 ^ 32, kv.2))
  (st ++ base.filter (fun r => !st.any (fun o => o.1 = r.1))).filter (fun r => r.2.any (· ≠ 0))

/-- A stamp or a 48-byte slot as words. -/
def wordsOf (bs : List Byte) : List Word32 :=
  (List.range ((bs.length + 3) / 4)).map (fun i => BitVec.ofNat 32 (leAt bs (4 * i) 4))

/-- The 96 bytes of a last-value slot (R115). -/
def Dev.slotBytes (d : Dev) (s : Nat) : List Byte :=
  let x := d.lastSlot s
  slice x.value 0 82 ++ le 1 x.value.length ++ le 1 (b2n x.valid + 2 * b2n x.can + 4 * b2n x.fromActive)
    ++ le 8 x.stamp ++ le 4 (d.seqOf s)

/-- Sixteen words, the first of them given. -/
def padWords (ws : List Word32) : List Word32 := (ws ++ List.replicate 16 0).take 16

/-- The window that an Operation 1 fills (R31, R100, R103, R109, R115, R124, R170). -/
def Dev.readRow (d : Dev) (t : Tbl) (n : Nat) : List Word32 :=
  let ws := (padWords (d.baseRow t n)).take (tblLen t)
  let w32 (v : Nat) : Word32 := BitVec.ofNat 32 v
  padWords <| match t with
    | .stream =>
      let tat := SMap.get (fun _ => 0) d.tat n
      ws.take 6 ++ [w32 tat, w32 (tat / 2 ^ 32)]
    | .probe => ws.take 7 ++ [w32 (SMap.get (fun _ => 0) d.probeFails n)]
    | .group =>
      if grpNmem ws = 0 then ws.take 14 ++ [w32 (2 ^ 31), 0]
      else ws.take 14 ++ [w32 (selWord (d.sel n)), w32 (d.sel n).switches]
    | .custody =>
      [w32 (match d.baseRow t n with | [] => (if n < 208 then 100000 else 0) | r => word r 0), w32 (d.outstanding n),
       w32 (SMap.get (fun _ => 0) d.overruns n), w32 (SMap.get (fun _ => 0) d.worst n)]
    | .lastval => wordsOf (slice (d.slotBytes (n / 2)) (64 * (n % 2)) (if n % 2 = 0 then 64 else 32))
    | _ => ws

/-! ### Row rules -/

/-- A word has none of the bits of a mask. -/
def clearOf (ws : List Word32) (i mask : Nat) : Bool := word ws i &&& mask = 0

/-- The first cause of a list whose condition holds; 0 for none (R118). -/
def firstCause (cs : List (Bool × Nat)) : Nat := ((cs.find? Prod.fst).map Prod.snd).getD 0

/-- The KIND of a stream row, and its own fields (R96). -/
def rowKind (ws : List Word32) : Nat := fieldOf ws 1 31 29

/-- Bits of the key that a KIND uses (R96). -/
def kindMask (k : Nat) : Nat :=
  2 ^ 64 - 2 ^ 61 + (match k with
    | 1 => 2 ^ 61 - 2 ^ 11
    | 2 => 2 ^ 61 - 2 ^ 47
    | 3 => 2 ^ 30 - 1
    | 4 => 2 ^ 8 - 1
    | 5 => 3
    | 6 => 2 ^ 12 - 1
    | _ => 0)

/-- Stream rows (R96, R97, R101). -/
def streamRules (ws : List Word32) : List (Bool × Nat) :=
  let k := rowKind ws
  let key := rowKeyOf ws
  let src := bits key 60 53
  let code (i : Nat) : Nat := bits key (16 + 6 * i) (11 + 6 * i)
  [ (k = 7, 4), (k = 0 && (ws.take 6).any (· ≠ 0), 4),
    (key &&& (2 ^ 64 - 1 - kindMask k) ≠ 0, 4),
    (k = 1 && (List.range 5).any (fun i => 36 ≤ code i), 4),
    (k = 5 && key % 4 = 3, 4),
    (!clearOf ws 2 0x1FF000 || !clearOf ws 3 0x03FF0000 || !clearOf ws 4 0x0F000000 || !clearOf ws 5 0xFFF80000, 4),
    (!rowMember ws && rowGroup ws ≠ 0, 4),
    (rowInt ws = 0 && rowBurst ws ≠ 0, 4), (16 < rowPcount ws, 4),
    (k = 1 && !(src < 192 || (208 ≤ src && src < 244)), 5), (k = 2 && !(192 ≤ src && src < 208), 5),
    (rowInt ws ≠ 0 && rowBurst ws = 0, 5), (16384 < rowPfirst ws + rowPcount ws, 5),
    (rowAuth ws && k ≠ 3, 6) ]

/-- Operators that a PKIND has (R112). -/
def opTop (pkind : Nat) : Nat := match pkind with | 0 | 4 | 5 => 8 | 1 => 2 | _ => 1

/-- Field probes (R109, R112). -/
def probeRules (ws : List Word32) : List (Bool × Nat) :=
  let k := probeKind ws
  let field := probeField ws
  let off := fieldOf ws 0 31 24
  let canKind := k = 4 ∨ k = 5
  let bytes := canKind ∨ (k = 3 ∧ field = 0)
  [ (!clearOf ws 0 0x00C80000 || !clearOf ws 6 0xFFFF0000, 4), (fieldOf ws 0 21 20 = 3, 4), (6 ≤ k, 4),
    (fieldOf ws 0 14 12 = 7 || (k ≠ 0 && fieldOf ws 0 14 12 ≠ 0), 4), (opTop k < probeOp ws, 4),
    (k < 3 && field = 0, 4), (decide canKind && field ≠ 0, 4), (!decide bytes && off ≠ 0, 4),
    (decide bytes && 222 < off, 5) ]

/-- Source names (R98): the s: rule of R80, NUL-padded. -/
def nameRules (ws : List Word32) : List (Bool × Nat) :=
  let bs := rowBytes ws 4
  [ (((bs.dropWhile (· ≠ 0)).any (· ≠ 0)) || bs.getD 15 0 ≠ 0, 4), (tagRule 0x73 (nameOf ws) ≠ some true, 5) ]

/-- Listener sets (R103). -/
def lsetRules (ws : List Word32) : List (Bool × Nat) :=
  [ (!clearOf ws 9 0xFFFF0000 || (ws.drop 10).any (· ≠ 0), 4) ]

/-- Redundancy groups (R124); `canMember` says that a member is a CAN stream. -/
def groupRules (ws : List Word32) (canMember : Bool) : List (Bool × Nat) :=
  let n := grpNmem ws
  let ranks := List.range 4
  [ (grpMode ws = 3, 4), (n = 1 || 5 ≤ n, 4),
    (!clearOf ws 0 0x07FC0000 || ranks.any (fun r => !clearOf ws (1 + r) 0xFFFC0000) || !clearOf ws 10 0x7FFFC000
      || !clearOf ws 11 0xFFFFFFE0, 4),
    (n = 0 && (ws.take 14).any (· ≠ 0), 4),
    (n ≠ 0 && ranks.any (fun r => n ≤ r && (word ws (1 + r) ≠ 0 || grpAge ws r ≠ 0)), 4),
    (n ≠ 0 && ranks.any (fun r => r < n && grpAge ws r = 0), 4),
    (n ≠ 0 && (grpDisint ws = 0 || grpHyst ws = 0), 4),
    (n ≠ 0 && canMember && grpSfield ws ≠ 0, 4),
    (grpMode ws = 1 && n = 2, 5), (n ≠ 0 && grpMode ws = 1 && !grpCmp ws, 5),
    (n ≠ 0 && ranks.any (fun r => r < n && ranks.any (fun q => q < r && grpMember ws q = grpMember ws r)), 5),
    (grpSfield ws ≠ 0 && (grpValidSet ws).isEmpty, 5) ]

/-- Custody rows (R170). A host row's LATENCY must be 0: another value is a stage error 4 as R6 gives it, though R170 also
calls it out of range (DESIGN CHOICE, log entry 75). -/
def custodyRules (n : Nat) (ws : List Word32) : List (Bool × Nat) :=
  let l := word ws 0
  [ (208 ≤ n && l ≠ 0, 4), (n < 208 && (l < 100 || 16000000 < l), 5) ]

/-- Two gate windows overlap in a leg where both are present (R162). -/
def gatesClash (a b : List Word32) : Bool :=
  flagOf a 0 31 && flagOf b 0 31 && ((fieldOf a 1 25 16 ^^^ fieldOf b 1 25 16) &&& fieldOf a 1 9 0 &&& fieldOf b 1 9 0) = 0
    && fieldOf a 2 23 0 < fieldOf b 3 23 0 && fieldOf b 2 23 0 < fieldOf a 3 23 0

/-- Gate rows (R161, R162), beside the other rows of the port. -/
def gateRules (d : Dev) (others : List (List Word32)) (ws : List Word32) : List (Bool × Nat) :=
  let v := flagOf ws 0 31
  let m := fieldOf ws 1 9 0
  [ (!v && ws.any (· ≠ 0), 4),
    (!clearOf ws 0 0x7FFFFF00 || !clearOf ws 1 0xFC00FC00 || !clearOf ws 2 0xFF000000 || !clearOf ws 3 0xFF000000, 4),
    (v && fieldOf ws 0 7 0 = 0, 5), (fieldOf ws 1 25 16 &&& m ≠ fieldOf ws 1 25 16, 5), (m / 2 ^ d.legExp ≠ 0, 5),
    (v && (fieldOf ws 3 23 0 ≤ fieldOf ws 2 23 0 || d.legPu - d.hemPu < fieldOf ws 3 23 0), 5),
    (others.any (fun o => gatesClash ws o), 5) ]

/-- CAN filters (R298), beside the other filters of the channel. -/
def filterRules (others : List (List Word32)) (ws : List Word32) : List (Bool × Nat) :=
  let v := flagOf ws 0 31
  [ (!v && ws.any (· ≠ 0), 4),
    (!clearOf ws 0 0x03FFFFC0 || !clearOf ws 1 0xE0000000 || !clearOf ws 2 0xE0000000 || !clearOf ws 3 0xFFFFFFFE, 4),
    (fieldOf ws 0 29 28 = 3 || fieldOf ws 0 27 26 = 3, 4),
    (v && fieldOf ws 0 29 28 = 0 && (!clearOf ws 1 0x1FFFF800 || !clearOf ws 2 0x1FFFF800), 4),
    (v && others.any (fun o => flagOf o 0 31 && fieldOf o 0 5 0 = fieldOf ws 0 5 0 && flagOf o 0 30 ≠ flagOf ws 0 30), 5) ]

/-- Ledger strings (R391). -/
def ledgerRules (ws : List Word32) : List (Bool × Nat) :=
  let v := flagOf ws 0 31
  let power := flagOf ws 0 30
  let badExp (e : Nat) : Bool := 7 ≤ e && e ≤ 9
  [ (!v && ws.any (· ≠ 0), 4),
    (!clearOf ws 0 0x07FC0000 || !clearOf ws 1 0xC000C000 || !clearOf ws 2 0xC000C000 || !clearOf ws 3 0xC000FF00, 4),
    (badExp (fieldOf ws 3 7 4) || badExp (fieldOf ws 3 3 0), 4), (power && word ws 1 ≠ 0, 4),
    (flagOf ws 0 27 && fieldOf ws 5 15 0 = 0, 4), (power && !flagOf ws 0 29, 5) ]

/-- Backbone groups (R250). -/
def txgroupRules (ws : List Word32) : List (Bool × Nat) :=
  let dest := word ws 0
  let fmt := fieldOf ws 1 15 14
  let port := fieldOf ws 1 31 16
  [ (dest = 0 && ws.any (· ≠ 0), 4), (!clearOf ws 1 0xF0 || !clearOf ws 2 0x00FFFFC0 || !clearOf ws 4 0xFFFF, 4),
    (fmt = 3, 4), (fmt ≠ 0 && port ≠ 0, 4),
    (isMulticast dest && (word ws 3 ≠ 0 || fieldOf ws 4 31 16 ≠ 0), 4),
    (dest = 0xFFFFFFFF, 5), (dest ≠ 0 && fmt = 0 && port = 0, 5), (dest ≠ 0 && fieldOf ws 1 3 0 = 0, 5),
    (dest ≠ 0 && fieldOf ws 2 31 24 = 0, 5) ]

/-- Receive bindings (R252), beside the other bindings. -/
def bindingRules (addresses : List Nat) (others : List (List Word32)) (ws : List Word32) : List (Bool × Nat) :=
  let fmt := fieldOf ws 1 15 14
  let port := fieldOf ws 1 31 16
  let full := word ws 0 ≠ 0
  [ (!clearOf ws 1 0xFF0 || !clearOf ws 2 0xFFFFFFC0, 4),
    (decide full && (fieldOf ws 1 3 0 = 0 || (fmt = 1 && port ≠ 48100) || (fmt = 2 && port ≠ 48101)
      || (fmt = 3 && port ≠ 48102) || !(isMulticast (word ws 0) || addresses.contains (word ws 0))), 5),
    (decide full && others.any (fun o => word o 0 = word ws 0 && fieldOf o 1 31 16 = port
      && fieldOf o 1 3 0 &&& fieldOf ws 1 3 0 ≠ 0), 1) ]

/-- Tunnel channels (R333). -/
def tunnelRules (ws : List Word32) : List (Bool × Nat) :=
  let v := flagOf ws 0 31
  let can := flagOf ws 0 28
  let serIn := v && flagOf ws 0 30 && !can
  [ (!v && ws.any (· ≠ 0), 4), (!clearOf ws 0 0x0FFFC000 || !clearOf ws 1 0xFFFF0000, 4),
    (fieldOf ws 0 7 0 ≥ (if can then 16 else 192), 5),
    (serIn && (fieldOf ws 1 15 8 = 0 || fieldOf ws 1 7 0 = 0), 5) ]

/-- KIND 5 and KIND 6 rows and the groups that name them stand as R102 asks, where their counterparts exist. -/
def Dev.placementClash (d : Dev) (t : Tbl) (n : Nat) (ws : List Word32) : Bool :=
  let names (g s : Nat) : Bool := let r := d.futureRow .stream s; rowKind r = 6 && word r 0 = g
  match t with
  | .stream =>
    let k := rowKind ws
    (k = 5 && n ≠ d.get 0x2212 (word ws 0 % 4 + 1))
      || (k = 6 && (let g := d.futureRow .group (word ws 0); grpNmem g ≠ 0 && grpVstream g ≠ n))
      || (k ≠ 0 && (d.futureRows .group).any (fun g => grpNmem g.2 ≠ 0 && grpVstream g.2 = n && !names g.1 n))
  | .group =>
    grpNmem ws ≠ 0 && ((rowKind (d.futureRow .stream (grpVstream ws)) ≠ 0 && !names n (grpVstream ws))
      || (d.futureRows .stream).any (fun s => rowKind s.2 = 6 && word s.2 0 = n && s.1 ≠ grpVstream ws))
  | _ => false

/-- The stage error of a row that already stands in the staged list, 0 for none: reserved values first, then ranges,
placement of KIND 5 and 6, duplicates and the place in the buckets (R102, R118). -/
def Dev.rowError (d : Dev) (t : Tbl) (n : Nat) (ws : List Word32) : Nat :=
  let others (t : Tbl) (same : Nat → Bool) : List (List Word32) :=
    ((d.futureRows t).filter (fun r => r.1 ≠ n && same r.1)).map Prod.snd
  let any : Nat → Bool := fun _ => true
  firstCause <| match t with
    | .stream =>
      let keys := (others .stream any).map rowKeyOf
      streamRules ws ++ [(d.placementClash .stream n ws, 7), (rowKind ws ≠ 0 && keys.contains (rowKeyOf ws), 1),
        (rowKind ws ≠ 0 && !Config.placeable (keys.map (BitVec.ofNat 64)) (BitVec.ofNat 64 (rowKeyOf ws)), 2)]
    | .lset => (n = 0, 5) :: lsetRules ws
    | .probe => probeRules ws
    | .name => nameRules ws ++ [((others .name any).any (fun o => nameOf o = nameOf ws), 1)]
    | .group =>
      groupRules ws ((List.range (grpNmem ws)).any (fun r => rowKind (d.futureRow .stream (grpMember ws r)) = 2))
        ++ [(d.placementClash .group n ws, 7)]
    | .custody => custodyRules n ws
    | .gate => gateRules d (others .gate (fun m => m / 256 = n / 256)) ws
    | .filter => filterRules (others .filter (fun m => m / 64 = n / 64)) ws
    | .ledger => ledgerRules ws
    | .txgroup => txgroupRules ws
    | .binding => bindingRules ((List.range 4).map d.ipv4) (others .binding any) ws
    | .tunnel => tunnelRules ws
    | .lastval => []

/-! ### Digest (R39) -/

/-- Continue the configuration digest, and set CFG_MODIFIED, naming the first change that sets it. -/
def Dev.cfgContinue (d : Dev) (bs : List Byte) (detail : Nat) : Dev :=
  let ones := 2 ^ 64 - 1
  let was := bit (d.get 0x2000 0x0C) 4
  let d := (d.put 0x2000 0x0E (crcRun (d.get 0x2000 0x0E ^^^ ones) bs ^^^ ones)).sticky 0x2000 0x0C 16
  if was then d else d.raise 0xA5F3 1 detail

/-- The words of a row as applied, up to its length (R39): the words that only the RVK writes at their values on
application. -/
def appliedWords (s : Staged) : List Word32 :=
  if s.empty then List.replicate (tblLen s.tbl) 0
  else
    let ws := (padWords s.words).take (tblLen s.tbl)
    match s.tbl with
    | .group => ws.take 14 ++ [BitVec.ofNat 32 (2 ^ 31), 0]
    | _ => ws

/-- The bytes that an applied row contributes. -/
def appliedBytes (s : Staged) : List Byte :=
  if s.tbl = .lastval then be 2 s.tbl.index ++ be 4 (s.row / 2 * 2)
  else be 2 s.tbl.index ++ be 4 s.row ++ ((appliedWords s).map (fun w => be 4 w.toNat)).flatten

/-! ### Staging (R31, R118) -/

/-- An access block. -/
def Dev.block (d : Dev) (t : Tbl) : Block := SMap.get (fun _ => ({} : Block)) d.blocks t.index
def Dev.setBlock (d : Dev) (t : Tbl) (b : Block) : Dev :=
  { d with blocks := SMap.set (fun _ => ({} : Block)) d.blocks t.index b }
def Dev.blockStatus (d : Dev) (t : Tbl) (s : Nat) : Dev := d.setBlock t { d.block t with status := s }

/-- Refuse a stage with Status 5 (R102, R118, R122, R250). -/
def Dev.stageRefuse (d : Dev) (t : Tbl) (err : Nat) : Dev :=
  (((d.blockStatus t 5).put 0x2301 0x05 err).count 0x2310 0x0A).raise 0xA2C5 1 err

/-- The words that a stage stores: the row's length, without the words that only the RVK writes. -/
def storedWords (t : Tbl) (ws : List Word32) : List Word32 :=
  (padWords ws).take (match t with | .stream => 6 | .probe => 7 | .group => 14 | .custody => 1 | t => tblLen t)

/-- Put a row into the staged list, in place of an earlier stage of the same row. -/
def Dev.addStaged (d : Dev) (s : Staged) : Dev :=
  let kept := d.staged.filter (fun x => !(x.tbl = s.tbl ∧ x.row = s.row))
  let d := { d with staged := kept ++ [s] }
  d.put 0x2301 0x01 d.staged.length

/-- Rows that the staged list holds at most (R118). -/
def Dev.stagedTop (d : Dev) : Nat := if d.inService then 256 else 4096

/-- Stage a row, or refuse it (R118). -/
def Dev.stage (d : Dev) (s : Staged) : Dev :=
  let fresh := !d.staged.any (fun x => x.tbl = s.tbl ∧ x.row = s.row)
  let after := d.addStaged s
  let err :=
    if d.commit.isSome then 8
    else if fresh ∧ d.stagedTop ≤ d.staged.length then 3
    else if s.empty then (if s.tbl = .lset ∧ s.row = 0 then 5 else 0)
    else after.rowError s.tbl s.row s.words
  if err = 0 then after.blockStatus s.tbl 3 else d.stageRefuse s.tbl err

/-- A row as the table keeps it: an empty row holds nothing. -/
def keptWords (ws : List Word32) : List Word32 := if ws.all (· = 0) then [] else ws

/-- Apply a row that takes effect at once (R39, R250, R252, R333). -/
def Dev.applyAtOnce (d : Dev) (s : Staged) : Dev :=
  let err := if s.empty then 0 else d.rowError s.tbl s.row s.words
  if err ≠ 0 then d.stageRefuse s.tbl err
  else
    let d := (d.setRow s.tbl s.row (if s.empty then [] else keptWords s.words)).blockStatus s.tbl 3
    d.cfgContinue (appliedBytes s) (s.tbl.index * 256)

/-- Operations 2 and 3 of an access block (R31, R103, R117, R170). -/
def Dev.tableStage (d : Dev) (t : Tbl) (empty : Bool) : Dev :=
  let b := d.block t
  if !tblHasRow t b.row then d.blockStatus t 4
  else
    let s : Staged :=
      if empty then
        match t with
        | .custody => { tbl := t, row := b.row, words := [if b.row < 208 then 100000 else 0], empty := false }
        | .lastval => { tbl := t, row := b.row / 2 * 2, words := [], empty := true }
        | _ => { tbl := t, row := b.row, words := [], empty := true }
      else { tbl := t, row := b.row, words := storedWords t b.window, empty := false }
    if tblAtOnce t then d.applyAtOnce s else d.stage s

/-- Operation 1 (R31, R117): the last-value block keeps the whole slot from a read of its first row. -/
def Dev.tableRead (d : Dev) (tr : Transport) (t : Tbl) : Dev :=
  let b := d.block t
  if !tblHasRow t b.row then d.blockStatus t 4
  else if t = .lastval then
    let s := b.row / 2
    let whole := wordsOf (d.slotBytes s)
    if b.row % 2 = 0 then
      d.setBlock t { b with status := 2, window := padWords (whole.take 16), slotSnap := some (s, tr.code, whole) }
    else
      let held := match b.slotSnap with
        | some (s', c, ws) => if s' = s ∧ c = tr.code then ws else whole
        | none => whole
      d.setBlock t { b with status := 2, window := padWords (held.drop 16), slotSnap := none }
  else d.setBlock t { b with status := 2, window := d.readRow t b.row }

/-! ### Commit (R118, R119) -/

/-- Ascending order of access-block index and row number (R39). -/
def insertStaged (s : Staged) : List Staged → List Staged
  | [] => [s]
  | x :: r => if rowKey s.tbl s.row ≤ rowKey x.tbl x.row then s :: x :: r else x :: insertStaged s r

/-- The effects of one applied row (R101, R109, R117, R119, R124, R170, R257, R391). -/
def Dev.applyRow (d : Dev) (s : Staged) : Dev :=
  let d := d.count 0x2310 0x09
  if s.tbl = .lastval then d.setSlot (s.row / 2) {}
  else
    let old := d.baseRow s.tbl s.row
    let new := if s.empty then [] else keptWords s.words
    let d := d.setRow s.tbl s.row new
    match s.tbl with
    | .stream => { d with tat := SMap.set (fun _ => 0) d.tat s.row 0
                          tagged := d.tagged.map (fun x => if x.stream = s.row ∧ x.oldTat.isNone then
                            { x with oldTat := some (d.commits, SMap.get (fun _ => 0) d.tat s.row) } else x)
                          twins := if rowKeyOf old = rowKeyOf new then d.twins else d.twins.filter (fun w => w.stream ≠ s.row) }
    | .probe => { d with probeFails := SMap.set (fun _ => 0) d.probeFails s.row 0
                         tagged := d.tagged.map (fun x => { x with stale := s.row :: x.stale }) }
    | .group => d.setSel s.row (d.sel s.row).applied
    | .custody => { d with overruns := SMap.set (fun _ => 0) d.overruns s.row 0
                           worst := SMap.set (fun _ => 0) d.worst s.row 0 }
    | .ledger => d.ledApplied s.row old new
    | _ => d

/-- Apply every staged row at once; `leg` is the start stamp of the leg that first uses them (R39, R118, R119). -/
def Dev.applyStaged (d : Dev) (leg : Nat) : Dev :=
  match d.staged.foldr insertStaged [] with
  | [] => { d with commit := none }
  | s :: r =>
    let rows := s :: r
    let d := rows.foldl Dev.applyRow d
    let d : Dev := { d with staged := [], commit := none, commits := d.commits + 1 }
    let d := ((d.put 0x2301 0x01 0).put 0x2301 0x03 2).put 0x2301 0x06 leg
    d.cfgContinue ((rows.map appliedBytes).flatten) (s.tbl.index * 256)

/-- The commit's target leg begins (R119). -/
def Dev.commitBoundary (d : Dev) (leg : Nat) : Dev :=
  if d.commit = some leg then { d with mirror := { d.mirror with applied := true } }.applyStaged leg else d

/-- A write of Commit target that the entry takes (R118): refused, or pending. -/
def Dev.commitTarget (d : Dev) (target : Nat) : Dev :=
  let refuse (s : Nat) : Dev := (d.put 0x2301 0x03 s).raise 0xA2C5 1 (s * 256)
  if d.staged.isEmpty then refuse 5
  else if target % d.legPu ≠ 0 then refuse 4
  else if target < d.legOf d.stamp + 2 * d.legPu then refuse 3
  else ({ d with commit := some target }).put 0x2301 0x03 1

/-- Discard the staged list (R118). -/
def Dev.stagedDiscard (d : Dev) : Dev :=
  let d := if d.commit.isSome then d.put 0x2301 0x03 6 else d
  ({ d with staged := [], commit := none }).put 0x2301 0x01 0

/-! ### Validation at a SERVICE request (R38) -/

/-- Windows of a port that carry class 7 in a leg, as the gate list will stand, in order of OPEN. -/
def Dev.futureSevens (d : Dev) (p j : Nat) : List Nat :=
  let open_ := ((d.futureRows .gate).filter (fun r => r.1 / 256 = p && flagOf r.2 0 31 && bit (word r.2 0) 7
    && j &&& fieldOf r.2 1 9 0 = fieldOf r.2 1 25 16)).map (fun r => fieldOf r.2 2 23 0)
  open_.mergeSort (· ≤ ·)

/-- Each later master beacon of a leg finds a window of its own (R151): due instants, windows left. -/
def beaconsFit : List Nat → List Nat → Bool
  | [], _ => true
  | due :: ds, ws =>
    match ws.dropWhile (fun w => w < due) with
    | [] => false
    | _ :: r => beaconsFit ds r

/-- R102: KIND 5 and KIND 6 rows and their groups are all there. -/
def Dev.placementWhole (d : Dev) : Bool :=
  (List.range 3).all (fun i => let r := d.futureRow .stream (d.get 0x2212 (i + 1)); rowKind r = 5 && word r 0 % 4 = i)
    && (d.futureRows .group).all (fun g => grpNmem g.2 = 0 ||
      (let r := d.futureRow .stream (grpVstream g.2); rowKind r = 6 && word r 0 = g.1))
    && (d.futureRows .stream).all (fun s => rowKind s.2 ≠ 6 ||
      (let g := d.futureRow .group (word s.2 0); grpNmem g ≠ 0 && grpVstream g = s.1))

/-- R125: members have rows that name their group, and are all sentence or all CAN streams. -/
def Dev.groupsWhole (d : Dev) : Bool :=
  (d.futureRows .group).all (fun g =>
    let rows := (List.range (grpNmem g.2)).map (fun r => d.futureRow .stream (grpMember g.2 r))
    rows.all (fun r => rowMember r && rowGroup r = g.1 && (rowKind r = 1 || rowKind r = 2 || rowKind r = 3))
      && (rows.all (fun r => rowKind r = 2) || rows.all (fun r => rowKind r ≠ 2)))

/-- R139. -/
def Dev.pitchFails (d : Dev) : Bool :=
  let b := d.get 0x2100 0x0F
  let master := d.get 0x2100 0x0E ≠ 0
  d.tMin < 50000 * 2 ^ d.legExp || (master && d.tMin < 50000 * 2 ^ b) || d.get 0x2100 0x03 < d.tMin
    || d.tMax < d.get 0x2100 0x03 || (d.primary ≠ 0 && d.secondary = d.primary)
    || (master && (d.primary = 3 || d.secondary = 3))

/-- R151: every leg has class-7 windows enough for its master beacons, on each port that carries beacons. -/
def Dev.beaconsFail (d : Dev) : Bool :=
  let b := d.get 0x2100 0x0F
  let k := d.legExp
  d.get 0x2100 0x0E ≠ 0 && k < b && (List.range 4).any (fun p => !(d.beaconGroups p).isEmpty
    && (List.range (2 ^ k)).any (fun j =>
      !beaconsFit ((List.range (2 ^ (b - k))).map (fun i => i * 2 ^ (24 - b))) (d.futureSevens p j)))

/-- R162, under the exponents in force. -/
def Dev.gatesBreak (d : Dev) (rows : List (Nat × List Word32)) : Bool :=
  rows.any (fun r => firstCause (gateRules d ((rows.filter (fun o => o.1 ≠ r.1 && o.1 / 256 = r.1 / 256)).map Prod.snd) r.2) ≠ 0)

/-- The gate rows as the base configuration gives them, and as the mode in force gives them (R162, R201). -/
def Dev.gatesFail (d : Dev) : Bool :=
  let overlay := d.overlayOf .gate d.mode
  d.gatesBreak (d.futureRows .gate)
    || d.gatesBreak (overlay ++ (d.futureRows .gate).filter (fun r => !overlay.any (fun o => o.1 = r.1)))

/-- R251: a group or binding names a port whose address is 0. -/
def Dev.addressFails (d : Dev) (t : Tbl) : Bool :=
  (d.futureRows t).any (fun r => word r.2 0 ≠ 0 && (List.range 4).any (fun p => bit (word r.2 1) p && d.get 0x1C03 (p + 1) = 0))

/-- R329: a listener set lists the exception ring. -/
def Dev.exceptionListed (d : Dev) : Bool :=
  let r := d.get 0x2700 0x01
  r ≠ 0xFF && (d.futureRows .lset).any (fun s => s.1 ≠ 0 && (setMask s.2).testBit (272 + r))

/-- R333: what a tunnel binds. -/
def Dev.tunnelsFail (d : Dev) : Bool :=
  let rows := d.futureRows .tunnel
  let key (r : List Word32) : Nat := if flagOf r 0 28 then 256 + fieldOf r 0 7 0 * 64 + fieldOf r 0 13 8 else fieldOf r 0 7 0
  rows.any (fun r =>
    let w := r.2
    let bound := flagOf w 0 30 || flagOf w 0 29
    let n := fieldOf w 0 7 0
    (bound && !flagOf w 0 28 && (d.serMode n ≠ 2 || bits (d.get (0x3000 + n) 0x03) 6 5 = 2))
      || (flagOf w 0 30 && rows.any (fun o => o.1 ≠ r.1 && flagOf o.2 0 30 && key o.2 = key w))
      || (flagOf w 0 30 && flagOf w 0 28 && (d.futureRows .filter).any (fun f => f.1 / 64 = n && flagOf f.2 0 31
        && flagOf f.2 0 30 && fieldOf f.2 0 5 0 = fieldOf w 0 13 8)))

/-- R419: an external loop is set. -/
def Dev.externalLoop (d : Dev) : Bool :=
  (List.range 12).any (fun i => (List.range 16).any (fun j => bits (d.get 0x2B00 (i + 1)) (2 * j + 1) (2 * j) = 3))
    || (List.range 16).any (fun n => bits (d.get 0x2B00 0x0D) (2 * n + 1) (2 * n) = 2)
    || (List.range 5).any (fun n => bits (d.get 0x2B00 0x0E) (3 * n + 2) (3 * n) = 4)

/-- What fails validation: the tables concerned, and whether anything does (R37, R38). -/
def Dev.validation (d : Dev) : Bool × List Tbl :=
  let bad : List (Bool × Option Tbl) :=
    [ (!d.placementWhole, some .stream), (!d.groupsWhole, some .group), (d.pitchFails, none), (d.beaconsFail, some .gate),
      (d.gatesFail, some .gate), (d.get 0x2600 0x04 * 200 * 2 ^ d.legExp < 2 * d.tMax, none),
      (d.addressFails .txgroup, some .txgroup), (d.addressFails .binding, some .binding), (d.exceptionListed, some .lset),
      (d.tunnelsFail, some .tunnel), (d.get 0x2900 0x01 * d.tMin < 200000000, none), (d.paired && d.externalLoop, none),
      (d.paired && d.get 0x2000 0x07 = 127, none) ]
  let fails := bad.filter Prod.fst
  (!fails.isEmpty, fails.filterMap Prod.snd)

end Sys2Proof.Machine
end

