-- ==== Sys2Proof/Machine/Release.lean ====
section
/-! DEFINITION. Release in stream order, handover into custody, and what the legs and pitches bring: hem, rinse and
pitch boundary (R56, R65, R158, R171, R173 to R175, R179, R228, R343). -/

namespace Sys2Proof.Machine

/-! ### Release (R56, R58, R61) -/

/-- An item waits for an earlier tagged item: one of its own stream; a virtual item also for a member item of its group that is
still in the stages, which may be given a virtual item yet (R56, R57, log entry 27). -/
def Tagged.behind (x y : Tagged) : Bool :=
  y.stream = x.stream
    || (x.virt && !y.virt && y.fate == .working && rowMember y.row && rowGroup y.row = x.item.sel)

/-- ORDER_RELEASE: a completed item whose stream has no earlier item goes to admission, or only to its last value
(R56, R67, R116, R335, R393); a shadow places its copy (R214). -/
def Dev.orderRelease (d : Dev) (tag : Nat) (virt : Bool) : Dev :=
  let is (x : Tagged) : Bool := x.tag = tag && x.virt == virt
  match d.tagged.find? is with
  | none => d
  | some x =>
    if x.fate == .working ∨ (d.tagged.takeWhile (fun y => !is y)).any (fun y => x.behind y) then d
    else
      let d : Dev := { d with tagged := d.tagged.filter (fun y => !is y) }
      let d := ((d.lastValueUpdate x).ledItem x.stream x.item).tunnelEgress x.item
      if x.fate == .consumed then d
      else
        let d := d.engineDelay x.item
        if d.leads || d.pw.st == .config then d.decideItem x.proposal
        else if d.team.role == .hold then d
        else d.shadowPlace x.proposal

/-! ### Handover (R65, R171, R173) -/

/-- Hand an item to one listener. -/
def Dev.handOne (d : Dev) (it : PlanItem) (cts l : Nat) : Dev :=
  if l < 192 then
    let chars := ((it.chars.find? (fun c => c.1 = l)).map Prod.snd).getD []
    d.serHand l { stream := it.stream, chars := chars, digest := ((it.item.parts.head?).map (·.digest)).getD 0
                  deadline := d.custodyDeadline l, startNow := d.legAt } (bit cts l)
  else if l < 208 then
    d.canHand (l - 192) { stream := it.stream, frames := canFrames it.item it.seq, deadline := d.custodyDeadline l
                          startNow := d.legAt }
  else if 272 ≤ l ∧ d.leads then
    let ps := it.item.parts.zipIdx.filter (fun p => !it.skip.contains p.2)
    let d := ps.foldl (fun d p => d.ringPart (l - 272) it.stream it.seq it.item p.2 p.1) d
    (d.subOwed l ps.length).custodyDone l d.legAt 13 none
  else d

/-- The first item of a plan that may be handed over. -/
def Plan.handNext (p : Plan) : Option PlanItem := p.items.find? (fun i => i.hand ≠ 0 && !i.held)

/-- An item of a plan has been handed over. -/
def Plan.handed (p : Plan) (i : PlanItem) : Plan := { p with items := p.items.map (fun x => if x = i then { x with hand := 0 } else x) }

/-- HANDOVER: leftovers of earlier legs first, then the plan of the leg (R65, R175). `cts` holds U_CTS_N as asserted, by
channel. A shadow hands its copies to its shadow transmitters (R190). -/
def Dev.handover (d : Dev) (cts : Nat) : Dev :=
  if !(d.leads || d.shadows) then d
  else
    match d.plansSent.find? (fun pl => pl.handNext.isSome) with
    | none => d
    | some pl =>
      match pl.handNext with
      | some i => (maskList i.hand).foldl (fun d l => d.handOne i cts l) (d.setPlan (pl.handed i))
      | none => d

/-! ### The rinse (R158, R173 to R175) -/

/-- Handovers left: items and their listeners. -/
def Dev.handsLeft (d : Dev) : Nat :=
  if d.leads then (d.plansSent.map (fun pl => (pl.items.map (fun i => (maskList i.hand).length)).sum)).sum else 0

/-- An item of a leg that has begun awaits its belay hold (R173, R213). -/
def Dev.holdsOpen (d : Dev) : Bool := d.plansSent.any (fun pl => pl.items.any (·.held))

/-- The rinse of every port. -/
def Dev.portsRinse (d : Dev) : Dev := (List.range 4).foldl (fun d p => d.portRinse p) d

/-- The check that ends a leg: leftovers are counted and reported, and an open hold alone is an overrun too (R173, R175, R180,
R213); whether the leg overran. -/
def Dev.rinseCheck (d : Dev) : Dev × Bool :=
  let d := d.portsRinse
  let left (p : Nat) : Nat := (d.port p).leftFrames
  let n := ((List.range 4).map left).sum + d.handsLeft
  if n = 0 ∧ !d.holdsOpen then (d, false)
  else
    let ports := ((List.range 4).map (fun p => if left p = 0 then 0 else 2 ^ p)).sum
    (((d.count 0x2510 0x04).count 0x2510 0x05 n).raise 0xA2A0 2 (sat 0xFFFF n * 2 ^ 16 + ports), true)

/-- The plan of a leg, opened one leg before it (R158, R167). -/
def Dev.openPlan (d : Dev) (leg : Nat) : Dev := { d with plan := { leg := leg, start := d.ps + d.legPsMin } }

/-- Budgets, high waters and histograms of the plan that closes (R179, R407). -/
def Dev.closeBudgets (d : Dev) : Dev :=
  let leg := d.plan.leg
  let wins := (List.range 4).flatMap (fun p => (d.gates p leg).map (fun g => (p, g.entry, d.budget p leg g)))
  let z : Nat → Nat := fun _ => 0
  wins.foldl (fun (d : Dev) w =>
    let key := 256 * w.1 + w.2.1
    let charge := SMap.get z d.plan.charges key
    let d : Dev := { d with budgets := SMap.set z d.budgets key w.2.2
                            highs := SMap.set z d.highs key (max charge (SMap.get z d.highs key)) }
    d.histAdd (15 + w.1) (if w.2.2 = 0 then 31 else min 31 (32 * charge / w.2.2))) { d with budgets := [] }

/-- A plan whose leg has ended has a handover, a hold or a frame left (R175). -/
def Dev.planLeft (d : Dev) (pl : Plan) : Bool :=
  pl.items.any (fun i => i.hand ≠ 0 || i.held) || (List.range 4).any (fun p => (d.port p).carries pl.leg)

/-- The plans move on by one leg (R158, R178); of a plan two legs back or more, what is left stays (R175). -/
def Dev.rotatePlans (d : Dev) (leg : Nat) : Dev :=
  let d := d.count 0x2510 0x03
  let d : Dev := { d with older := (d.older ++ [d.previous]).filter d.planLeft, previous := d.sending, sending := d.plan }
  d.openPlan (leg + d.legPu)

/-- A change between RUN and TRIM at the channels of the masks: a sentence in progress is discarded, a CAN controller stops
and later integrates anew (R343). -/
def Dev.trimStop (d : Dev) : Dev :=
  let d := (List.range 192).foldl (fun (d : Dev) n => if d.serTrimmed n then d.setContext n {} else d) d
  (List.range 16).foldl (fun (d : Dev) n => if d.masked (192 + n) && (d.canCh n).custody.isEmpty then d.canStop n else d) d

/-- What an accepted RUN or TRIM change makes of the plan that opens and of the ports (R342, R343). -/
def Dev.trimBoundary (d : Dev) (leg : Nat) : Dev :=
  match d.pw.change with
  | none => d
  | some (trim, target) =>
    if leg + d.legPu = target then
      let masks := if trim then (List.range 7).map (fun i => d.get 0x2002 (i + 1)) else d.pw.masks
      { d with pw := { d.pw with trimPlan := trim, masks := masks } }
    else if target ≤ leg then
      let d : Dev := { d with pw := { d.pw with trim := trim, trimPlan := trim, change := none } }
      let d := (d.put 0x2001 0x02 (if trim then 2 else 1)).put 0x2001 0x03 0
      d.trimStop
    else d

/-- The drain towards CONFIG, BIVOUAC or SHELTER counts its boundaries: admission stops at the first, the second ends it
(R38, R344). -/
def Dev.drainBoundary (d : Dev) : Dev :=
  match d.pw.drain with
  | some (g, n + 1) => { d with admStop := true, pw := { d.pw with drain := some (g, n), drained := n = 0 } }
  | _ => d

/-- What the standby and the isolated unit keep of a leg that has ended (R195, R214). -/
def Dev.shadowRinse (d : Dev) : Dev :=
  let old := d.previous.leg
  let m := d.mirror
  let m := { m with recv := m.recv.filter (fun r => old ≤ r.leg), expect := m.expect.filter (fun e => old ≤ e.1), unheldLeg := 0
                    shadow := if d.shadows then m.shadow else [] }
  { d with mirror := m }

/-- The end of the leg before: ALIVE_OUT, the charges of late items, the rinse check and the histogram of tags in use; answers
whether it overran and whether a delta was applied in it (R119, R140, R173). -/
def Dev.legRinse (d : Dev) : Dev × Bool × Bool :=
  let applied := d.mirror.applied
  let r := ({ d with legAt := d.now } : Dev).aliveToggle.chargeHeld.rinseCheck
  let d := r.1.histAdd 14 (r.1.tagsInUse / 32)
  ({ d with mirror := { d.mirror with applied := false } }, r.2, applied)

/-- What takes effect at the boundary that opens leg `leg`: the budgets of the plan that closes, staged rows, modes, trim, a drain, the plans and the frames
of the leg that is now sent (R38, R158, R174, R175, R185). -/
def Dev.legOpen (d : Dev) (leg : Nat) : Dev :=
  let d := ((d.closeBudgets.commitBoundary leg).modeApply.trimBoundary leg).drainBoundary
  let d := (d.rotatePlans leg).selectionBoundary
  (d.queueFrames (d.framesSent d.sending.frames leg) leg false).shadowRinse

/-- What the boundary starts: deferred items decided again, the ports' gates, a darning that is owed, the cairn of the leg that
ended and the audits, which leave once what the command changed is mirrored (R173, R195, R218, R223). -/
def Dev.legStart (d : Dev) (old : Nat) (overrun applied : Bool) : Dev :=
  let d := d.deferred.foldl (fun (d : Dev) p => d.decideItem p) { d with deferred := [] }
  let d := d.portsStart
  let d := if d.mirror.darnOwed ∧ d.mirrors then d.startDarning else d
  if d.mirrors then
    let body := d.cairnBody old d.sending overrun applied
    ({ d with mirror := { d.mirror with cairnOwed := some body, auditDue := true } } : Dev).cairnLeave
  else d

/-- LEG_BOUNDARY: the rinse that ends a leg and the first cycle of the next (R119, R140, R158, R173 to R175, R185,
R218). In CONFIG the ports begin a new leg too: they send OD-access replies and take PAUSE (R165, R176, R177). -/
def Dev.legBoundary (d : Dev) : Dev :=
  if d.pw.st == .config then { d.portsRinse with legAt := d.now }.portsStart
  else if !d.inService ∨ d.leg < d.plan.leg then d
  else
    let r := d.legRinse
    (r.1.legOpen d.leg).legStart (d.leg - d.legPu) r.2.1 r.2.2

/-! ### The hem (R129, R135, R174) -/

/-- HEM_START: the selection point of every group, on a unit that leads or shadows; the active sends its decisions
(R129, R135). -/
def Dev.hemStart (d : Dev) : Dev :=
  if !d.inService ∨ !(d.leads || d.shadows) ∨ d.legPhase16 < (d.legPu - d.hemPu) * 2 ^ 16 then d
  else
    let d := d.selectionPoints
    if d.mirrors then d.groupRows.foldl (fun d r => d.issueSel r.1) d else d

/-! ### The pitch boundary (R140, R228) -/

/-- The health sentence of the pitch that has ended (R228). -/
def Dev.healthSentence (d : Dev) (pitch : Nat) : List Byte :=
  let m := d.mirror
  let flags := m.hCause % 32 + 32 * b2n m.hAudit + 64 * b2n d.team.degraded
    + 128 * b2n (m.darning || d.team.role == .darning) + 256 * b2n d.pw.bistFail + 512 * b2n d.pw.logicFail
    + 1024 * b2n (d.get 0x2B10 0x02 = 0) + 2048 * b2n (m.hPattern ≠ 0)
  let comma : List Byte := [0x2C]
  let num (n : Nat) : List Byte := comma ++ decimal (sat 65535 n)
  let body := ascii "PEUDH," ++ hexN 3 (d.node % 4096) ++ comma ++ decimal (d.get 0x2000 0x06) ++ comma
    ++ decimal d.team.role.code ++ comma ++ decimal pitch ++ comma ++ hexN 4 flags ++ num m.hCairns ++ num m.hDiv
    ++ num m.hScrub ++ num m.hUncorr ++ num m.hPattern
  ascii "$" ++ body ++ ascii "*" ++ hexN 2 (xorAll body).toNat ++ [0x0D, 0x0A]

/-- Counts of one pitch start again (R94, R228, R248, R293). -/
def Dev.pitchCountsClear (d : Dev) : Dev :=
  let d : Dev := { d with malformed := []
                          mirror := { d.mirror with hCairns := 0, hDiv := 0, hAudit := false, hCause := 0, hPattern := 0
                                                    hScrub := 0, hUncorr := 0 } }
  let d := (d.ports.map Prod.fst).foldl (fun (d : Dev) p => d.setPort p { d.port p with discards := 0 }) d
  (d.ser.map Prod.fst).foldl (fun (d : Dev) n => d.setSer n { d.serCh n with lost := 0, coll := 0 }) d

/-- PITCH_BOUNDARY: the phase wraps, or does nothing before it does (R140); health report, ledger interval. In BIVOUAC
the keeper counts on (R338). -/
def Dev.pitchBoundary (d : Dev) : Dev :=
  if d.pitch.st == .boot ∨ !d.pitch.wraps (tickOf d.now) then d
  else
    let ended := d.pitch.num
    let d := d.enginePitch (tickOf d.now)
    if !(d.pw.st == .service || d.pw.st == .config) then d
    else
      let d := if d.team.role == .none || d.team.role == .hold then d else d.internal 246 2 d.stamp (d.healthSentence ended)
      d.pitchCountsClear.ledBoundary

end Sys2Proof.Machine
end

