-- ==== Sys2Proof/Machine/Boot.lean ====
section
/-! DEFINITION. Resets, the rack check, the boot sequence and entry to SERVICE (R3, R38, R43 to R47, R153, R191, R347, R349,
R364, R365, R418, R419). -/

namespace Sys2Proof.Machine

/-! ### What a reset of the whole device keeps (R364) -/

/-- Entries whose MRAM copy is exact, not the one of a snapshot: resets, rope epoch, GMAC epoch (R256, R365, R382). -/
def exactL : List Nat := [odKey 0x2006 0x02, odKey 0x2800 0x09, odKey 0x2800 0x0A]

/-- The core loses everything that the keep-alive domain, MRAM, flash and the pins do not hold (R364). A snapshot that runs
is cut off; queued journal entries that had not reached MRAM are lost. -/
def Dev.coreReset (d : Dev) : Dev :=
  let d := d.journalFlush
  let pw : Power := { causes := d.pw.causes, porst := d.pw.porst, noKa := d.pw.noKa, brown := d.pw.brown, pwrPins := d.pw.pwrPins
                      tj := d.pw.tj, therm := d.pw.therm, trip := d.pw.trip, hostIo18 := d.pw.hostIo18 }
  let v := d.vault
  let vault : Vault := { slots := v.slots, latch := v.latch, stamp := v.stamp, coldAlarm := v.coldAlarm, owed := v.owed
                         moved := v.moved }
  let ledger : Ledger := { records := d.ledger.records, head := d.ledger.head, stateChange := d.ledger.stateChange }
  let clk : Clocks := { rtcRuns := d.clk.rtcRuns, rtcMark := d.clk.rtcMark, rtcBase := d.clk.rtcBase, rtcFrom := d.clk.rtcFrom
                        kaSrc := d.clk.kaSrc }
  let team : Team := { posB := d.team.posB, ropeEpoch := d.team.ropeEpoch, claimIn := d.team.claimIn }
  let log := { d.log.cut with queue := [], lost := 0, lostSince := 0, hist := [] }
  { now := d.now, free := d.free, out := d.out, od := d.od.filter (fun kv => exactL.contains kv.1), pw := pw, vault := vault
    ledger := ledger, clk := clk, team := team, log := log, flashA := d.flashA, flashB := d.flashB, tap := d.tap }

/-- A reset source acts: cause `c` of 0x2006:01 is noted (R364, R365). -/
def Dev.resetBy (d : Dev) (c : Nat) : Dev :=
  let d := d.coreReset
  { d with pw := { d.pw with causes := setBit d.pw.causes c true } }

/-! ### The rack (R3, R44 to R47) -/

/-- Length of the image that a header gives. -/
def rackLength (bs : List Byte) : Nat := leAt bs 12 4

/-- Every section lies between 0x140 and length − 65 (R44, R45). -/
def sectionsFit (bs : List Byte) : Bool :=
  let len := rackLength bs
  (List.range (leAt bs 24 2)).all (fun i =>
    let off := leAt bs (64 + 16 * i + 4) 4
    decide (0x140 ≤ off) && decide (off + leAt bs (64 + 16 * i + 8) 4 ≤ len - 64))

/-- Check 4 of R45: limits of the image length and of the section count, and the sections' places. -/
def rackFits (bs : List Byte) : Bool :=
  let len := rackLength bs
  decide (0x180 ≤ len) && decide (len ≤ 0x800000) && len % 4 = 0 && decide (1 ≤ leAt bs 24 2) && decide (leAt bs 24 2 ≤ 16)
    && sectionsFit bs

/-- The rack reason of a copy: 0 when every check passes (R45). `life` is the life-cycle state, `key` the verification key. -/
def rackReason (life : Life) (key bs : List Byte) : Nat :=
  let len := rackLength bs
  if slice bs 0 4 ≠ [0x45, 0x55, 0x52, 0x4B] then 1
  else if leAt bs 4 2 ≠ 3 ∨ 2 < leAt bs 6 2 then 2
  else if leAt bs 16 4 ≠ 0x7408 then 3
  else if !rackFits bs then 4
  else if life = .blank ∨ life = .retired ∨ !bit (leAt bs 20 4) (life.code - 1) then 5
  else if be 32 (Config.sha256 (slice bs 0x140 (len - 64 - 0x140))).toNat ≠ slice bs 32 32 then 7
  else if !Config.ecdsaVerify key (slice bs 0 (len - 64)) (slice bs (len - 64) 64) then 6
  else 0

/-- The rack digest of a copy (R47). -/
def rackDigest (bs : List Byte) : Nat := (Config.sha256 (slice bs 0 (rackLength bs))).toNat / 2 ^ 192

/-- The choice of R46: the copy in use, whether it is B, TIE; and the alert of the choice: code, severity, detail. -/
structure RackChoice where
  copy : Option (List Byte)
  isB : Bool
  tie : Bool
  reasonA : Nat
  reasonB : Nat
  deriving DecidableEq, Repr

/-- Check both copies and choose one (R45, R46). -/
def chooseRack (life : Life) (key a b : List Byte) : RackChoice :=
  let ra := rackReason life key a
  let rb := rackReason life key b
  let tie := ra = 0 && rb = 0 && leAt a 8 4 = leAt b 8 4 && rackDigest a ≠ rackDigest b
  let useB := rb = 0 && (ra ≠ 0 || decide (leAt a 8 4 < leAt b 8 4))
  { copy := if ra ≠ 0 ∧ rb ≠ 0 then none else some (if useB then b else a), isB := useB, tie := tie, reasonA := ra, reasonB := rb }

/-- The alert of the choice (R43). -/
def RackChoice.alert (c : RackChoice) : Option (Nat × Nat × Nat) :=
  match c.copy with
  | none => some (0xA5F0, 3, c.reasonB * 256 + c.reasonA)
  | some bs =>
    if c.reasonA ≠ 0 then some (0xA5F1, 1, c.reasonA * 256)
    else if c.reasonB ≠ 0 then some (0xA5F1, 1, c.reasonB * 256 + 1)
    else if c.tie then some (0xA5F2, 1, leAt bs 8 4)
    else none

/-- Rack format, digest, status and generation, and the configuration digest (R39, R47). -/
def Dev.rackEntries (d : Dev) (c : RackChoice) : Dev :=
  let status := b2n c.isB + 2 * b2n (c.reasonA = 0) + 4 * b2n (c.reasonB = 0) + 8 * b2n c.tie
  let d := d.put 0x2000 0x0C status
  match c.copy with
  | none => d
  | some bs =>
    let d := (d.put 0x2000 0x0A (leAt bs 4 2 * 2 ^ 16 + leAt bs 6 2)).put 0x2000 0x0D (leAt bs 8 4)
    (d.put 0x2000 0x0B (rackDigest bs)).put 0x2000 0x0E (rackDigest bs)

/-- An entry's keep class is P, and a rack may give it. -/
def rackEntry (idx sub : Nat) : Bool := match dictFind idx sub with | some r => r.keep == .P && r.acc != .const | none => false

/-- Boot step 6: entries, tables and overlays of the rack (R25, R349). DESIGN CHOICE (log entry 75): R7 and R6 speak of writes
only, so a P entry takes the rack's value as it stands, in range or not and with its RSV bits. -/
def Dev.loadRack (d : Dev) (bs : List Byte) : Dev :=
  let c := Config.rackContent bs
  let d := c.od.foldl (fun d e => if rackEntry e.1 e.2.1 then d.put e.1 e.2.1 e.2.2.toNat else d) d
  let d := c.domains.foldl (fun d e => if rackEntry e.1 e.2.1 then d.setDomain e.1 e.2.1 e.2.2 else d) d
  let d := c.rows.foldl (fun d r => d.setRow r.1 r.2.1 (keptWords r.2.2)) d
  let merged := c.overlays.foldl (fun m o =>
    SMap.set (fun _ => emptyRow) m (overlayKey o.1 o.2.1 o.2.2.1) (keptWords o.2.2.2)) d.overlays
  { d with overlays := merged, noRack := false }

/-- Divisors of the channels whose Baud the rack gives (R270). -/
def Dev.loadDivisors (d : Dev) : Dev :=
  (List.range 192).foldl (fun (d : Dev) n =>
    let v := divisorOf (d.get (0x3000 + n) 0x02)
    d.setSer n { d.serCh n with txDiv := v, rxDiv := v }) d

/-! ### The logbook at boot (R400, R405, R409, R411, R413) -/

/-- Step 2: the last-gasp's entries join the journal, and its record stays readable (R411). -/
def Dev.gaspRead (d : Dev) : Dev :=
  match d.log.gasp with
  | some g =>
    { d with log := { d.log with journal := (g.entries.reverse ++ d.log.journal).take 4096, gasp := none, gaspRead := g.bytes } }
  | none => { d with log := { d.log with gaspRead := [] } }

/-- Counters and histograms from the snapshot copy that R409 selects, else 0 with 0xA623; generation and epochs from MRAM. -/
def Dev.restoreLog (d : Dev) : Dev :=
  let d := match d.log.chosen with
    | some s =>
      let d := (s.counters.filter (fun (kv : Nat × Nat) => !exactL.contains kv.1)).foldl (fun (d : Dev) (kv : Nat × Nat) => d.put (kv.1 / 256) (kv.1 % 256) kv.2) d
      let d : Dev := { d with log := { d.log with hist := s.hist } }
      (d.put 0x2A00 0x03 s.stamp).put 0x2A00 0x04 s.seq
    | none => d.raise 0xA623 2 3
  (d.put 0x2602 0x03 d.log.generation).put 0x2800 0x0A ((d.get 0x2800 0x0A + 1) % 2 ^ 32)

/-! ### Pitch acquisition (R153) -/

/-- The pitch record that boot uses: the later of the last-gasp's and the snapshot's. -/
def Dev.pitchSaved (d : Dev) (gasp : Option Gasp) : Option PitchRecord :=
  let g : Option PitchRecord := gasp.map (fun g => { stamp := g.stamp, period := g.period, rtc := g.rtc })
  match g, d.log.chosen.map (·.pitch) with
  | some a, some b => some (if a.stamp < b.stamp then b else a)
  | some a, none => some a
  | none, b => b

/-- An announced stamp, advanced to an instant at the announced period; pitch number, phase and rate, which keeps to R141. -/
def Dev.adopt (d : Dev) (a : Announced) : Pitch :=
  let per := if a.period = 0 then d.get 0x2100 0x03 else a.period
  let r := clampRate d.tMin false (2 ^ 24) per
  let s16 := a.stamp * 2 ^ 16 + (tickOf d.now - tickOf a.arrived) * 2 ^ 40 / per
  { num := s16 / 2 ^ 40, ref16 := s16 % 2 ^ 40, refTick := tickOf d.now, rateN := r.1, rateD := r.2, st := .free }

/-- Phase 0 of a pitch number at the nominal rate. -/
def Dev.startAt (d : Dev) (num : Nat) : Pitch :=
  let r := clampRate d.tMin false (2 ^ 24) (d.get 0x2100 0x03)
  { num := num, ref16 := 0, refTick := tickOf d.now, rateN := r.1, rateD := r.2, st := .free }

/-- Step 7: the first condition that applies gives pitch number, phase and rate; the engine enters FREE. -/
def Dev.acquire (d : Dev) (e : BootEnv) (saved : Option PitchRecord) : Dev :=
  let ticks (s : Nat) : Nat := ceilDiv (s * 200000000) (max 1 d.tMin)
  let fromLog : Pitch := match saved with
    | some r =>
      let n := r.stamp / 2 ^ 24
      if d.clk.rtcMark then d.startAt (n + ticks (d.get 0x2A00 0x01) + 1) else d.startAt (n + ticks (d.rtc - r.rtc) + 1)
    | none => d.startAt 0
  let fromBeacon : Pitch := match e.beacon with
    | some b => if d.usesSource 3 ∧ b.quality ≠ 2 then d.adopt b else fromLog
    | none => fromLog
  let p : Pitch := match e.hello with
    | some h => if h.quality ≠ 2 then d.adopt h else fromBeacon
    | none => fromBeacon
  { d with pitch := p }

/-! ### Entry to SERVICE (R38, R290, R309, R343, R344 to R347, R385, R418, R419) -/

/-- Loops in force from this entry on (R418, R419). -/
def Dev.loopsTake (d : Dev) : Dev :=
  let l : Loops := { serial := (List.range 12).map (fun i => d.get 0x2B00 (i + 1)), can := d.get 0x2B00 0x0D
                     ports := d.get 0x2B00 0x0E, ingest := d.get 0x2B00 0x0F, pitch := d.get 0x2B00 0x10 ≠ 0 }
  let d : Dev := { d with loops := l }.put 0x2B00 0x11 (b2n l.any)
  if l.any then d.raise 0xA630 1 0 else d.clearAlert 0xA630

/-- Serial channels: MUTED is set (R276); the FIFOs of a channel whose Mode or Format changed since it left SERVICE are
emptied (R266). -/
def Dev.serialService (d : Dev) : Dev :=
  let d := (d.ser.map Prod.fst).foldl (fun (d : Dev) n => d.setSer n { d.serCh n with muted := true }) d
  let d := d.serBefore.foldl (fun (d : Dev) kv =>
    if kv.2 = d.serMode kv.1 * 2 ^ 32 + d.serFormat kv.1 then d
    else d.setSer kv.1 { d.serCh kv.1 with rx := [], tx := [], overrun := false, rts := true }) d
  { d with serBefore := [] }

/-- The plans of a unit that enters SERVICE at an instant within a leg (R59, R158, R347). -/
def Dev.plansStart (d : Dev) : Dev :=
  let leg := d.leg
  let gone := if d.pitch.rateN = 0 then 0 else d.legPhase16 * 4 * d.pitch.rateD / (2 ^ 16 * d.pitch.rateN)
  { d with plan := { leg := leg + d.legPu, start := d.ps + d.legPsMin - gone * 1250 }, sending := { leg := leg }
           previous := { leg := leg - d.legPu }, older := [], admStop := false, legAt := d.now - gone }

/-- What waking reports once SERVICE is reached: WAKE_OUT low, interrupt cause 4, the first event's alert, 0xA604, and the
latency of the wake (R345, R346, R407). -/
def Dev.wakeReport (d : Dev) : Dev :=
  let ev := d.pw.wakeAlert
  let during := d.pw.wakeDuring
  let at_ := d.pw.wakeAt
  let d : Dev := { d with pw := { d.pw with wakeOut := false, wakeAlert := none, wakeDuring := none, wakeAt := none } }
  let d := match ev with
    | some (code, detail) => (d.cause 4).raise code 0 detail
    | none => d
  let d := match during with
    | some s => d.raise 0xA604 0 s
    | none => d
  match at_ with
  | some t0 => d.histAdd 21 (logBin ((d.now - t0) / usCycles))
  | none => d

/-- 0xA600 as THERM_N stands (R350, R353). -/
def Dev.thermAlert (d : Dev) : Dev :=
  if d.pw.therm then (if d.alertActive 0xA600 then d else d.raise 0xA600 2 (ofI32 d.pw.tj)) else d.clearAlert 0xA600

/-- The ports whose pause ceiling lies above the hem at T_min (R177, R180). -/
def Dev.ceilingPorts (d : Dev) : Nat :=
  let exceeds (p : Nat) : Bool :=
    let c := d.get 0x2502 (p + 1)
    c ≠ 0 && decide (d.get 0x2100 0x04 * 5000 < c * d.quantum p * 2 ^ (d.legExp + d.hemExp))
  ((List.range 4).map (fun p => if exceeds p then 2 ^ p else 0)).sum

/-- 0xA2A3 stands while a ceiling lies above the hem (R177, R180). -/
def Dev.ceilingAlert (d : Dev) : Dev :=
  match d.alerts.find? (fun a => a.code = 0xA2A3), d.ceilingPorts with
  | none, 0 => d
  | some _, 0 => d.clearAlert 0xA2A3
  | none, n + 1 => d.raise 0xA2A3 1 (n + 1)
  | some a, n + 1 => if a.detail = n + 1 then d else d.raise 0xA2A3 1 (n + 1)

/-- Alerts that waited for the core, and those of conditions that outlive a power state (R350, R385). -/
def Dev.standingAlerts (d : Dev) : Dev :=
  let owed := d.pw.owed
  let d := owed.foldl (fun (d : Dev) a => d.raise a.1 a.2.1 a.2.2) ({ d with pw := { d.pw with owed := [] } } : Dev)
  let d := if d.alertActive 0xA420 ∧ !d.ser.any (fun kv => kv.2.stuck) then d.clearAlert 0xA420 else d
  let d := if d.clk.rtcRuns then d.clearAlert 0xA613 else d
  let d := if d.vault.owed then ({ d with vault := { d.vault with owed := false } } : Dev).raise 0xA500 3 d.vault.latch else d
  d.thermAlert

/-- States of the CAN channels on return to SERVICE from BIVOUAC (R309). -/
def Dev.resumeCan (d : Dev) : Dev :=
  (List.range 16).foldl (fun (d : Dev) n =>
    let c := d.canCh n
    let r := { c with woke := false, before := .awake }
    if c.woke then (d.setCan n r).toWaking n
    else match c.before with
      | .awake => d
      | .armed => d.setCan n { r with sleep := .armed }
      | .agreed | .committed => d.setCan n { r with sleep := .awake }
      | .asleep => d.setCan n { r with sleep := .asleep }
      | .waking => (d.setCan n r).toWaking n) d

/-- The unit enters SERVICE: staged rows take effect, loops and settings with them, and ports and channels start. -/
def Dev.serviceEnter (d : Dev) : Dev :=
  let d : Dev := { d with pw := { d.pw with st := .service, resume := none, drain := none, drained := false } }
  let d := ((d.resumeCan.put 0x2000 0x03 0).put 0x2001 0x03 0).loopsTake
  let d := d.serialService
  let d := d.plansStart
  let d := d.applyStaged d.leg
  let d := d.wakeReport.standingAlerts
  d.serStartAll.canStartAll.portsStart

/-! ### The boot sequence (R349) -/

/-- The lowest cause that has been noted (R365). -/
def resetCause (causes : Nat) : Nat := ((List.range 6).find? (fun i => bit causes i)).getD 0

/-- Step 3: PLLs, life cycle and vault (R375, R378). -/
def Dev.bootVault (d : Dev) (o : Otp) (rootOk : Bool) : Dev :=
  let d : Dev := { d with clk := { d.clk with pll := 0x1F }, vault := { d.vault with verify := o.verify } }
  let d := (d.put 0x2800 0x01 o.life.code).put 0x2800 0x07 o.spare
  let r := d.unseal o.life rootOk
  let d := r.2.foldl (fun (d : Dev) a => d.raise a.1 a.2.1 a.2.2) r.1
  let d := match d.vault.moved with
    | some (old, new) => d.raise 0xA506 1 (new * 256 + old)
    | none => d
  { d with vault := { d.vault with coldAlarm := false, moved := none } }

/-- Step 5: memory and logic BIST (R349, R428); `logic` is 0x2001:08 of the rack. -/
def Dev.bootBist (d : Dev) (e : BootEnv) (logic : Bool) : Dev :=
  let d := d.put 0x2B10 0x01 (2 ^ 31 + 2 ^ 30 * b2n (e.badWords ≠ 0) + sat 4096 e.spares)
  let d := d.put 0x2B10 0x02 (if !logic then 0 else if e.logicFail then 2 else 1)
  let d : Dev := { d with pw := { d.pw with bistFail := e.badWords ≠ 0, logicFail := logic && e.logicFail } }
  if e.badWords ≠ 0 then d.raise 0xA605 3 (sat 0xFFFFFFFF e.badWords) else d

/-- Logic BIST is asked for by the rack (R349). -/
def rackLogicBist (bs : List Byte) : Bool :=
  (Config.rackContent bs).od.any (fun x => x.1 = 0x2001 && x.2.1 = 0x08 && x.2.2 ≠ 0)

/-- Boot has ended: 0xA606 before every alert of the boot (R40, R353). -/
def Dev.bootEnd (d : Dev) (st : DevState) : Dev :=
  let owed := d.pw.owed
  let d : Dev := { d with pw := { d.pw with st := st, owed := [] } }
  (owed.foldl (fun (d : Dev) a => d.raise a.1 a.2.1 a.2.2) (d.raise 0xA606 0 (d.get 0x2006 0x01))).thermAlert.ceilingAlert

/-- The journal entry of the boot, and the reset cause (R365, R412). -/
def Dev.bootEntry (d : Dev) (cause : Nat) : Dev :=
  let d := d.put 0x2006 0x01 cause
  ({ d with pw := { d.pw with causes := 0 } } : Dev).journalQueue 0 0 cause d.stamp

/-- Boot ends in CONFIG with ROM defaults and forwarding stopped, for want of a valid rack or of working SRAM (R46, R349). -/
def Dev.bootConfig (d : Dev) (e : BootEnv) (saved : Option PitchRecord) (rack : Bool) (cause : Nat) : Dev :=
  let d : Dev := { d with now := max d.now e.ready, noRack := !rack }
  (((d.acquire e saved).bootEntry cause).ledBoot).bootEnd .config

/-- Steps 6 to 8: tables, pitch, journal entry, pair join (R191, R349). `lost` is false at a wake from SHELTER. -/
def Dev.bootTables (d : Dev) (e : BootEnv) (bs : List Byte) (saved : Option PitchRecord) (lost : Bool) (cause : Nat) : Dev :=
  let d := (d.loadRack bs).loadDivisors
  let d : Dev := { d with now := max d.now e.ready, team := { d.team with claimIn := e.claimIn } }
  let d := (d.acquire e saved).bootEntry cause
  ((d.ledBoot.ledRestore lost).reassert false).pairJoin

/-- Steps 3 to 8 (R349). -/
def Dev.bootRun (d : Dev) (o : Otp) (e : BootEnv) (gasp : Option Gasp) (shelter : Bool) (cause : Nat) : Dev :=
  let saved := d.pitchSaved gasp
  let d := d.bootVault o e.rootOk
  let c := chooseRack o.life o.verify d.flashA d.flashB
  let d := d.rackEntries c
  let d := match c.alert with
    | some a => d.raise a.1 a.2.1 a.2.2
    | none => d
  let d := d.restoreLog
  let d := if shelter then d else d.count 0x2006 0x02
  let d := d.bootBist e ((c.copy.map rackLogicBist).getD false)
  let d := d.put 0x2B10 0x03 (max (d.get 0x2B10 0x03) (sat 4096 e.spares))
  match c.copy with
  | some bs => if e.badWords ≠ 0 then d.bootConfig e saved true cause else d.bootTables e bs saved (!shelter) cause
  | none => d.bootConfig e saved false cause

/-- Boot from step 2 (R349): the last-gasp is read; a thermal trip record holds the boot until Tj is below 125 °C. -/
def Dev.boot (d : Dev) (o : Otp) (e : BootEnv) : Dev :=
  let d : Dev := { d with pw := { d.pw with st := .boot, heldBoot := false } }
  if d.pw.trip.isSome ∧ 125 ≤ d.pw.tj then { d with pw := { d.pw with heldBoot := true } }
  else
    let gasp := d.log.gasp
    let d := match d.pw.trip with
      | some peak => ({ d with pw := { d.pw with trip := none } } : Dev).raise 0xA601 3 (ofI32 peak)
      | none => d
    let d := match gasp with
      | some g => if g.cause % 8 ≠ 0 then d.raise 0xA602 2 (g.cause % 8) else d
      | none => d
    d.gaspRead.bootRun o e gasp false (resetCause d.pw.causes)

/-- A boot whose pair-join step is over goes on to SERVICE (R349). -/
def Dev.bootSettle (d : Dev) : Dev :=
  if d.pw.st == .boot && !d.pw.heldBoot && d.team.role != .none then (d.bootEnd .service).serviceEnter else d

end Sys2Proof.Machine
end

