-- ==== Sys2Proof/Machine/Power.lean ====
section
/-! DEFINITION. Device states and power states: CONFIG and SERVICE requests, power requests, low-power entry and wake, the
temperature monitor, brown-out, and the resets of the whole device (R37, R38, R338 to R353, R364). -/

namespace Sys2Proof.Machine

/-! ### CONFIG (R38, R85, R192, R266, R307, R334) -/

/-- The drain that ends forwarding: admission stops at the next rinse, the goal follows one leg later (R38, R344). -/
def Dev.startDrain (d : Dev) (g : DrainGoal) : Dev :=
  let pw := d.pw
  if d.inService then { d with pw := { pw with drain := some (g, 2), drained := false } }
  else { d with pw := { pw with drain := some (g, 0), drained := true } }

/-- The team and the mirror of a unit whose role becomes NONE by command; role HOLD stays (R185, R192). -/
def Dev.leaveTeam (d : Dev) : Dev :=
  let d := d.completeWrites true
  let m := d.mirror
  let d : Dev := { d with
    team := { d.team with claiming := none, joining := none, retry := none, degraded := false, aliveFault := false, wiring := false
                          refusal := 0, refused := false, reason := 0, change := none }
    mirror := { prbsTx := m.prbsTx, prbsRx := m.prbsRx, hCairns := m.hCairns, hDiv := m.hDiv, hAudit := m.hAudit
                hCause := m.hCause, hPattern := m.hPattern, hScrub := m.hScrub, hUncorr := m.hUncorr } }
  ((d.clearShadow.setRole (if d.team.role == .hold then .hold else .none)).endSession).put 0x2604 0x01 0

/-- Mode and Format of every serial channel at the exit from SERVICE (R266). -/
def Dev.serialMark (d : Dev) : Dev :=
  let note (m : SMap Nat) (n : Nat) : SMap Nat := SMap.set (fun _ => 0) m n (d.serMode n * 2 ^ 32 + d.serFormat n)
  { d with serBefore := (List.range 192).foldl note [] }

/-- Entry to CONFIG: role NONE, open groups dropped, tunnel runs closed, sleep channels awake (R38, R85, R192, R307, R334).
Custody queues stay. -/
def Dev.configEnter (d : Dev) : Dev :=
  let d := d.groups.foldl (fun (d : Dev) g => d.dropGroup g 1) d
  let d := (d.ser.map Prod.fst).foldl (fun (d : Dev) n => d.closeRun n) d
  let d := d.leaveTeam.serialMark
  let d := (d.can.map Prod.fst).foldl (fun (d : Dev) n => d.setCan n { d.canCh n with sleep := .awake }) d
  { d with pw := { d.pw with st := .config, drain := none, drained := false }, deferred := [] }

/-- CONFIG_ENTRY: the drain towards CONFIG is over (R38). -/
def Dev.configEntry (d : Dev) : Dev :=
  match d.pw.drain with
  | some (.config, _) => if d.inService ∧ d.pw.drained then d.configEnter.put 0x2000 0x03 0 else d
  | _ => d

/-- State request 0x02 (R37, R38). While a power request is pending the request is refused with result 2 as in a wrong state: the
spec is silent on it (DESIGN CHOICE, log entry 75). -/
def Dev.enterConfig (d : Dev) : Dev :=
  if d.inService ∧ d.pw.drain.isNone then (d.startDrain .config).put 0x2000 0x03 1 else d.put 0x2000 0x03 2

/-- State request 0x03: every staged table is validated (R37, R38); with a power request pending as `enterConfig` (DESIGN CHOICE, log
entry 75). -/
def Dev.leaveConfig (d : Dev) : Dev :=
  if d.pw.st ≠ .config ∨ d.romOnly ∨ d.pw.drain.isSome then d.put 0x2000 0x03 2
  else
    let v := d.validation
    if v.1 then v.2.foldl (fun (d : Dev) t => d.blockStatus t 5) (d.put 0x2000 0x03 3)
    else ({ d with pw := { d.pw with resume := some d.pitch.num } } : Dev).put 0x2000 0x03 1

/-- SERVICE_RESUME: the first pitch boundary after the request has passed (R38, R191). -/
def Dev.serviceResume (d : Dev) : Dev :=
  match d.pw.resume with
  | some p => if d.pw.st = .config ∧ p < d.pitch.num then d.serviceEnter.pairJoin else d
  | none => d

/-! ### Power requests (R339 to R344) -/

/-- A power request is refused (R339, R353). -/
def Dev.powerRefuse (d : Dev) (request result : Nat) : Dev :=
  (d.put 0x2001 0x03 result).raise 0xA603 1 (request * 256 + result)

/-- Why a power request is refused; 0 when it is accepted (R339, R341). `pins` when the pins make it. -/
def Dev.powerCheck (d : Dev) (request : Nat) (pins : Bool) : Nat :=
  if !pins ∧ d.get 0x2001 0x04 ≠ 0 then 3
  else if !(d.inService || d.pw.st == .config) then 2
  else if d.requestPending then 5
  else if 3 ≤ request ∧ d.noRack then 4
  else 0

/-- RUN or TRIM accepted: at once in CONFIG, for the plan of leg k + 2 in SERVICE (R342, R343). -/
def Dev.trimRequest (d : Dev) (trim : Bool) : Dev :=
  if d.pw.trim = trim then d.put 0x2001 0x03 0
  else if d.inService then
    ({ d with pw := { d.pw with change := some (trim, d.leg + 2 * d.legPu) } } : Dev).put 0x2001 0x03 1
  else
    let masks := if trim then (List.range 7).map (fun i => d.get 0x2002 (i + 1)) else d.pw.masks
    let d : Dev := { d with pw := { d.pw with trim := trim, trimPlan := trim, masks := masks } }
    let d := (d.put 0x2001 0x02 (if trim then 2 else 1)).put 0x2001 0x03 0
    d.trimStop

/-- A power request, by entry or by pins (R339 to R344). -/
def Dev.powerRequest (d : Dev) (request : Nat) (pins : Bool) : Dev :=
  let r := d.powerCheck request pins
  if r ≠ 0 then d.powerRefuse request r
  else if request = 1 then d.trimRequest false
  else if request = 2 then d.trimRequest true
  else (d.startDrain (if request = 3 then .bivouac else .shelter)).put 0x2001 0x03 1

/-- PWR_REQ_PIN_REQUEST: a code held for 10 µs under pin control (R340). -/
def Dev.pinRequest (d : Dev) (code : Nat) : Dev :=
  if !(d.inService || d.pw.st == .config) ∨ d.get 0x2001 0x04 = 0 then d
  else ({ d with pw := { d.pw with pwrPins := code } } : Dev).powerRequest (code + 1) true

/-! ### Entering BIVOUAC and SHELTER (R344, R345) -/

/-- Watch channels move to the keep-alive clock; a stuck channel is not armed (R288). -/
def Dev.armSerial (d : Dev) : Dev :=
  (List.range 16).foldl (fun (d : Dev) n =>
    let w := d.serWake n
    if (w = 2 ∨ w = 3) ∧ d.serMode n ≠ 0 ∧ !(d.serCh n).stuck then
      d.armReceiver n
    else d) d

/-- CAN wake inputs are armed; the state that each channel held as the entry began is noted for the resume (R309). -/
def Dev.armCan (d old : Dev) : Dev :=
  (List.range 16).foldl (fun (d : Dev) n =>
    let c := d.canCh n
    d.setCan n { c with before := (old.canCh n).sleep, stuckThen := c.stuck, woke := false, tx := none, sync := false }) d

/-- Work of the core that ends with its power: what is being parsed, tagged and looped. -/
def Dev.coreIdle (d : Dev) : Dev :=
  let ports := (List.range 4).foldl (fun (m : SMap Port) p =>
    SMap.set (fun _ => ({} : Port)) m p { linkUp := (d.port p).linkUp && decide (p < 2), link := if p < 2 then (d.port p).link else 0
                                          fell := (d.port p).fell }) []
  let pitch := { d.pitch with st := .free, src := 0, quality := 2, slip := .none, lastEdge := none, wait := none, qualPulse := 0
                              qualQuad := 0, qualBeacon := 0, refPulse := {}, refQuad := {}, refBeacon := {}, qTick := none
                              qIndex := none, lastBeacon := none, slipPoint := none, out := false }
  { d with ctx := [], lanes := List.replicate 8 {}, laneQueue := [], waitTag := [], tagged := [], groups := [], looped := [], ports := ports, pitch := pitch
           team := { d.team with alive := false, rope := false, ropeLink := false, backbone := false } }

/-- LOW_POWER_ENTRY: steps 1 to 5; `done` is the instant at which step 5 completes (R344, R345, R400). -/
def Dev.lowPower (d : Dev) (done : Nat) : Dev :=
  let old := d
  let go (shelter : Bool) : Dev :=
    let d := if d.inService then d.configEnter else d
    let d := d.snapNow
    let d : Dev := { d with log := { d.log with accum := d.ledger.strings } }
    let d := (d.coreIdle.put 0x2001 0x06 0).put 0x2001 0x07 0
    let d := if shelter then d else d.armSerial.armCan old
    let d : Dev := { d with pw := { d.pw with
      st := if shelter then .shelter else .bivouac, drain := none, drained := false, armed := !shelter, armedAt := d.now
      entryDone := done, wakeDuring := none, wakeAlert := none, wakeOut := false, wakeAt := none } }
    d.put 0x2001 0x03 0
  match d.pw.drain with
  | some (.bivouac, _) => if d.pw.drained then go false else d
  | some (.shelter, _) => if d.pw.drained then go true else d
  | _ => d

/-- PIN_SHELTER: under pin control 0b11 in BIVOUAC moves the unit to SHELTER (R340, R341). -/
def Dev.pinShelter (d : Dev) : Dev :=
  if d.pw.st ≠ .bivouac ∨ d.get 0x2001 0x04 = 0 then d
  else { d with pw := { d.pw with st := .shelter, armed := false, pwrPins := 3 } }

/-! ### Wake (R340, R346 to R348) -/

/-- The vault after a tamper alarm in BIVOUAC (R385). -/
def Dev.resumeVault (d : Dev) : Dev :=
  if d.vault.coldAlarm then
    let d : Dev := { d with vault := { d.vault with coldAlarm := false } }
    if d.vault.st = 1 then d.keyless 3 else d
  else d

/-- Resume from BIVOUAC (R347): SERVICE, or CONFIG when validation of the staged list fails; a unit on ROM defaults stays in
CONFIG (R349). -/
def Dev.resume (d : Dev) (e : BootEnv) (t0 : Nat) (trim : Bool) : Dev :=
  let pw := { d.pw with armed := false, wakeAt := some t0, trim := trim, trimPlan := trim, st := .config }
  let d : Dev := { d with now := max d.now e.ready, pw := pw, team := { d.team with claimIn := e.claimIn } }
  let d : Dev :=
    if trim then { d with pw := { d.pw with masks := (List.range 7).map (fun i => d.get 0x2002 (i + 1)) } } else d
  let d := (d.put 0x2001 0x02 (if trim then 2 else 1)).resumeVault
  let v := d.validation
  if d.romOnly then d
  else if !d.staged.isEmpty ∧ v.1 then v.2.foldl (fun (d : Dev) t => d.blockStatus t 5) (d.put 0x2000 0x03 3)
  else d.serviceEnter.pairJoin

/-- WAKE_COMMAND: PWR_REQ changes to RUN (0) or TRIM (1) (R340, R345, R347, R348). Boot from SHELTER runs from step 3. -/
def Dev.wakeCommand (d : Dev) (o : Otp) (code : Nat) (e : BootEnv) : Dev :=
  if 2 ≤ code then d
  else
    let t0 := max d.now d.pw.entryDone
    let d : Dev := if d.pw.st == .bivouac || d.pw.st == .shelter then { d with pw := { d.pw with pwrPins := code } } else d
    if d.pw.st == .bivouac then d.resume e t0 (code = 1)
    else if d.pw.st == .shelter then
      let owed := d.pw.owed
      let cause := d.get 0x2006 0x01
      let wakeOut := d.pw.wakeOut
      let alert := d.pw.wakeAlert
      let during := d.pw.wakeDuring
      let wc := d.get 0x2001 0x06
      let ws := d.get 0x2001 0x07
      let d := d.coreReset
      let trim := code = 1
      let d : Dev := { d with pw := { d.pw with st := .boot, owed := owed, wakeAt := some t0, wakeOut := wakeOut, wakeAlert := alert
                                                wakeDuring := during, trim := trim, trimPlan := trim } }
      let d := ((d.put 0x2001 0x06 wc).put 0x2001 0x07 ws).put 0x2001 0x02 (if trim then 2 else 1)
      let d := d.bootRun o e none true cause
      { d with pw := { d.pw with masks := if trim then (List.range 7).map (fun i => d.get 0x2002 (i + 1)) else [] } }
    else d

/-! ### Temperature, HOLD (R350, R352, R426) -/

/-- THERM_ASSERT at or above 125 °C (R350). -/
def Dev.thermAssert (d : Dev) (tj : Int) : Dev :=
  if d.pw.st = .off ∨ tj < 125 then d
  else
    let d : Dev := { d with pw := { d.pw with therm := true, tj := tj } }
    if d.coreOn then d.raise 0xA600 2 (ofI32 tj) else d.journalKa 0xA600 2 (ofI32 tj)

/-- THERM_RELEASE at or below 120 °C. -/
def Dev.thermRelease (d : Dev) (tj : Int) : Dev :=
  if d.pw.st = .off ∨ 120 < tj then d
  else
    let d : Dev := { d with pw := { d.pw with therm := false, tj := tj } }
    if d.coreOn then d.clearAlert 0xA600 else d

/-- Device state HOLD: role HOLD, every output released, every wake source disarmed (R192, R350, R352). -/
def Dev.enterHold (d : Dev) : Dev :=
  let d := d.progressLost
  let d : Dev := { d with pw := { d.pw with st := .hold, drain := none, drained := false, resume := none, change := none, armed := false
                                            wakeOut := false, heldBoot := false } }
  { d with pitch := { d.pitch with out := false } }

/-- THERMAL_TRIP at or above 140 °C (R350). -/
def Dev.thermalTrip (d : Dev) (tj : Int) : Dev :=
  if d.pw.st = .off ∨ tj < 140 then d
  else
    let peak := match d.pw.trip with | some p => max p tj | none => tj
    let d : Dev := { d with pw := { d.pw with trip := some peak, tj := tj } }
    if d.pw.st = .hold then d else (d.journalKa 0xA601 3 (ofI32 peak)).enterHold

/-! ### Brown-out and the resets of the whole device (R351, R364) -/

/-- BROWN_OUT of rails `[2] VDDIO_C, [1] VDD_SRAM, [0] VDD_CORE`, with the peak Tj of a trip at the same instant: the
last-gasp, except in SHELTER, then reset (R351, R411). -/
def Dev.brownOut (d : Dev) (rails : Nat) (trip : Option Int) : Dev :=
  if d.pw.st = .off ∨ rails % 8 = 0 then d
  else
    let d : Dev := if trip.isSome then { d with pw := { d.pw with trip := trip } } else d
    let d : Dev := if d.pw.st = .shelter then d
      else { d with log := { d.log with gasp := some (d.gaspTake (rails % 8 + 8 * b2n trip.isSome)) } }
    let d := d.resetBy 4
    { d with pw := { d.pw with brown := true } }

/-- BROWN_OUT_RECOVERY: every monitored rail has been in range for 1 ms. -/
def Dev.brownRecovery (d : Dev) (o : Otp) (e : BootEnv) : Dev :=
  if !d.pw.brown ∨ d.pw.porst ∨ d.pw.noKa then d else ({ d with pw := { d.pw with brown := false } } : Dev).boot o e

/-- PORST_N_LOW: everything but the RTC counter, the tamper latches and MRAM; the TAP too (R364, R425). -/
def Dev.porstLow (d : Dev) : Dev :=
  if d.pw.noKa then { d with pw := { d.pw with porst := true } }
  else
    let d := d.resetBy 2
    { d with pw := { d.pw with porst := true, brown := false }, tap := {} }

/-- Step 1 of the boot: PAIR_POS, the keep-alive source and the level of VDDIO_H are taken (R181, R355, R433). -/
def Dev.porstBoot (d : Dev) (o : Otp) (e : BootEnv) : Dev :=
  let clk := { d.clk with kaSrc := b2n e.kaClk }
  ({ d with pw := { d.pw with porst := false, hostIo18 := some e.hostIo18 }, clk := clk
            team := { d.team with posB := e.strapB } } : Dev).boot o e

/-- PORST_N_RELEASE with supplies in range (R349). -/
def Dev.porstRelease (d : Dev) (o : Otp) (e : BootEnv) : Dev := if !d.pw.porst ∨ d.pw.noKa then d else d.porstBoot o e

/-- SYSRST_N_LOW for 100 ns, and the boot from its release (R364). -/
def Dev.sysReset (d : Dev) (o : Otp) (e : BootEnv) : Dev :=
  if d.pw.porst ∨ d.pw.noKa ∨ d.pw.brown then d else (d.resetBy 3).boot o e

/-- VDD_KA_LOSS: every volatile state, the RTC and the tamper latches are lost; the device is OFF (R364). -/
def Dev.kaLoss (d : Dev) : Dev :=
  let d := d.coreReset
  { d with pw := { noKa := true, porst := d.pw.porst, tj := d.pw.tj }, clk := { rtcRuns := false, rtcMark := true }, tap := {}
           vault := { d.vault with latch := 0, stamp := 0, coldAlarm := false, owed := false } }

/-- VDD_KA_RESTORE: the RTC counter restarts with its mark set; where PORST_N is high, boot runs (R356, R364). -/
def Dev.kaRestore (d : Dev) (o : Otp) (e : BootEnv) : Dev :=
  if !d.pw.noKa then d
  else
    let d : Dev := { d with pw := { d.pw with noKa := false, causes := setBit d.pw.causes 1 true }
                            clk := { rtcRuns := true, rtcMark := true, rtcBase := 0, rtcFrom := d.now } }
    if d.pw.porst then d else d.porstBoot o e

/-- BOOT_THERMAL_HOLD_END: a boot held at step 2 continues once Tj is below 125 °C (R349). -/
def Dev.holdEnd (d : Dev) (o : Otp) (tj : Int) (e : BootEnv) : Dev :=
  if !d.pw.heldBoot ∨ 125 ≤ tj then d else ({ d with pw := { d.pw with tj := tj } } : Dev).boot o e

/-- What a reboot does to the block before it boots: role NONE, snapshot, and every journal entry in MRAM (R192, R408). -/
def Dev.rebootPrepare (d : Dev) : Dev :=
  let d := (d.setRole .none).snapNow
  { d with log := { d.log with journal := ((d.log.queue.reverse.map Prod.fst) ++ d.log.journal).take 4096, queue := [] } }

/-- State request 0x10: snapshot, then a reboot from the rack (R37, R364). HOLD is left by PORST_N or SYSRST_N alone. -/
def Dev.rebootRequest (d : Dev) (o : Otp) (e : BootEnv) : Dev :=
  if d.pw.st = .hold then d.put 0x2000 0x03 2 else (d.rebootPrepare.resetBy 5).boot o e

/-- TRANSITION_COMPLETE: the fuses are burnt, the staged slots written, and the device reboots; or a fuse write fails and
the device stays in its old state (R372, R373). `o` is what the fuses then hold. -/
def Dev.transitionEnd (d : Dev) (o : Otp) (failed : Bool) (e : BootEnv) : Dev :=
  match d.vault.transition with
  | none => d
  | some t =>
    if failed then (d.transitionFail 9).put 0x2800 0x07 o.spare
    else ((d.transitionDone t).rebootPrepare.resetBy 5).boot o e

/-- The fuses after TRANSITION_COMPLETE (R371 to R373): the state only moves forward, and a burnt state has three rows of
its own. -/
def Otp.transition (o : Otp) (t : Transition) (failed : Bool) (salt : Nat) : Otp :=
  if failed then { o with spare := o.spare - 1 }
  else if o.life.permits t.target then { life := t.target, spare := 3, verify := t.verify, salt := salt }
  else o

end Sys2Proof.Machine
end

