-- ==== Sys2Proof/Machine/Clocks.lean ====
section
/-! DEFINITION. Clocks, one-side resets of domains, PLLs, the keep-alive clock, the RTC, and the boundary-scan port (R355 to
R358, R364, R366, R367, R369, R425 to R427). -/

namespace Sys2Proof.Machine

/-! ### One side in reset (R364, R366, R367) -/

/-- A domain's reset is asserted: its bit, the count and 0xA611; nothing where it is in reset already or the core is off. -/
def Dev.sideReset (d : Dev) (x : Domain) : Dev :=
  let d : Dev := { d with clk := { d.clk with inReset := setBit d.clk.inReset x.bit true } }
  (d.count 0x2005 0x06).raise 0xA611 1 (2 ^ x.bit)

/-- The domain can be reset on its own now. -/
def Dev.sideRuns (d : Dev) (x : Domain) : Bool := d.coreOn && !bit d.clk.inReset x.bit

/-- Every block that a transport holds becomes free (R367). -/
def Dev.freeBlocks (d : Dev) (t : Transport) : Dev :=
  Tbl.all.foldl (fun (d : Dev) x => if (d.block x).owner = t.code then d.setBlock x { d.block x with owner := 0 } else d) d

/-- One ring off as a PCIe domain reset leaves it: what its reader had of it is dropped (R367). -/
def Dev.ringOff (d : Dev) (r : Nat) : Dev :=
  let e := d.setRing r { d.ring r with enable := false, signal := none }
  if (d.ring r).enable ∧ r < 32 then e.ringDrop r else e

/-- Every ring off (R367). -/
def Dev.ringsOff (d : Dev) : Dev := (List.range 64).foldl Dev.ringOff d

/-- PCIE_DOMAIN_RESET (R367). -/
def Dev.pcieReset (d : Dev) : Dev :=
  if !d.sideRuns .pcie then d
  else
    let d := ((d.sideReset .pcie).freeBlocks .pcie).ringsOff
    let m := { d.bridge.mailbox with status := 0, command := 0 }
    { d.setMailbox m with msix := {}, words := d.words.set .pcie {} }

/-- What HLB accesses have left open is abandoned: snapshots and held low words, of the dictionary and of the windows. -/
def Dev.hlbAbandon (d : Dev) : Dev :=
  let ws := d.bridge.windows.foldl (fun m kv =>
    SMap.set (fun _ => ({} : Window)) m kv.1 { kv.2 with snap := none, low := none }) ([] : SMap Window)
  { d with words := d.words.set .hlb {}, bridge := { d.bridge with windows := ws } }

/-- HLB_CLOCK_LOSS: the access in progress is abandoned; slots and posted writes stay; a semaphore is released (R367). -/
def Dev.hlbReset (d : Dev) : Dev :=
  if !d.sideRuns .hlb then d else (d.sideReset .hlb).lockEnd.hlbAbandon

/-- A frame is discarded under orders 1 to 3 of R234: its counter, and 0xA401 from the sixteenth of a pitch (R248). -/
def Dev.rxDiscard (d : Dev) (p sub : Nat) : Dev :=
  let d := d.count (0x3200 + p) sub
  let n := (d.port p).discards + 1
  let d := d.setPort p { d.port p with discards := n }
  if 16 ≤ n then d.raise 0xA401 1 (sat 0xFFFF n * 2 ^ 16 + p) else d

/-- LANE_PCS_LOCK_LOSS: the receive MAC of a backbone port, or of the rope port, is reset, and its link is down; `receiving` when a
frame was in reception (R233, R247, R364, R367). -/
def Dev.laneReset (d : Dev) (x : Domain) (receiving : Bool) : Dev :=
  if !d.sideRuns x then d
  else
    let d := d.sideReset x
    match x with
    | .port p =>
      let d := (d.setPort p { d.port p with inReset := true }).linkChange p false 0
      if receiving then d.rxDiscard p 0x23 else d
    | .rope => d.ropeLost true
    | _ => d

/-- DOMAIN_RESET_RELEASE: the domain has reloaded its configuration, and its bit clears (R366). -/
def Dev.sideRelease (d : Dev) (x : Domain) : Dev :=
  let d : Dev := { d with clk := { d.clk with inReset := setBit d.clk.inReset x.bit false } }
  match x with
  | .port p => d.setPort p { d.port p with inReset := false }
  | _ => d

/-! ### PLLs (R357, R369) -/

/-- PLL_LOCK_LOSS of the PLLs in a mask of 0x2005:01. -/
def Dev.pllLoss (d : Dev) (mask : Nat) : Dev :=
  if d.pw.st = .off ∨ d.pw.st = .shelter then d
  else
    let left := d.clk.pll &&& (mask % 32 ^^^ 31)
    let d : Dev := { d with clk := { d.clk with pll := left } }
    let d := d.raiseKa 0xA610 3 (31 - left)
    let d := if bit mask 2 then (List.range 4).foldl (fun (d : Dev) p => d.linkChange p false 0) d else d
    let d := if bit mask 3 then d.ropeLost true else d
    let d := if bit mask 4 then d.pcieReset else d
    if bit mask 0 ∨ bit mask 1 then d.progressLost else d

/-- PLL_LOCK_REGAIN: 0xA610 clears once every PLL is locked. -/
def Dev.pllRegain (d : Dev) (mask : Nat) : Dev :=
  if d.pw.st = .off ∨ d.pw.st = .shelter then d
  else
    let d : Dev := { d with clk := { d.clk with pll := d.clk.pll ||| mask % 32 } }
    if d.clk.pll = 31 ∧ d.coreOn then d.clearAlert 0xA610 else d

/-! ### Keep-alive clock and RTC (R355, R356) -/

/-- KA_CLOCK_LOSS: the domain runs from the RC until the next PORST_N; `ppm` is the RC's deviation. -/
def Dev.kaClockLoss (d : Dev) (ppm : Int) : Dev :=
  if d.pw.noKa ∨ d.clk.kaSrc ≠ 1 then d
  else
    let d : Dev := { d with clk := { d.clk with kaSrc := 2 } }
    (d.put 0x2005 0x03 (ofI32 ppm)).raiseKa 0xA612 2 (ofI32 ppm)

/-- RC_TRIM: the deviation found; outside ±0.5% it raises 0xA612. -/
def Dev.rcTrim (d : Dev) (ppm : Int) : Dev :=
  if d.pw.st = .off then d
  else
    let d := if d.clk.kaSrc = 1 then d else d.put 0x2005 0x03 (ofI32 ppm)
    if ppm < -5000 ∨ 5000 < ppm then d.raiseKa 0xA612 2 (ofI32 ppm) else d

/-- RTC_STOP_DETECT: the last edge came 1 ms ago (R356). -/
def Dev.rtcStop (d : Dev) : Dev :=
  if d.pw.noKa ∨ !d.clk.rtcRuns then d
  else
    let d : Dev := { d with clk := { d.clk with rtcBase := d.rtcCycles - msCycles, rtcRuns := false, rtcMark := true } }
    if d.pw.st = .off then d else d.raiseKa 0xA613 1 0

/-- RTC_RESTART. -/
def Dev.rtcRestart (d : Dev) : Dev :=
  if d.pw.noKa ∨ d.clk.rtcRuns then d
  else
    let d : Dev := { d with clk := { d.clk with rtcFrom := d.now, rtcRuns := true } }
    if d.coreOn then d.clearAlert 0xA613 else d

/-! ### Clearing of alerts (R40 and the alert table of each chapter) -/

/-- Alerts that only a boot, or an entry to SERVICE, clears (R43, R353, R390, R417, R419), and those that a rule clears at
once where their condition ends (R177, R206). -/
def standingCodes : List Nat :=
  [0xA5F0, 0xA5F1, 0xA5F2, 0xA601, 0xA602, 0xA605, 0xA501, 0xA502, 0xA503, 0xA506, 0xA623, 0xA630, 0xA2A3, 0xA308]

/-- The clearing condition of an active alert holds: its own where its table gives one, else one pitch since its latest
raise (R40). -/
def Dev.clearable (d : Dev) (a : Alert) : Bool :=
  let c := a.code
  if standingCodes.contains c then false
  else if c = 0xA101 then d.quality ≠ 2
  else if c = 0xA105 then d.pitch.offset = 0
  else if c = 0xA302 then d.team.rope
  else if c = 0xA306 ∨ c = 0xA307 then d.team.formed
  else if c = 0xA400 then (List.range 4).all (fun p => !(d.port p).fell)
  else if c = 0xA420 then !d.ser.any (fun kv => kv.2.stuck)
  else if c = 0xA430 then !d.can.any (fun kv => kv.2.busOff)
  else if c = 0xA431 then !d.can.any (fun kv => kv.2.stuck)
  else if c = 0xA434 then !d.can.any (fun kv => kv.2.passive)
  else if c = 0xA500 then d.vault.latch = 0
  else if c = 0xA600 then !d.pw.therm
  else if c = 0xA610 then d.clk.pll = 31
  else if c = 0xA613 then d.clk.rtcRuns
  else decide (a.latest + 2 ^ 24 ≤ d.stamp)

/-- ALERT_CLEAR: an active alert whose clearing condition holds changes to cleared and is emitted (R40). -/
def Dev.alertClear (d : Dev) (code : Nat) : Dev :=
  match d.alerts.find? (fun a => a.code = code) with
  | some a => if d.coreOn && d.clearable a then d.clearAlert code else d
  | none => d

/-! ### The TAP (R425 to R427) -/

/-- The IDCODE (R425). -/
def idcode : Nat := 0x17408767

/-- The TAP is out of reset. -/
def Dev.tapRuns (d : Dev) : Bool := !d.pw.porst && !d.pw.noKa

/-- Captured pin levels as the data register, the first at bit 0. -/
def pinsValue (pins : List Bool) : Nat := pins.foldr (fun b n => b2n b + 2 * n) 0

/-- An instruction is loaded and its data register captured. -/
def Dev.tapLoad (d : Dev) (i : TapInstr) (dr : Nat) (drives : Bool) : Dev :=
  { d with tap := { d.tap with instr := i, dr := dr, drives := drives } }.emit (.tdo dr)

/-- BYPASS and IDCODE. -/
def Dev.tapBypass (d : Dev) : Dev := if d.tapRuns then d.tapLoad .bypass 0 false else d
def Dev.tapIdcode (d : Dev) : Dev := if d.tapRuns then d.tapLoad .idcode idcode false else d

/-- SAMPLE/PRELOAD: the pins are sampled, and the boundary cells loaded. -/
def Dev.tapSample (d : Dev) (pins cells : List Bool) : Dev :=
  if d.tapRuns then
    let d := d.tapLoad .samplePreload (pinsValue pins) false
    { d with tap := { d.tap with cells := cells } }
  else d

/-- The instructions that take the pins enter HOLD from any device state; the entry is journalled (R426). -/
def Dev.tapHold (d : Dev) (i : TapInstr) (dr : Nat) (drives : Bool) : Dev :=
  if !d.tapRuns then d
  else
    let d := if d.pw.st = .hold then d else d.enterHold.journalKa 0xA631 1 0
    d.tapLoad i dr drives

/-- TAP_RESET by TRST_N or PORST_N. -/
def Dev.tapReset (d : Dev) : Dev := { d with tap := { d.tap with instr := .idcode, dr := 0, drives := false } }

end Sys2Proof.Machine
end

