-- ==== Sys2Proof/Machine/Access.lean ====
section
/-! DEFINITION. The object dictionary as every transport sees it: the order of the checks, the values each entry admits,
what a read gives and what a write does (R22 to R37, R39, R48, and the entry tables of every chapter). -/

namespace Sys2Proof.Machine

/-! ### Rejections (R36) -/

/-- Causes of a rejected access. -/
inductive Abort where
  | timeout | command | unsupported | writeOnly | readOnly | noIndex | length | noSub | value | state
  deriving DecidableEq, Repr

/-- The abort code of a cause. -/
def Abort.code : Abort → Nat
  | .timeout => 0x05040000 | .command => 0x05040001 | .unsupported => 0x06010000 | .writeOnly => 0x06010001
  | .readOnly => 0x06010002 | .noIndex => 0x06020000 | .length => 0x06070010 | .noSub => 0x06090011
  | .value => 0x06090030 | .state => 0x08000022

/-- The transport is enabled (R34): reads and writes have a bit each over OD-access datagrams. -/
def Dev.enabled (d : Dev) (tr : Transport) (write : Bool) : Bool :=
  let te := d.get 0x2000 0x10
  match tr with
  | .hlb => bit te 0 | .pcie => bit te 1 | .sdo => bit te 2 | .od => bit te (if write then 4 else 3)

/-- Checks 1 to 3 (R36). -/
def Dev.absent (d : Dev) (tr : Transport) (write : Bool) (idx sub : Nat) : Option Abort :=
  if !d.enabled tr write then some .unsupported
  else if (dictFind idx sub).isSome then none
  else if dictHasIndex idx then some .noSub else some .noIndex

/-- Checks of a read (R24, R36). -/
def Dev.readCheck (d : Dev) (tr : Transport) (idx sub : Nat) : Option Abort :=
  match d.absent tr false idx sub with
  | some a => some a
  | none => match dictFind idx sub with
    | some r => if r.acc = .wo then some .writeOnly else none
    | none => none

/-! ### Values that an entry admits (R6, R7, R23) -/

/-- A value's verdict: it is taken, it is out of range, or it is reserved. -/
inductive Verdict where
  | ok | range | reserved
  deriving DecidableEq, Repr

/-- The first verdict that is not ok. -/
def Verdict.andThen : Verdict → Verdict → Verdict
  | .ok, v => v
  | v, _ => v

/-- Out of range unless a condition holds. -/
def inRange (b : Bool) : Verdict := if b then .ok else .range

/-- Reserved unless a condition holds. -/
def notReserved (b : Bool) : Verdict := if b then .ok else .reserved

/-- Entries whose values lie in one interval: indices, subindices, lowest and highest value, and whether the others are
reserved or only out of range. -/
structure ValueRow where
  ilo : Nat
  ihi : Nat
  slo : Nat
  shi : Nat
  lo : Nat
  hi : Nat
  res : Bool

/-- Intervals of chapters 02 to 08. -/
def valueRows1 : List ValueRow := [
  ⟨0x2000, 0x2000, 6, 6, 0, 63, true⟩, ⟨0x2000, 0x2000, 7, 7, 1, 127, true⟩, ⟨0x2001, 0x2001, 1, 1, 1, 4, true⟩,
  ⟨0x2002, 0x2002, 7, 7, 0, 0xFFFFF, true⟩, ⟨0x2007, 0x2007, 2, 2, 0xFFFFFFD8, 0xFFFFFFD8, true⟩,
  ⟨0x2010, 0x2010, 1, 1, 0, 0xFFFFFF, true⟩, ⟨0x2010, 0x2010, 4, 4, 1, 2, true⟩, ⟨0x2011, 0x2011, 2, 2, 0, 1, true⟩,
  ⟨0x2020, 0x2020, 3, 3, 0, 15, true⟩, ⟨0x2020, 0x2020, 5, 5, 0, 1, true⟩,
  ⟨0x2100, 0x2100, 1, 2, 0, 3, true⟩, ⟨0x2100, 0x2100, 3, 5, 400000, 819200000, false⟩,
  ⟨0x2100, 0x2100, 6, 6, 0, 10, true⟩, ⟨0x2100, 0x2100, 7, 7, 2, 8, true⟩, ⟨0x2100, 0x2100, 0x0A, 0x0A, 16, 65536, false⟩,
  ⟨0x2100, 0x2100, 0x0B, 0x0B, 1, 65535, true⟩, ⟨0x2100, 0x2100, 0x0C, 0x0C, 0, 0x7FF, true⟩,
  ⟨0x2100, 0x2100, 0x0F, 0x0F, 3, 14, true⟩,
  ⟨0x2101, 0x2101, 1, 1, 0, 3, true⟩, ⟨0x2101, 0x2101, 4, 4, 0, 2, true⟩,
  ⟨0x2212, 0x2212, 1, 3, 0, 0x3FFFF, true⟩, ⟨0x2220, 0x2220, 2, 2, 0, 0, true⟩, ⟨0x2220, 0x2220, 4, 4, 0, 0, true⟩,
  ⟨0x2240, 0x2247, 2, 2, 1000, 10000000, true⟩, ⟨0x2248, 0x2248, 1, 0xF4, 0, 7, true⟩,
  ⟨0x2301, 0x2301, 4, 4, 1, 1, true⟩, ⟨0x2308, 0x2308, 3, 3, 0, 63, true⟩, ⟨0x2308, 0x2308, 9, 9, 1, 1, true⟩,
  ⟨0x2512, 0x2512, 1, 1, 0, 0x3FF, true⟩, ⟨0x2512, 0x2512, 3, 3, 0, 0, true⟩]

/-- Intervals of chapters 09 to 15. -/
def valueRows2 : List ValueRow := [
  ⟨0x2600, 0x2600, 3, 3, 500, 50000, true⟩, ⟨0x2600, 0x2600, 4, 4, 1000, 1000000, true⟩,
  ⟨0x2602, 0x2602, 1, 1, 1, 12, true⟩, ⟨0x2602, 0x2602, 2, 2, 0, 64, true⟩,
  ⟨0x3300, 0x330F, 2, 2, 5, 500, true⟩,
  ⟨0x3200, 0x3203, 1, 1, 0, 3, true⟩, ⟨0x3200, 0x3203, 3, 3, 1518, 9600, true⟩, ⟨0x3200, 0x3203, 7, 7, 0, 0xFFFFFF, true⟩,
  ⟨0x3200, 0x3203, 0x0B, 0x0B, 1, 1, true⟩, ⟨0x3210, 0x3210, 1, 1, 0, 1, true⟩, ⟨0x3210, 0x3210, 2, 2, 0, 11, true⟩,
  ⟨0x3000, 0x30BF, 1, 1, 0, 2, true⟩, ⟨0x3000, 0x30BF, 2, 2, 110, 10000000, true⟩, ⟨0x3000, 0x30BF, 6, 6, 10, 10000, true⟩,
  ⟨0x3000, 0x30BF, 7, 7, 0, 3, true⟩,
  ⟨0x3100, 0x310F, 1, 1, 0, 2, true⟩, ⟨0x3100, 0x310F, 5, 5, 10, 10000, true⟩, ⟨0x3100, 0x310F, 8, 8, 1, 1, true⟩,
  ⟨0x2C10, 0x2C1F, 2, 2, 1, 1, true⟩, ⟨0x2C10, 0x2C1F, 7, 7, 100, 60000, true⟩, ⟨0x2C10, 0x2C1F, 8, 8, 0, 10000, true⟩,
  ⟨0x2C10, 0x2C1F, 9, 9, 100, 10000, true⟩, ⟨0x2C10, 0x2C1F, 0x0A, 0x0A, 1000, 3600000, true⟩,
  ⟨0x2701, 0x2708, 1, 1, 0, 2, true⟩, ⟨0x2701, 0x2708, 2, 2, 0, 0xFFF, true⟩, ⟨0x2701, 0x2708, 5, 5, 1, 5000, false⟩,
  ⟨0x2701, 0x2708, 6, 6, 1, 4, false⟩, ⟨0x2720, 0x2720, 3, 3, 0, 31, true⟩, ⟨0x2730, 0x2730, 2, 2, 1, 1, true⟩]

/-- Intervals of chapters 18 to 21. -/
def valueRows3 : List ValueRow := [
  ⟨0x2800, 0x2800, 8, 8, 0, 63, true⟩, ⟨0x2811, 0x2811, 1, 1, 0, 63, true⟩, ⟨0x2820, 0x2820, 3, 3, 0, 7, true⟩,
  ⟨0x2830, 0x2830, 2, 2, 0, 63, true⟩, ⟨0x2830, 0x2830, 3, 3, 1, 1, true⟩,
  ⟨0x2900, 0x2900, 1, 1, 1, 0xFFFFFFFF, false⟩, ⟨0x2900, 0x2900, 2, 2, 0, 63, true⟩, ⟨0x2911, 0x2911, 1, 1, 0, 63, true⟩,
  ⟨0x2A00, 0x2A00, 1, 1, 60, 86400, true⟩, ⟨0x2A00, 0x2A00, 2, 2, 1, 1, true⟩, ⟨0x2A01, 0x2A01, 1, 1, 0, 2047, true⟩,
  ⟨0x2A02, 0x2A02, 1, 1, 0, 63, true⟩]

/-- The interval test of an entry. -/
def valueInterval (idx sub v : Nat) : Verdict :=
  match (valueRows1 ++ valueRows2 ++ valueRows3).find? (fun r => r.ilo ≤ idx && idx ≤ r.ihi && r.slo ≤ sub && sub ≤ r.shi) with
  | some r => if r.lo ≤ v ∧ v ≤ r.hi then .ok else if r.res then .reserved else .range
  | none => .ok

/-- The bits of a directly written entry that are not RSV fields (R6): RSV bits are ignored and read 0. -/
def keptMask (idx sub v : Nat) : Nat :=
  if idx = 0x2000 ∧ sub = 4 then v &&& 0x8FFF
  else if 0x2240 ≤ idx ∧ idx ≤ 0x2247 ∧ sub = 1 then v &&& 0x1F
  else if 0x3200 ≤ idx ∧ idx ≤ 0x3203 ∧ sub = 2 then v &&& 0xF
  else if 0x3200 ≤ idx ∧ idx ≤ 0x3203 ∧ sub = 6 then v &&& 0x0FFFFF03
  else if (idx = 0x3200 ∨ idx = 0x3201) ∧ sub = 0x10 then v &&& 0x1FF
  else if 0x3000 ≤ idx ∧ idx ≤ 0x30BF ∧ sub = 3 then v &&& 0x7C
  else if 0x3000 ≤ idx ∧ idx ≤ 0x30BF ∧ sub = 4 then v &&& 0xFFFF00FC
  else if 0x3000 ≤ idx ∧ idx ≤ 0x30BF ∧ sub = 5 then v &&& 0xFF03FFFF
  else if 0x3100 ≤ idx ∧ idx ≤ 0x310F ∧ (sub = 2 ∨ sub = 3) then v &&& 0xFFFF7F7F
  else if idx = 0x2720 ∧ sub ≤ 2 then v &&& 0x3FF
  else if idx = 0x2C20 then v &&& 0xFFFF7FFFFFFFFFFF
  else v

/-- A bit timing is admitted: field widths, TSEG1, SJW and the bit rate (R296). -/
def timingFits (nominal : Bool) (v : Nat) : Bool :=
  let t1 := bits v 23 16
  let quanta := (bits v 31 24 + 1) * (1 + (t1 + 1) + (bits v 14 8 + 1))
  if nominal then 1 ≤ t1 && bits v 6 0 ≤ bits v 14 8 && 200 ≤ quanta
  else bits v 31 24 < 32 && t1 < 32 && bits v 14 8 < 16 && bits v 6 0 < 16 && bits v 6 0 ≤ bits v 14 8 && 25 ≤ quanta

/-- The keep-alive divisor gives a rate within 0.5% of a baud rate of at most 38,400 (R288). -/
def wakeBaud (baud : Nat) : Bool :=
  let n := (2 * 307200 + baud) / (2 * baud)
  baud ≤ 38400 && 0 < baud && decide (1000 * (max 307200 (n * baud) - min 307200 (n * baud)) ≤ 5 * n * baud)

/-- The condition to arm a Wake of 2 or 3 on a channel (R288). -/
def wakeFits (n wake mode baud format : Nat) : Bool :=
  wake < 2 || (n < 16 && mode ≠ 0 && wakeBaud baud && (wake = 2 || bits format 6 5 = 2))

/-- Serial entries (R266 to R268, R276, R286, R288). -/
def Dev.serVerdict (d : Dev) (n sub v : Nat) : Verdict :=
  let mode := d.get (0x3000 + n) 1
  let baud := d.get (0x3000 + n) 2
  let format := d.get (0x3000 + n) 3
  let wake := d.get (0x3000 + n) 7
  if sub = 2 then inRange (wakeFits n wake mode v format)
  else if sub = 3 then
    (notReserved (bits v 6 5 ≠ 3 && bits v 4 3 ≠ 3)).andThen (inRange (wakeFits n wake mode baud v))
  else if sub = 4 then
    ((notReserved (bits v 7 6 ≠ 3)).andThen (notReserved (n < 64 || bits v 5 2 = 0))).andThen
      (inRange (2 ≤ bits v 31 24 && bits v 31 24 ≤ 64 && decide (bits v 23 16 < bits v 31 24)))
  else if sub = 5 then notReserved (bits format 6 5 = 2 || v = 0)
  else if sub = 7 then inRange (wakeFits n v mode baud format)
  else if sub = 0x13 then notReserved (d.txFits n v)
  else .ok

/-- CAN and sleep entries (R295, R296, R306). -/
def Dev.canVerdict (d : Dev) (idx sub v : Nat) : Verdict :=
  if idx / 16 = 0x310 then
    if sub = 2 then notReserved (timingFits true v)
    else if sub = 3 then notReserved (timingFits false v)
    else if sub = 4 then notReserved (v < 2 ^ 16 && bits v 15 8 < 128 && bits v 7 2 = 0)
    else .ok
  else
    if sub = 4 then notReserved (!bit v 29)
    else if sub = 5 then
      let low := d.get idx 4
      notReserved (bits v 30 29 = 0 && bit v 31 == bit low 31 && decide (bits low 28 0 ≤ bits v 28 0))
    else if sub = 6 then notReserved (v < 2 ^ 24 && bits v 23 16 < 64 && bits v 15 8 < 64)
    else .ok

/-- Pitch entries (R138, R155). -/
def Dev.pitchVerdict (d : Dev) (idx sub v : Nat) : Verdict :=
  if idx = 0x2100 then
    if sub = 2 then inRange (v = 0 || v ≠ d.get 0x2100 1)
    else if sub = 5 then inRange (decide (d.get 0x2100 4 ≤ v))
    else if sub = 9 then notReserved (bits v 31 20 = 0 && bits v 19 16 ≠ 0 && bits v 15 0 ≠ 0)
    else if sub = 0x0D then inRange (decide (-100000 ≤ toI32 v) && decide (toI32 v ≤ 100000))
    else .ok
  else
    if sub = 2 then inRange (d.get 0x2101 1 ≠ 2 || decide (v < d.legPu))
    else if sub = 3 then (notReserved (v ≠ 0)).andThen (inRange (decide (v ≤ 0x0FFFFFFF)))
    else .ok

/-- Character of an s: value (R80). -/
def sfiChar (b : Nat) : Bool := (0x30 ≤ b && b ≤ 0x39) || (0x41 ≤ b && b ≤ 0x5A) || (0x61 ≤ b && b ≤ 0x7A)

/-- A Unit SFI (R251): characters of an s: value, then NULs. -/
def sfiFits (v : Nat) : Bool :=
  let bs := (le 8 v).map (·.toNat)
  (bs.takeWhile (· ≠ 0)).all sfiChar && (bs.dropWhile (· ≠ 0)).all (· = 0)

/-- A wake header (R289): five characters, each A to Z or 0 to 9. -/
def wakeHeaderFits (v : Nat) : Bool :=
  v = 0 || (List.range 5).all (fun i =>
    let b := bits v (8 * i + 7) (8 * i)
    (0x41 ≤ b && b ≤ 0x5A) || (0x30 ≤ b && b ≤ 0x39))

/-- The fields of port loops (R422). -/
def portLoopsFit (v : Nat) : Bool := v < 2 ^ 15 && (List.range 5).all (fun i => bits v (3 * i + 2) (3 * i) ≤ 4)

/-- Entries with a rule of their own, by chapter. -/
def Dev.ownVerdict (d : Dev) (idx sub v : Nat) : Verdict :=
  if idx = 0x2000 then
    if sub = 2 then notReserved (v = 2 || v = 3 || v = 0x10)
    else if sub = 4 then notReserved (!(bit v 15 && bit v 0))
    else if sub = 8 then notReserved (v < 16 || v = 0xFF)
    else if sub = 0x10 then notReserved (v < 32 && bits v 1 0 = 3)
    else .ok
  else if idx = 0x2010 ∧ sub = 2 then inRange (v % 4 = 0)
  else if idx = 0x2100 ∨ idx = 0x2101 then d.pitchVerdict idx sub v
  else if idx = 0x2301 ∧ sub = 2 then inRange (d.pw.st ≠ .config && d.commit.isNone)
  else if idx = 0x2304 ∨ idx = 0x2305 then notReserved (v &&& 0x88888888 = 0)
  else if idx = 0x1C02 then (notReserved (bits v 23 2 = 0)).andThen (inRange (decide (bits v 31 24 ≤ 32)))
  else if idx = 0x1C03 ∧ sub = 5 then inRange (sfiFits v)
  else if 0x3200 ≤ idx ∧ idx ≤ 0x3203 then
    if sub = 6 then
      let used := bits v 15 8 ≠ 0 || bits v 1 0 = 1 || bits v 1 0 = 2
      notReserved (bits v 1 0 ≠ 3 && !(used && (bits v 27 16 = 0 || bits v 27 16 = 4095)))
    else if sub = 8 then notReserved (v < 2 ^ 48 && !bit v 40)
    else .ok
  else if idx = 0x3210 ∧ sub = 2 then notReserved (bits v 3 2 ≠ 3)
  else if 0x3000 ≤ idx ∧ idx ≤ 0x30BF then d.serVerdict (idx - 0x3000) sub v
  else if idx / 16 = 0x310 ∨ idx / 16 = 0x2C1 then d.canVerdict idx sub v
  else if 0x2701 ≤ idx ∧ idx ≤ 0x2708 ∧ sub = 4 then
    (notReserved (v < 128 && bits v 3 2 = 0)).andThen (inRange (bits v 6 4 < 4))
  else if idx = 0x2700 ∧ sub = 1 ∨ idx = 0x2900 ∧ sub = 3 then notReserved (v < 32 || v = 0xFF)
  else if idx = 0x2820 ∧ sub = 1 then
    notReserved ((List.range 4).all (fun i => !bit v (8 * i + 7) || bits v (8 * i + 5) (8 * i) ≠ 0))
  else if idx = 0x2820 ∧ sub = 2 then notReserved (v < 256 && bits v 7 4 ≠ 0 && bits v 3 1 = 0)
  else if idx = 0x2B00 ∧ sub = 0x0D then notReserved ((List.range 16).all (fun n => bits v (2 * n + 1) (2 * n) ≠ 3))
  else if idx = 0x2B00 ∧ sub = 0x0E then notReserved (portLoopsFit v)
  else if idx = 0x2C20 then inRange (wakeHeaderFits v)
  else .ok

/-- Subindices of access blocks (R31, R32, R117): Operation and Owner. -/
def blockVerdict (tr : Transport) (t : Tbl) (sub v : Nat) : Verdict :=
  if sub = 2 then notReserved (1 ≤ v && v ≤ 3 && !(t = .lastval && v = 2))
  else if sub = 4 then notReserved (v = 0 || v = tr.code)
  else .ok

/-- The verdict on a value (R7, R23); `v` has its RSV bits cleared. -/
def Dev.verdict (d : Dev) (tr : Transport) (idx sub v : Nat) : Verdict :=
  match dictFind idx sub with
  | none => .ok
  | some r =>
    if !r.ty.fits v then .range
    else match Tbl.ofIndex idx with
      | some t => blockVerdict tr t sub v
      | none => (valueInterval idx sub v).andThen (d.ownVerdict idx sub v)

/-! ### Checks of a write (R24, R25, R32, R36, R38) -/

/-- Another transport holds an access block (R32). -/
def Dev.blockHeld (d : Dev) (tr : Transport) (t : Tbl) : Bool :=
  let o := (d.block t).owner
  o ≠ 0 && o ≠ tr.code

/-- A device-state conflict (R36). -/
def Dev.stateConflict (d : Dev) (tr : Transport) (r : OdRow) (idx sub v : Nat) : Bool :=
  (r.acc = .rwc && !(d.pw.st == .config))
    || (r.keep = .M && !d.leads)
    || (idx = 0x2000 && sub = 2 && d.get 0x2000 0x03 = 1)
    || (match Tbl.ofIndex idx with
        | some t => d.blockHeld tr t || (sub = 2 && ((d.block t).status = 1 || (tblAtOnce t && 2 ≤ v && v ≤ 3 && !(d.pw.st == .config))))
        | none => false)

/-- Checks of a write, in order: the cause, and whether the value is reserved. `size` is the length of the data where the
transport gives one. -/
def Dev.writeCheck (d : Dev) (tr : Transport) (idx sub : Nat) (size : Option Nat) (v : Nat) : Option (Abort × Bool) :=
  match d.absent tr true idx sub with
  | some a => some (a, false)
  | none =>
    match dictFind idx sub with
    | none => none
    | some r =>
      if r.acc = .ro ∨ r.acc = .const then some (.readOnly, false)
      else if r.ty = .domain then some (.unsupported, false)
      else if size.isSome ∧ size ≠ some r.ty.size then some (.length, false)
      else if d.stateConflict tr r idx sub v then some (.state, false)
      else match d.verdict tr idx sub (keptMask idx sub v) with
        | .ok => none
        | .range => some (.value, false)
        | .reserved => some (.value, true)

/-- The alert of a rejected write (R7, R29, R43): `addr` is its byte address within the window. -/
def Dev.rejectAlert (d : Dev) (tr : Transport) (idx sub addr : Nat) (reserved : Bool) : Dev :=
  if reserved then d.raise 0xA7F1 1 (idx * 256 + sub)
  else if tr = .hlb ∨ tr = .pcie then d.raise 0xA7F2 1 addr
  else d

/-- Byte address of a slot within the window (R26). -/
def slotAddress (idx sub : Nat) : Nat := idx % 2 ^ 14 * 2 ^ 11 + sub * 8

/-! ### DOMAIN contents (R30, R379, R383, R400, R414, R415) -/

/-- Length of the export (R415). -/
def exportLength : Nat := 155712

/-- A stored DOMAIN. -/
def Dev.storedDomain (d : Dev) (idx sub : Nat) : List Byte := SMap.get (fun _ => ([] : List Byte)) d.domains (odKey idx sub)

/-- What a DOMAIN entry holds, but for the export. -/
def Dev.domainBytes (d : Dev) (idx sub : Nat) : List Byte :=
  if idx = 0x2800 ∧ sub = 4 then be 64 (Config.importKey d.lifeCode).toNat
  else if idx = 0x2830 ∧ sub = 5 then (if d.get 0x2830 0x04 = 2 then d.vault.response else [])
  else if idx = 0x2910 ∧ sub = 2 then
    (((d.ledger.records.find? (fun r => r.1 = d.get 0x2910 0x01)).map Prod.snd).getD [])
  else if idx = 0x2910 ∧ sub = 4 then d.ledger.head
  else if idx = 0x2A02 ∧ sub = 2 then (d.log.histCopy.map (le 4)).flatten
  else if idx = 0x2A03 ∧ sub = 2 then ((d.jEntry (d.get 0x2A03 0x01)).map JEntry.bytes).getD []
  else if idx = 0x2A04 ∧ sub = 1 then d.log.gaspRead
  else d.storedDomain idx sub

/-- Length of a DOMAIN. -/
def Dev.domainLength (d : Dev) (idx sub : Nat) : Nat :=
  if idx = 0x2A10 then exportLength else (d.domainBytes idx sub).length

/-- A DOMAIN as a transport reads it at an offset: the export is copied at offset 0 and read from the copy (R415). -/
def Dev.domainRead (d : Dev) (tr : Transport) (idx sub off len : Nat) : Dev × List Byte :=
  if idx = 0x2A10 ∧ sub = 1 then
    let p := d.dom.get tr
    let d := if off = 0 then { d with dom := d.dom.set tr { p with copy := d.exportBytes } } else d
    (d, (((d.dom.get tr).copy).drop off).take len)
  else (d, ((d.domainBytes idx sub).drop off).take len)

/-- The longest content that a DOMAIN takes (R23, R48, R246, R372, R379). -/
def domainLimit (idx : Nat) : Nat :=
  if idx = 0x2011 then 0x800000 else if idx = 0x3200 ∨ idx = 0x3201 ∨ idx = 0x2810 ∨ idx = 0x2812 then 256 else 0x1000000

/-- The rack copy that a commit would name is in use, or a copy is being written (R48). -/
def Dev.rackBusy (d : Dev) : Bool :=
  d.programming.isSome
    || (bits (d.get 0x2000 0x0C) 2 1 ≠ 0 && bit (d.get 0x2000 0x0C) 0 == decide (d.get 0x2011 0x02 = 1))

/-- Why a commit of a length to a DOMAIN is rejected, as a domain-port status; 2 when it is not (R30, R48, R379). The checks
come in the order of R36: right, length, device state. -/
def Dev.commitCheck (d : Dev) (idx sub len : Nat) : Nat :=
  match dictFind idx sub with
  | none => 3
  | some r =>
    if r.ty ≠ .domain then 3
    else if r.acc = .ro ∨ r.acc = .const then 4
    else if domainLimit idx < len then 5
    else if idx = 0x2011 ∧ d.rackBusy then 4
    else if idx = 0x2810 ∧ d.pw.st ≠ .config ∧ d.pw.st ≠ .service then 4
    else 2

/-- A DOMAIN takes a new content at its commit, which is one access (R33, R39, R48, R372, R379, R383). -/
def Dev.domainCommit (d : Dev) (idx sub : Nat) (bs : List Byte) : Dev :=
  if idx = 0x2830 then d.challengeWrite bs
  else
    let d := d.setDomain idx sub bs
    if idx = 0x2011 then
      let b := d.get 0x2011 0x02 = 1
      let d : Dev := { d with programming := some ⟨b, bs⟩, flashA := if b then d.flashA else [], flashB := if b then [] else d.flashB }
      d.put 0x2011 0x03 1
    else if idx = 0x2810 then d.importStart bs
    else if idx = 0x2812 then d.transitionStart bs
    else match dictFind idx sub with
      | some r => if r.keep = .P then d.cfgContinue (be 2 idx ++ be 1 sub ++ be 8 bs.length) (idx * 256 + sub) else d
      | none => d

/-- RACK_PROGRAM_COMPLETE: the copy is written and checked, or the flash fails (R45, R48). -/
def Dev.rackWritten (d : Dev) (ok : Bool) : Dev :=
  match d.programming with
  | none => d
  | some p =>
    let d : Dev := { d with programming := none }
    if !ok then d.put 0x2011 0x03 3
    else
      let d : Dev := if p.copyB then { d with flashB := p.bytes } else { d with flashA := p.bytes }
      let r := rackReason ((Life.ofCode d.lifeCode).getD .blank) d.vault.verify p.bytes
      d.put 0x2011 0x03 (if r = 0 then 2 else 16 + r)

/-! ### The domain port (R30, R36) -/

/-- Replace a transport's domain port. -/
def Dev.setPortal (d : Dev) (tr : Transport) (p : DomainPort) : Dev := { d with dom := d.dom.set tr p }

/-- DOMAIN_TARGET_WRITE. -/
def Dev.domTarget (d : Dev) (tr : Transport) (v : Nat) : Dev :=
  d.setPortal tr { target := v, last := d.now, copy := (d.dom.get tr).copy }

/-- DOMAIN_DATA_WRITE: four bytes, low byte first. -/
def Dev.domDataWrite (d : Dev) (tr : Transport) (v : Nat) : Dev :=
  let p := d.dom.get tr
  d.setPortal tr { p with written := (p.offset, le 4 v) :: p.written, len := max p.len (p.offset + 4)
                          offset := (p.offset + 4) % 2 ^ 32, status := 1, last := d.now }

/-- The target of a domain port. -/
def DomainPort.idx (p : DomainPort) : Nat := bits p.target 23 8
def DomainPort.sub (p : DomainPort) : Nat := bits p.target 7 0

/-- The target is a DOMAIN. -/
def isDomain (idx sub : Nat) : Bool := match dictFind idx sub with | some r => r.ty = .domain | none => false

/-- DOMAIN_DATA_READ: four bytes at Offset, 0 past the length. -/
def Dev.domDataRead (d : Dev) (tr : Transport) : Dev × Nat :=
  let p := d.dom.get tr
  let (d, bs) := if isDomain p.idx p.sub then d.domainRead tr p.idx p.sub p.offset 4 else (d, [])
  (d.setPortal tr { d.dom.get tr with offset := (p.offset + 4) % 2 ^ 32, last := d.now }, ofLe bs)

/-- The bytes that writes at offsets spell, a later write over an earlier one; bytes never written are 0. -/
def writtenBytes (ws : List (Nat × List Byte)) (len : Nat) : List Byte :=
  ws.foldr (fun w bs => patch bs w.1 w.2) (List.replicate len 0)

/-- DOMAIN_COMMIT. -/
def Dev.domCommit (d : Dev) (tr : Transport) : Dev :=
  let p := d.dom.get tr
  let s := d.commitCheck p.idx p.sub p.len
  let d := if s = 2 then d.domainCommit p.idx p.sub (writtenBytes p.written p.len) else d
  d.setPortal tr { p with written := [], len := 0, status := s, last := d.now, copy := (d.dom.get tr).copy }

/-- DOMAIN_DISCARD, and the end of a transfer that timed out. -/
def Dev.domDiscard (d : Dev) (tr : Transport) : Dev :=
  d.setPortal tr { d.dom.get tr with written := [], len := 0, status := 0 }

/-- An open transfer has been idle for 1,000 ms; an access in the clock of the deadline is taken first (R35). -/
def Dev.domIdle (d : Dev) (tr : Transport) : Bool :=
  let p := d.dom.get tr
  p.status = 1 && decide (p.last + 1000 * msCycles < d.now)

/-- DOMAIN_PORT_TIMEOUT. -/
def Dev.domTimeout (d : Dev) (tr : Transport) : Dev := if d.domIdle tr then d.domDiscard tr else d

/-! ### Reads (R24 to R28, R31, R69, R106, R156, R179, R279) -/

/-- Reads of an access block (R31, R32). -/
def Dev.blockRead (d : Dev) (tr : Transport) (t : Tbl) (sub : Nat) : Nat :=
  let b := d.block t
  if sub = 1 then b.row
  else if sub = 3 then (if d.blockHeld tr t then 6 else b.status)
  else if sub = 4 then b.owner
  else if 0x10 ≤ sub then (if sub - 0x10 < tblLen t then word b.window (sub - 0x10) else 0)
  else 0x1F

/-- Link status of the rope port and of the backbone ports (R233, R247, R422). -/
def Dev.linkStatus (d : Dev) (p : Nat) : Nat :=
  let depth := bits d.loops.ports (3 * p + 2) (3 * p)
  let looped := 1 ≤ depth && depth ≤ 3
  let x := d.port p
  let up := if p < 4 then x.linkUp else d.team.ropeLink
  let speed := if p = 4 then 3 else if d.portMode p = 3 then 1 else 2
  if up || looped then speed * 64 + (if up then x.link else d.linkBits p 0) + 1 else x.link

/-- Entries of the unit, of clocks and of the pitch engine that are computed on reading. -/
def Dev.unitValue (d : Dev) (idx sub : Nat) : Option Nat :=
  let p := d.pitch
  if idx = 0x1001 then some (errorBits d.alerts)
  else if idx = 0x1018 then
    if sub = 3 then some (0x00B0 * 2 ^ 16 + Config.romRevision)
    else if sub = 4 then some (Config.serial.toNat % 2 ^ 32) else none
  else if idx = 0x2000 then
    if sub = 1 then some d.pw.st.code else if sub = 5 then some d.node else none
  else if idx = 0x2001 then (if sub = 5 then some d.pw.pwrPins else none)
  else if idx = 0x2005 then
    if sub = 1 then some d.clk.pll else if sub = 2 then some d.clk.kaSrc
    else if sub = 4 then some (b2n d.clk.rtcMark) else if sub = 5 then some d.clk.inReset else none
  else if idx = 0x2110 then
    if sub = 1 then some d.stamp else if sub = 2 then some p.src else if sub = 3 then some p.quality
    else if sub = 4 then some p.period else if sub = 5 then some (ofI32 (satI32 p.lastErr)) else if sub = 6 then some p.holdover
    else if sub = 7 then some (match p.st with | .boot => 0 | .free => 1 | .locked => 2 | .holdover => 3 | .slip => 4)
    else if sub = 8 then some (if p.src = 2 then p.qDir else 0)
    else if sub = 9 then some (ofI32 (satI32 p.offset)) else none
  else none

/-- Entries of the sentence engine, of admission and of the team that are computed on reading. -/
def Dev.engineValue (d : Dev) (idx sub : Nat) : Option Nat :=
  if idx = 0x2220 then
    if sub = 1 then some d.tagsInUse else if sub = 2 then some (max (d.get 0x2220 0x02) d.tagsInUse)
    else if sub = 3 then some d.sharedFree else none
  else if idx = 0x2233 then (if sub = 2 then some d.groups.length else none)
  else if idx = 0x2308 then (if sub = 2 then some d.learn.length else none)
  else if idx = 0x2512 then
    let k := d.get 0x2512 0x01
    if sub = 2 then some (SMap.get (fun _ => 0) d.budgets k) else if sub = 3 then some (SMap.get (fun _ => 0) d.highs k) else none
  else if idx = 0x2600 then
    if sub = 1 then some d.team.role.code else if sub = 2 then some d.teamStatus else none
  else if 0x3200 ≤ idx ∧ idx ≤ 0x3203 then
    let x := d.port (idx - 0x3200)
    if sub = 4 then some (d.linkStatus (idx - 0x3200)) else if sub = 0x0A then some x.stamps.length
    else if sub = 0x0C then some x.popped.1 else if sub = 0x0D then some x.popped.2.1
    else if sub = 0x0E then some x.popped.2.2 else none
  else if idx = 0x3210 then (if sub = 4 then some (d.linkStatus 4) else none)
  else if 0x3000 ≤ idx ∧ idx ≤ 0x30BF then
    let n := idx - 0x3000
    if sub = 8 then some (d.serCh n).txDiv else if sub = 9 then some (d.lineStatus n)
    else if sub = 0x12 then some (d.serCh n).rx.length else if sub = 0x14 then some (d.serCh n).tx.length else none
  else if idx / 16 = 0x310 then (if sub = 6 then some (d.canStatus (idx - 0x3100)) else none)
  else if idx / 16 = 0x2C1 then (if sub = 3 then some (d.canCh (idx - 0x2C10)).sleep.code else none)
  else none

/-- Entries of the bridge, the vault, the ledger and the logbook that are computed on reading. -/
def Dev.hostValue (d : Dev) (idx sub : Nat) : Option Nat :=
  if 0x2701 ≤ idx ∧ idx ≤ 0x2708 then (if sub = 7 then some (d.heldAddress (idx - 0x2701)) else none)
  else if idx = 0x2730 then (if sub = 1 then some d.bridge.log.length else none)
  else if idx = 0x2800 then
    if sub = 2 then some d.vault.st else if sub = 3 then some Config.serial.toNat
    else if sub = 6 then some d.vault.cause else none
  else if idx = 0x2801 then (if 1 ≤ sub then some (d.slot (sub - 1)).report else none)
  else if idx = 0x2820 then
    if sub = 4 then some d.vault.latch else if sub = 5 then some d.vault.stamp else none
  else if idx = 0x2911 then
    let x := d.ledger.string (d.get 0x2911 0x01)
    if sub = 2 then some x.chg else if sub = 3 then some x.dis else none
  else if idx = 0x2A00 then (if sub = 5 then some d.log.next else none)
  else if idx = 0x2A01 then
    let n := d.get 0x2A01 0x01
    if sub = 2 then some (d.counterValue n)
    else if sub = 3 then some ((counterEntry n).1 * 256 + (counterEntry n).2) else none
  else none

/-- The value of an entry whose reading changes nothing. -/
def Dev.value (d : Dev) (tr : Transport) (idx sub : Nat) : Nat :=
  match Tbl.ofIndex idx with
  | some t => d.blockRead tr t sub
  | none =>
    match d.unitValue idx sub, d.engineValue idx sub, d.hostValue idx sub with
    | some v, _, _ => v
    | none, some v, _ => v
    | none, none, some v => v
    | none, none, none =>
      if isDomain idx sub then d.domainLength idx sub
      else if idx = 0x2010 then
        let p := d.dom.get tr
        if sub = 1 then p.target else if sub = 2 then p.offset else if sub = 5 then p.status else d.get idx sub
      else d.get idx sub

/-- LAST_DISCARD_READ: the record and its stamp are taken for the initiator (R69). -/
def Dev.discardRead (d : Dev) (tr : Transport) : Dev × Nat :=
  ({ d with words := d.words.set tr { d.words.get tr with discard := some (d.get 0x2231 0x02) } }, d.get 0x2231 0x01)

/-- The holder's access restarts the release timer of its block (R32). -/
def Dev.touch (d : Dev) (tr : Transport) (idx : Nat) : Dev :=
  match Tbl.ofIndex idx with
  | some t => if (d.block t).owner = tr.code then d.setBlock t { d.block t with last := d.now } else d
  | none => d

/-- A read of a present, readable entry. -/
def Dev.readEntry (d : Dev) (tr : Transport) (idx sub : Nat) : Dev × Nat :=
  let d := d.touch tr idx
  if idx = 0x2231 ∧ sub = 1 then d.discardRead tr
  else if idx = 0x2231 ∧ sub = 2 then (d, ((d.words.get tr).discard).getD (d.get 0x2231 0x02))
  else if idx = 0x2010 ∧ sub = 3 then d.domDataRead tr
  else if 0x3000 ≤ idx ∧ idx ≤ 0x30BF ∧ sub = 0x10 then d.rxStatusRead tr (idx - 0x3000)
  else if 0x3000 ≤ idx ∧ idx ≤ 0x30BF ∧ sub = 0x11 then d.rxDataRead tr (idx - 0x3000)
  else (d, d.value tr idx sub)

/-- A read with its checks (R24, R36). -/
def Dev.readAccess (d : Dev) (tr : Transport) (idx sub : Nat) : Dev × Except Abort Nat :=
  match d.readCheck tr idx sub with
  | some a => (d.touch tr idx, .error a)
  | none => let (d, v) := d.readEntry tr idx sub; (d, .ok v)

/-! ### Effects of a write -/

/-- Writes to an access block (R31, R32). -/
def Dev.blockWrite (d : Dev) (tr : Transport) (t : Tbl) (sub v : Nat) : Dev :=
  let b := d.block t
  if sub = 1 then d.setBlock t { b with row := v, last := d.now }
  else if sub = 2 then
    let d := if v = 1 then d.tableRead tr t else d.tableStage t (v = 3)
    d.touch tr t.index
  else if sub = 4 then d.setBlock t { b with owner := v, last := d.now }
  else if sub - 0x10 < tblLen t then d.setBlock t { b with window := b.window.set (sub - 0x10) (BitVec.ofNat 32 v), last := d.now }
  else d.touch tr t.index

/-- LEARN_SELECT: the record is copied into the read entries (R106). -/
def Dev.learnSelect (d : Dev) (n : Nat) : Dev :=
  let l := d.learn.getD n {}
  let d := (d.put 0x2308 0x03 n).put 0x2308 0x04 l.key
  (((d.put 0x2308 0x05 l.name).put 0x2308 0x06 l.first).put 0x2308 0x07 l.last).put 0x2308 0x08 l.count

/-- LEARN_CLEAR: every record is freed. -/
def Dev.learnClear (d : Dev) : Dev := { d with learn := [] }

/-- Clear the bits of a sticky entry that are written as 1 (R6), but for those whose condition occurs at this instant (R244,
R291, R305, R331). -/
def Dev.unstick (d : Dev) (idx sub v : Nat) : Dev :=
  let old := d.get idx sub
  d.put idx sub (old - (old &&& v) ||| d.setNow idx sub)

/-- State requests (R37): reboot runs the boot that follows. -/
def Dev.stateRequest (d : Dev) (o : Otp) (v : Nat) (x : Outside) : Dev :=
  if v = 2 then d.enterConfig else if v = 3 then d.leaveConfig else d.rebootRequest o x.boot

/-- A CAN controller's mode is written: a controller set to OFF stops, and one started integrates anew (R295, R307). -/
def Dev.canModeSet (d : Dev) (n v : Nat) : Dev :=
  let d := d.put (0x3100 + n) 0x01 v
  if v = 0 then d.canStop n else d

/-- Writes of the unit, power, mode and pitch entries that do more than store; none where the entry only stores. -/
def Dev.unitWrite (d : Dev) (o : Otp) (tr : Transport) (idx sub v : Nat) (x : Outside) : Option Dev :=
  if idx = 0x2000 ∧ sub = 2 then some (d.stateRequest o v x)
  else if idx = 0x2001 ∧ sub = 1 then some (d.powerRequest v false)
  else if idx = 0x2010 then
    if sub = 1 then some (d.domTarget tr v)
    else if sub = 2 then some (d.setPortal tr { d.dom.get tr with offset := v, last := d.now })
    else if sub = 3 then some (d.domDataWrite tr v)
    else if v = 1 then some (d.domCommit tr) else some (d.domDiscard tr)
  else if idx = 0x2020 ∧ sub = 4 then some (d.modeRequest v)
  else if idx = 0x2101 ∧ sub = 1 then some (d.outMode v)
  else if idx = 0x2220 ∧ sub = 2 then some (d.put idx sub d.tagsInUse)
  else if idx = 0x2301 ∧ sub = 2 then some (d.commitTarget v)
  else if idx = 0x2301 ∧ sub = 4 then some d.stagedDiscard
  else if idx = 0x2308 ∧ sub = 3 then some (d.learnSelect v)
  else if idx = 0x2308 ∧ sub = 9 then some d.learnClear
  else if idx = 0x2512 ∧ sub = 3 then some { d with highs := SMap.set (fun _ => 0) d.highs (d.get 0x2512 0x01) 0 }
  else none

/-- Writes of port, channel and output entries that do more than store. -/
def Dev.lineWrite (d : Dev) (idx sub v : Nat) (x : Outside) : Option Dev :=
  if (0x3200 ≤ idx ∧ idx ≤ 0x3203 ∨ idx = 0x3210) ∧ sub = 5 then some (d.unstick idx sub v)
  else if 0x3200 ≤ idx ∧ idx ≤ 0x3203 ∧ sub = 1 then some (d.portModeSet (idx - 0x3200) v)
  else if idx = 0x3210 ∧ sub = 1 then some (if v = 0 then (d.put idx sub v).ropeLost true else d.put idx sub v)
  else if 0x3200 ≤ idx ∧ idx ≤ 0x3203 ∧ sub = 0x0B then some (d.stampPop (idx - 0x3200))
  else if 0x3000 ≤ idx ∧ idx ≤ 0x30BF then
    let n := idx - 0x3000
    if sub = 1 then some (d.serModeSet n v)
    else if sub = 2 then some (d.baudSet n v x.rxBusy)
    else if sub = 0x0A then some (((d.unstick idx sub v).ctsFrom n x.cts).serNext n)
    else if sub = 0x13 then some (d.txWrite n v x.cts)
    else none
  else if idx / 16 = 0x310 then
    let n := idx - 0x3100
    if sub = 1 then some (d.canModeSet n v)
    else if sub = 7 then some (d.unstick idx sub v)
    else if sub = 8 then some (d.recoveryRequest n)
    else none
  else if idx / 16 = 0x330 ∧ sub = 1 then some (d.discreteWrite (idx - 0x3300) v)
  else if idx / 16 = 0x2C1 then
    let n := idx - 0x2C10
    if sub = 1 then some (d.armSet n v) else if sub = 2 then some (d.wakeCan n) else none
  else none

/-- Writes of bridge, vault and logbook entries that do more than store. -/
def Dev.hostWrite (d : Dev) (idx sub v : Nat) (x : Outside) : Option Dev :=
  if idx = 0x2720 ∧ sub = 1 then some (d.unstick idx sub v)
  else if idx = 0x2730 ∧ sub = 2 then some d.logPop
  else if idx = 0x2800 ∧ (sub = 5 ∨ sub = 8) then some (d.put idx sub v).ropeKeyCheck
  else if idx = 0x2811 then some (d.slotErase v)
  else if idx = 0x2820 ∧ sub = 4 then some (d.latchClear v x.alarming)
  else if idx = 0x2830 ∧ sub = 3 then some d.challengeStart
  else if idx = 0x2A00 ∧ sub = 2 then some d.snapTrigger
  else if idx = 0x2A02 ∧ sub = 1 then some (d.histSelect v)
  else none

/-- The effect of an accepted write on its entry. -/
def Dev.writeEffect (d : Dev) (o : Otp) (tr : Transport) (idx sub v : Nat) (x : Outside) : Dev :=
  match Tbl.ofIndex idx with
  | some t => d.blockWrite tr t sub v
  | none =>
    match d.unitWrite o tr idx sub v x, d.lineWrite idx sub v x, d.hostWrite idx sub v x with
    | some d, _, _ => d
    | none, some d, _ => d
    | none, none, some d => d
    | none, none, none => d.put idx sub v

/-- The configuration digest takes in a write to a P entry (R39). -/
def Dev.pWritten (d : Dev) (idx sub v : Nat) : Dev := d.cfgContinue (be 2 idx ++ be 1 sub ++ be 8 v) (idx * 256 + sub)

/-- A write to an M entry of a team sends a delta, even where it changes nothing (R209). -/
def Dev.mWritten (d : Dev) : Dev :=
  if d.mirrors then { d with mirror := { d.mirror with force := 0 :: d.mirror.force } } else d

/-- An accepted write: its effect, the configuration digest of a P entry (R39), the pause ceilings that the pitch and the
ports give (R177), and the delta that an M entry of a team sends (R209). -/
def Dev.writeEntry (d : Dev) (o : Otp) (tr : Transport) (r : OdRow) (idx sub v : Nat) (x : Outside) : Dev :=
  let v := keptMask idx sub v
  let d := d.writeEffect o tr idx sub v x
  let d := if r.keep = .P then d.pWritten idx sub v else d
  let d := if idx = 0x2100 then d.pitchConfigured else d
  let d := if idx = 0x2502 ∨ idx = 0x2100 ∨ (0x3200 ≤ idx ∧ idx ≤ 0x3203 ∧ sub = 1) then d.ceilingAlert else d
  if r.keep = .M then d.mWritten else d

/-- The outcome of a write: why it was rejected, and the delta whose acknowledgement completes it. -/
structure Written where
  dev : Dev
  abort : Option Abort
  waits : Option Nat

/-- A write with its checks (R24, R29, R36, R209). -/
def Dev.writeAccess (d : Dev) (o : Otp) (tr : Transport) (idx sub addr : Nat) (size : Option Nat) (v : Nat) (x : Outside) : Written :=
  match d.writeCheck tr idx sub size v with
  | some (a, reserved) => ⟨(d.touch tr idx).rejectAlert tr idx sub addr reserved, some a, none⟩
  | none =>
    match dictFind idx sub with
    | some r =>
      let d := d.writeEntry o tr r idx sub v x
      ⟨d, none, if r.keep = .M ∧ d.mirrors then some d.mirror.deltaSeq else none⟩
    | none => ⟨d, none, none⟩

/-- A transport reaches the dictionary: the block is up, and a host port's own domain is out of reset (R367). Once
every output is released the PCIe endpoint completes every request with Unsupported Request, and CAN and the backbone ports
are silent (R185, R352). -/
def Dev.reaches (d : Dev) (tr : Transport) : Bool :=
  d.on && match tr with
    | .hlb => !bit d.clk.inReset 1
    | .pcie => !bit d.clk.inReset 0 && !d.released
    | .sdo | .od => !d.released

/-! ### What every access of an initiator ends (R28) -/

/-- Replace a transport's torn-access protection. -/
def Dev.setWords (d : Dev) (tr : Transport) (w : WordPair) : Dev := { d with words := d.words.set tr w }

/-- An HLB access ends the snapshots of the remote windows (R28). -/
def Dev.windowSnapsEnd (d : Dev) (tr : Transport) : Dev :=
  if tr = .hlb then
    { d with bridge := { d.bridge with windows := d.bridge.windows.map (fun w => (w.1, { w.2 with snap := none })) } }
  else d

/-- Another access ends the snapshot of a low-word read. -/
def Dev.snapEnds (d : Dev) (tr : Transport) : Dev := d.setWords tr { d.words.get tr with snap := none }

/-- An access other than the high-word read that follows a low-word read ends the initiator's snapshots: of the dictionary and,
over HLB, of the remote windows (R28). -/
def Dev.accessBegins (d : Dev) (tr : Transport) : Dev := (d.windowSnapsEnd tr).snapEnds tr

/-- A write whose answer nobody awaits. -/
def Dev.writeOd (d : Dev) (o : Otp) (tr : Transport) (idx sub : Nat) (size : Option Nat) (v : Nat) (x : Outside) : Dev :=
  if d.reaches tr then ((d.accessBegins tr).writeAccess o tr idx sub (slotAddress idx sub) size v x).dev else d

/-- ACCESS_BLOCK_OWNER_TIMEOUT: 1 s with no access from the holder; one in the clock of the release is taken first (R32). -/
def Dev.ownerTimeout (d : Dev) (t : Tbl) : Dev :=
  let b := d.block t
  if b.owner ≠ 0 ∧ b.last + secCycles < d.now then d.setBlock t { b with owner := 0 } else d

/-! ### Words of the memory view (R26 to R29, R315 to R317, R324, R325) -/

/-- LOW_WORD_READ_SNAPSHOT: the whole value of a 64-bit slot is kept for the high-word read that follows (R28). -/
def Dev.lowRead (d : Dev) (tr : Transport) (idx sub : Nat) : Dev × Nat :=
  let (d, v) := d.readEntry tr idx sub
  (d.setWords tr { d.words.get tr with snap := some (idx, sub, v) }, bits v 31 0)

/-- A high-word read: the snapshot of the low-word read it follows, else the live word. -/
def Dev.highRead (d : Dev) (tr : Transport) (idx sub : Nat) : Dev × Nat :=
  let w := d.words.get tr
  let kept := match w.snap with | some (i, s, v) => if i = idx ∧ s = sub then some v else none | none => none
  let d := d.setWords tr { w with snap := none }
  match kept with
  | some v => (d.touch tr idx, bits v 63 32)
  | none => let (d, v) := d.readEntry tr idx sub; (d, bits v 63 32)

/-- A read of one word at an address within the window. -/
def Dev.wordRead (d : Dev) (tr : Transport) (addr : Nat) : Dev × Nat :=
  let idx := bits addr 24 11
  let sub := bits addr 10 3
  let d := d.windowSnapsEnd tr
  match dictFind idx sub with
  | none => (d.snapEnds tr, 0)
  | some r =>
    if r.acc = .wo then ((d.snapEnds tr).touch tr idx, 0)
    else if r.ty.wide then (if bit addr 2 then d.highRead tr idx sub else d.lowRead tr idx sub)
    else if bit addr 2 then ((d.snapEnds tr).touch tr idx, 0)
    else (d.snapEnds tr).readEntry tr idx sub

/-- The held low word of a slot, within 1 ms of its write (R28). -/
def Dev.lowHeld (d : Dev) (tr : Transport) (idx sub : Nat) : Option Nat :=
  match (d.words.get tr).held with
  | some (i, s, v, at_) => if i = idx ∧ s = sub ∧ d.now ≤ at_ + msCycles then some v else none
  | none => none

/-- HELD_LOW_WORD_DISCARD. -/
def Dev.lowLapse (d : Dev) (tr : Transport) : Dev :=
  match (d.words.get tr).held with
  | some (_, _, _, at_) => if at_ + msCycles < d.now then d.setWords tr { d.words.get tr with held := none } else d
  | none => d

/-- A write of one word, with its byte enables, at an address within the window. A value of 64 bits is written by its high
word together with the low word held; without a held low word nothing is written. -/
def Dev.wordWrite (d : Dev) (o : Otp) (tr : Transport) (addr v be : Nat) (x : Outside) : Written :=
  let idx := bits addr 24 11
  let sub := bits addr 10 3
  let d := d.accessBegins tr
  if be % 16 ≠ 15 then ⟨(d.touch tr idx).raise 0xA7F2 1 addr, none, none⟩
  else match dictFind idx sub with
    | none => ⟨d.raise 0xA7F2 1 addr, none, none⟩
    | some r =>
      if r.ty.wide then
        if bit addr 2 then
          match d.lowHeld tr idx sub with
          | some lo =>
            (d.setWords tr { d.words.get tr with held := none }).writeAccess o tr idx sub addr none (lo + 2 ^ 32 * (v % 2 ^ 32)) x
          | none => ⟨d.touch tr idx, none, none⟩
        else ⟨(d.setWords tr { d.words.get tr with held := some (idx, sub, v % 2 ^ 32, d.now) }).touch tr idx, none, none⟩
      else if bit addr 2 ∧ r.ty ≠ .domain then ⟨d.touch tr idx, none, none⟩
      else d.writeAccess o tr idx sub addr none (v % 2 ^ 32) x

/-- Whether one beat would be an accepted write to an M entry of a team: it completes on the standby's acknowledgement
(R209, R317). -/
def Dev.delays (d : Dev) (addr v be : Nat) : Bool :=
  let idx := bits addr 24 11
  let sub := bits addr 10 3
  d.mirrors && be % 16 = 15 && !bit addr 2
    && (match dictFind idx sub with | some r => r.keep = .M | none => false)
    && (d.writeCheck .hlb idx sub none (v % 2 ^ 32)).isNone

/-! ### HLB accesses (R315 to R317, R324) -/

/-- Addresses of the beats of a burst. -/
def beatAddrs (addr n : Nat) : List Nat := (List.range n).map (fun i => addr + 4 * i)

/-- One read beat outside the remote region. -/
def Dev.hlbReadBeat (d : Dev) (addr : Nat) : Dev × Nat :=
  if addr < 0x02000000 then d.wordRead .hlb addr
  else
    let d := d.accessBegins .hlb
    let n := (addr - 0x20000000) / 16
    if 0x20000000 ≤ addr ∧ n < 192 then
      if addr % 16 = 0 then d.rxStatusRead .hlb n
      else if addr % 16 = 4 then d.rxDataRead .hlb n
      else if addr % 16 = 12 then (d, (d.serCh n).tx.length * 256 + (d.serCh n).rx.length)
      else (d, 0)
    else (d, 0)

/-- One write beat outside the remote region. -/
def Dev.hlbWriteBeat (d : Dev) (o : Otp) (addr v be : Nat) (x : Outside) : Dev :=
  if addr < 0x02000000 then (d.wordWrite o .hlb addr v be x).dev
  else
    let d := d.accessBegins .hlb
    let n := (addr - 0x20000000) / 16
    if 0x20000000 ≤ addr ∧ n < 192 ∧ addr % 16 = 8 ∧ be % 16 = 15 then
      (d.writeAccess o .hlb (0x3000 + n) 0x13 (addr % 2 ^ 25) none (v % 2 ^ 32) x).dev
    else d.raise 0xA7F2 1 (addr % 2 ^ 25)

/-- The HLB drives its answer, unless HLB_AD, WAIT_N and RETRY_N are released (R185, R352). -/
def Dev.hlbOut (d : Dev) (o : Out) : Dev := if d.released then d else d.emit o

/-- Read beats in order. -/
def Dev.hlbReads (d : Dev) : List Nat → Dev
  | [] => d
  | a :: rest => let (d, v) := d.hlbReadBeat a; (d.hlbOut (.hlbData v)).hlbReads rest

/-- Write beats in order. -/
def Dev.hlbWrites (d : Dev) (o : Otp) (x : Outside) : List (Nat × Nat × Nat) → Dev
  | [] => d
  | (a, v, be) :: rest => (d.hlbWriteBeat o a v be x).hlbWrites o x rest

/-- A burst of writes that holds a delayed write: it is performed once, and answered with RETRY_N until it has taken effect
(R317). -/
def Dev.delayedWrite (d : Dev) (o : Otp) (addr : Nat) (beats : List (Nat × Nat)) (ws : List (Nat × Nat × Nat)) (x : Outside) : Dev :=
  let mine (s : BridgeSlot) : Bool := (s.st == .writing || s.st == .written) && s.addr = addr && s.data = beats
  match d.findSlot mine with
  | some k =>
    match d.bridge.slots[k]? with
    | some s => if s.st = .written then (d.setSlot4 k {}).hlbOut .hlbDone else d.hlbOut .hlbRetry
    | none => d
  | none =>
    match d.findSlot (fun s => s.st = .free) with
    | some k =>
      let seq := d.mirror.deltaSeq
      let s : BridgeSlot := { st := .writing, addr := addr, beats := beats.length, data := beats, since := d.now, delta := some seq }
      ((d.hlbWrites o x ws).setSlot4 k s).hlbOut .hlbRetry
    | none => d.hlbOut .hlbRetry

/-- HLB_LOCAL_ACCESS: each beat in the local region, or at the same address in a raw channel window, is one access. -/
def Dev.hlbLocal (d : Dev) (o : Otp) (addr : Nat) (b : Beats) (x : Outside) : Dev :=
  if !d.on ∨ isRemote addr ∨ bit d.clk.inReset 1 then d
  else
    let addr := addr / 4 * 4
    let at_ (n : Nat) : List Nat := if 0x20000000 ≤ addr then List.replicate n addr else beatAddrs addr n
    match b with
    | .read n => d.hlbReads (at_ n)
    | .write beats =>
      let ws := ((at_ beats.length).zip beats).map (fun w => (w.1, w.2.1, w.2.2))
      let held := d.bridge.slots.any (fun s => (s.st == .writing || s.st == .written) && s.addr = addr && s.data = beats)
      if held ∨ ws.any (fun w => decide (w.1 < 0x02000000) && d.delays w.1 w.2.1 w.2.2) then d.delayedWrite o addr beats ws x
      else (d.hlbWrites o x ws).hlbOut .hlbDone

/-- DELAYED_WRITE_COMPLETE: the standby has acknowledged, or no team is formed any more (R209, R317). -/
def Dev.delayedDone (d : Dev) (k : Nat) : Dev :=
  match d.bridge.slots[k]? with
  | some s =>
    let waits := match s.delta with | some n => d.mirror.deltas.any (fun x => x.seq = n) | none => false
    if s.st = .writing ∧ !(d.mirrors && waits) then d.setSlot4 k { s with st := .written, since := d.now } else d
  | none => d

/-- DELAYED_WRITE_SLOT_EXPIRY: a completed write not collected within 10 ms frees its slot; the write stands. -/
def Dev.delayedExpiry (d : Dev) (k : Nat) : Dev :=
  match d.bridge.slots[k]? with
  | some s => if s.st = .written ∧ s.since + 10 * msCycles < d.now then d.setSlot4 k {} else d
  | none => d

/-! ### PCIe BAR0 (R28, R29, R325) -/

/-- An eight-byte request: one whole slot. -/
def Dev.slotReadWhole (d : Dev) (addr : Nat) : Dev × Nat :=
  let idx := bits addr 24 11
  let sub := bits addr 10 3
  let d := d.snapEnds .pcie
  match dictFind idx sub with
  | none => (d, 0)
  | some r => if r.acc = .wo then (d.touch .pcie idx, 0) else d.readEntry .pcie idx sub

/-- An eight-byte write: both words at once. -/
def Dev.slotWriteWhole (d : Dev) (o : Otp) (addr v be : Nat) (x : Outside) : Dev :=
  let idx := bits addr 24 11
  let sub := bits addr 10 3
  let d := d.snapEnds .pcie
  if be % 256 ≠ 255 then (d.touch .pcie idx).raise 0xA7F2 1 addr
  else match dictFind idx sub with
    | none => d.raise 0xA7F2 1 addr
    | some r => (d.writeAccess o .pcie idx sub addr none (if r.ty.wide then v % 2 ^ 64 else v % 2 ^ 32) x).dev

/-- PCIE_BAR0_ACCESS: address within BAR0, bytes requested, and for a write its data and byte enables. In HOLD every request
completes with Unsupported Request (R185, R352). -/
def Dev.pcieAccess (d : Dev) (o : Otp) (addr bytes : Nat) (w : Option (Nat × Nat)) (x : Outside) : Dev :=
  if !d.on ∨ bit d.clk.inReset 0 then d
  else if d.released ∨ 0x02000000 ≤ addr ∨ !(bytes = 4 && addr % 4 = 0 || bytes = 8 && addr % 8 = 0) then
    (d.snapEnds .pcie).emit .pcieUnsupported
  else match w with
    | none =>
      let (d, v) := if bytes = 8 then d.slotReadWhole addr else d.wordRead .pcie addr
      d.emit (.pcieData v)
    | some (v, be) =>
      (if bytes = 8 then d.slotWriteWhole o addr v be x else (d.wordWrite o .pcie addr v be x).dev).emit .pcieDone

end Sys2Proof.Machine
end

