-- ==== Sys2Proof/Machine/Serve.lean ====
section
/-! DEFINITION. The SDO server and the OD-access server over the object dictionary (R30, R35, R36, R261, R262). -/

namespace Sys2Proof.Machine

/-! ### SDO (R35): frames of eight bytes as CiA 301 lays them out -/

/-- The server answers: the SDO channel is set, its controller runs and the unit's object dictionary is reachable. -/
def Dev.sdoServes (d : Dev) : Bool :=
  d.on && (match d.sdoChannel with | some n => d.canRuns n | none => false)

/-- A reply, in the format of its request. -/
def Dev.sdoFrame (d : Dev) (fd : Bool) (bytes : List Byte) : CanFrame :=
  { ident := 0x580 + d.sdoNode, ide := false, rtr := false, fdf := fd, brs := false, esi := false, data := padTo 8 bytes }

/-- Command byte, index, subindex and four data bytes. -/
def sdoBytes (cmd idx sub : Nat) (data : List Byte) : List Byte := be 1 cmd ++ le 2 idx ++ be 1 sub ++ padTo 4 data

/-- An abort frame. -/
def Dev.sdoAbort (d : Dev) (fd : Bool) (idx sub : Nat) (a : Abort) : Dev :=
  d.sdoQueue (d.sdoFrame fd (sdoBytes 0x80 idx sub (le 4 a.code)))

/-- An initiate upload: a value of at most four bytes is answered at once, a longer one and a DOMAIN by segments. -/
def Dev.sdoUpload (d : Dev) (fd : Bool) (idx sub : Nat) : Dev :=
  if !d.sdoServes then d
  else
    let d : Dev := { d with sdo := none }
    match d.readCheck .sdo idx sub with
    | some a => (d.touch .sdo idx).sdoAbort fd idx sub a
    | none =>
      match dictFind idx sub with
      | none => d
      | some r =>
        let open_ (d : Dev) (bs : List Byte) : Dev :=
          let d : Dev := { d with sdo := some { upload := true, idx := idx, sub := sub, fd := fd, data := bs, last := d.now } }
          d.sdoQueue (d.sdoFrame fd (sdoBytes 0x41 idx sub (le 4 bs.length)))
        if r.ty = .domain then
          let (d, bs) := (d.touch .sdo idx).domainRead .sdo idx sub 0 (d.domainLength idx sub)
          open_ d bs
        else
          let (d, v) := d.readEntry .sdo idx sub
          if r.ty.size ≤ 4 then
            d.sdoQueue (d.sdoFrame fd (sdoBytes (0x43 + 4 * (4 - r.ty.size)) idx sub (le r.ty.size v)))
          else open_ d (le 8 v)

/-- The answer to a download that was performed or rejected; a write to an M entry of a team is answered on the standby's
acknowledgement (R209). -/
def Dev.sdoWritten (w : Written) (fd : Bool) (idx sub : Nat) (ok : List Byte) : Dev :=
  match w.abort, w.waits with
  | some a, _ => w.dev.sdoAbort fd idx sub a
  | none, none => w.dev.sdoQueue (w.dev.sdoFrame fd ok)
  | none, some n =>
    { w.dev with mirror := { w.dev.mirror with mwrites := w.dev.mirror.mwrites ++ [(n, .sdo (w.dev.sdoFrame fd ok))] } }

/-- SDO_EXPEDITED_DOWNLOAD: `size` where the request indicates it. -/
def Dev.sdoDownload (d : Dev) (o : Otp) (fd : Bool) (idx sub : Nat) (size : Option Nat) (v : Nat) (x : Outside) : Dev :=
  if !d.sdoServes then d
  else
    let d : Dev := { d with sdo := none }
    Dev.sdoWritten (d.writeAccess o .sdo idx sub (slotAddress idx sub) size v x) fd idx sub (sdoBytes 0x60 idx sub [])

/-- Checks 1 to 5 of a segmented download as it opens. -/
def Dev.sdoOpenCheck (d : Dev) (idx sub : Nat) (size : Option Nat) : Option Abort :=
  match d.absent .sdo true idx sub with
  | some a => some a
  | none =>
    match dictFind idx sub with
    | none => none
    | some r =>
      if r.acc = .ro ∨ r.acc = .const then some .readOnly
      else match size with
        | some n => if r.ty = .domain then (if domainLimit idx < n then some .length else none)
          else if n ≠ r.ty.size then some .length else none
        | none => none

/-- SDO_SEGMENTED_DOWNLOAD_INITIATE. -/
def Dev.sdoOpen (d : Dev) (fd : Bool) (idx sub : Nat) (size : Option Nat) : Dev :=
  if !d.sdoServes then d
  else
    let d : Dev := { d with sdo := none }
    match d.sdoOpenCheck idx sub size with
    | some a => d.sdoAbort fd idx sub a
    | none =>
      let d : Dev := { d with sdo := some { upload := false, idx := idx, sub := sub, fd := fd, data := [], last := d.now } }
      d.sdoQueue (d.sdoFrame fd (sdoBytes 0x60 idx sub []))

/-- A segment request of a transport that is not enabled is unsupported (R34); the abort ends the transfer. -/
def Dev.sdoRefuse (d : Dev) (fd : Bool) : Dev :=
  let (idx, sub) := match d.sdo with | some t => (t.idx, t.sub) | none => (0, 0)
  ({ d with sdo := none } : Dev).sdoAbort fd idx sub .unsupported

/-- SDO_UPLOAD_SEGMENT: the next seven bytes; the toggle bit is that of the request. -/
def Dev.sdoUploadSegment (d : Dev) (fd toggle : Bool) : Dev :=
  if !d.sdoServes then d
  else if !d.enabled .sdo false then d.sdoRefuse fd
  else match d.sdo with
    | some t =>
      if !t.upload then d.sdoAbort fd t.idx t.sub .command
      else
        let seg := t.data.take 7
        let rest := t.data.drop 7
        let cmd := 16 * b2n toggle + 2 * (7 - seg.length) + b2n rest.isEmpty
        let d : Dev := { d with sdo := if rest.isEmpty then none else some { t with data := rest, last := d.now } }
        d.sdoQueue (d.sdoFrame fd (be 1 cmd ++ seg))
    | none => d.sdoAbort fd 0 0 .command

/-- The abort code of a rejected DOMAIN commit, by its domain-port status. -/
def commitAbort (idx sub status : Nat) : Abort :=
  if status = 3 then .unsupported
  else if status = 5 then .length
  else match dictFind idx sub with
    | some r => if r.acc = .ro ∨ r.acc = .const then .readOnly else .state
    | none => .noIndex

/-- Commit what a segmented download has brought: one access at its commit (R33). -/
def Dev.sdoCommit (d : Dev) (o : Otp) (fd : Bool) (idx sub : Nat) (bs : List Byte) (ok : List Byte) (x : Outside) : Dev :=
  if isDomain idx sub then
    let s := d.commitCheck idx sub bs.length
    if s = 2 then (let d := d.domainCommit idx sub bs; d.sdoQueue (d.sdoFrame fd ok)) else d.sdoAbort fd idx sub (commitAbort idx sub s)
  else Dev.sdoWritten (d.writeAccess o .sdo idx sub (slotAddress idx sub) (some bs.length) (ofLe bs) x) fd idx sub ok

/-- SDO_DOWNLOAD_SEGMENT: up to seven bytes. -/
def Dev.sdoSegment (d : Dev) (o : Otp) (fd toggle last : Bool) (data : List Byte) (x : Outside) : Dev :=
  if !d.sdoServes then d
  else if !d.enabled .sdo true then d.sdoRefuse fd
  else match d.sdo with
    | some t =>
      if t.upload then d.sdoAbort fd t.idx t.sub .command
      else
        let ok := be 1 (0x20 + 16 * b2n toggle)
        let bs := t.data ++ data.take 7
        if last then ({ d with sdo := none } : Dev).sdoCommit o fd t.idx t.sub bs ok x
        else
          let d : Dev := { d with sdo := some { t with data := bs, last := d.now } }
          d.sdoQueue (d.sdoFrame fd ok)
    | none => d.sdoAbort fd 0 0 .command

/-- SDO_BLOCK_TRANSFER_REQUEST: refused after the checks that come before it (R36). -/
def Dev.sdoBlock (d : Dev) (fd : Bool) (idx sub : Nat) : Dev :=
  if !d.sdoServes then d else d.sdoAbort fd idx sub ((d.absent .sdo false idx sub).getD .unsupported)

/-- SDO_UNKNOWN_COMMAND. -/
def Dev.sdoUnknown (d : Dev) (fd : Bool) (idx sub : Nat) : Dev :=
  if !d.sdoServes then d
  else d.sdoAbort fd idx sub (if d.enabled .sdo false then .command else .unsupported)

/-- SDO_SEGMENT_TIMEOUT: 1,000 ms without the next segment; one in the clock of the deadline is taken first (R35). -/
def Dev.sdoTimeout (d : Dev) : Dev :=
  match d.sdo with
  | some t =>
    if d.sdoServes ∧ t.last + 1000 * msCycles < d.now then
      (({ d with sdo := none } : Dev).domDiscard .sdo).sdoAbort t.fd t.idx t.sub .timeout
    else d
  | none => d

/-! ### OD-access datagrams (R261, R262) -/

/-- Request types (R261). -/
inductive OdOp where
  | read | write | domainRead | domainWrite | domainCommit | domainAbort
  | other (code : Nat)
  deriving DecidableEq, Repr

/-- The type byte. -/
def OdOp.code : OdOp → Nat
  | .read => 1 | .write => 2 | .domainRead => 3 | .domainWrite => 4 | .domainCommit => 5 | .domainAbort => 6 | .other c => c % 256

/-- The type of a byte. -/
def odTypeOf : Nat → OdOp
  | 1 => .read | 2 => .write | 3 => .domainRead | 4 => .domainWrite | 5 => .domainCommit | 6 => .domainAbort | c => .other c

/-- Reads need the right to read, the rest the right to write. -/
def OdOp.writes : OdOp → Bool
  | .read | .domainRead => false
  | .write | .domainWrite | .domainCommit | .domainAbort => true
  | .other _ => false

/-- A peer row covers an address (R262). -/
def peerCovers (row ip : Nat) : Bool :=
  let n := bits row 31 24
  row ≠ 0 && decide (bits row 63 32 / 2 ^ (32 - n) = ip / 2 ^ (32 - n))

/-- The peer row of a source address: the lowest that covers it. -/
def Dev.odPeerRow (d : Dev) (ip : Nat) : Option Nat :=
  (List.range 16).find? (fun i => peerCovers (d.get 0x1C02 (i + 1)) ip)

/-- The reply datagram of a request (R261). -/
def odReplyBody (r : OdRequest) (ty : OdOp) (status : Nat) (data : List Byte) : List Byte :=
  ascii "EUOD" ++ be 1 1 ++ be 1 (128 + ty.code % 128) ++ be 2 r.id ++ be 2 r.node ++ be 2 r.idx ++ be 1 r.sub ++ be 1 0
    ++ be 2 data.length ++ be 4 r.offset ++ be 4 status ++ data

/-- What a request answers: status and data, and the delta whose acknowledgement completes it. -/
structure OdAnswer where
  dev : Dev
  status : Nat
  data : List Byte := []
  waits : Option Nat := none

/-- An open domain transfer belongs to another peer (R261). -/
def Dev.odBusy (d : Dev) (peer : Nat) : Bool :=
  (d.dom.get .od).status = 1 && (match d.odOpen with | some p => p.1 ≠ peer | none => false)

/-- Checks that every domain request passes, in the order of R36; `len` is the length that a write would give the DOMAIN. -/
def Dev.odDomainCheck (d : Dev) (peer : Nat) (r : OdRequest) (write : Bool) (len : Nat) : Option Abort :=
  match d.absent .od write r.idx r.sub with
  | some a => some a
  | none =>
    let s := if write then d.commitCheck r.idx r.sub len else 2
    if !isDomain r.idx r.sub then some .unsupported
    else if s ≠ 2 ∧ commitAbort r.idx r.sub s ≠ .state then some (commitAbort r.idx r.sub s)
    else if d.odBusy peer ∨ s ≠ 2 then some .state
    else if r.offset % 4 ≠ 0 then some .value
    else none

/-- The transport's domain port is set to the target of a request. -/
def Dev.odTarget (d : Dev) (peer : Nat) (r : OdRequest) : Dev :=
  let t := r.idx % 65536 * 256 + r.sub % 256
  let d : Dev := { d with odOpen := some (peer, { r with data := [] }) }
  if (d.dom.get .od).target = t then d else d.domTarget .od t

/-- OD_ACCESS_READ. DESIGN CHOICE (log entry 19): a read of a DOMAIN entry is answered with the length abort. -/
def Dev.odRead (d : Dev) (r : OdRequest) : OdAnswer :=
  match d.readCheck .od r.idx r.sub with
  | some a => ⟨d, a.code, [], none⟩
  | none =>
    match dictFind r.idx r.sub with
    | none => ⟨d, 0, [], none⟩
    | some e =>
      if e.ty = .domain ∨ r.len ≠ e.ty.size then ⟨d, Abort.length.code, [], none⟩
      else let (d, v) := d.readEntry .od r.idx r.sub; ⟨d, 0, le e.ty.size v, none⟩

/-- OD_ACCESS_WRITE. -/
def Dev.odWrite (d : Dev) (o : Otp) (r : OdRequest) (x : Outside) : OdAnswer :=
  let w := d.writeAccess o .od r.idx r.sub (slotAddress r.idx r.sub) (some r.len) (ofLe (r.data.take r.len)) x
  ⟨w.dev, (w.abort.map Abort.code).getD 0, [], w.waits⟩

/-- OD_ACCESS_DOMAIN_READ. -/
def Dev.odDomainRead (d : Dev) (peer : Nat) (r : OdRequest) : OdAnswer :=
  match d.odDomainCheck peer r false 0 with
  | some a => ⟨d, a.code, [], none⟩
  | none =>
    let (d, bs) := d.domainRead .od r.idx r.sub r.offset (min 1024 r.len)
    ⟨d.setPortal .od { d.dom.get .od with last := d.now }, 0, bs, none⟩

/-- OD_ACCESS_DOMAIN_WRITE. -/
def Dev.odDomainWrite (d : Dev) (peer : Nat) (r : OdRequest) : OdAnswer :=
  let data := (r.data.take r.len).take 1024
  match d.odDomainCheck peer r true (r.offset + data.length) with
  | some a => ⟨d, a.code, [], none⟩
  | none =>
    let d := d.odTarget peer r
    let p := d.dom.get .od
    ⟨d.setPortal .od { p with written := (r.offset, data) :: p.written, len := max p.len (r.offset + data.length)
                              offset := r.offset + data.length, status := 1, last := d.now }, 0, [], none⟩

/-- OD_ACCESS_DOMAIN_COMMIT: of the open transfer of this peer and entry. -/
def Dev.odDomainCommit (d : Dev) (peer : Nat) (r : OdRequest) : OdAnswer :=
  match d.odDomainCheck peer r true (d.dom.get .od).len with
  | some a => ⟨d, a.code, [], none⟩
  | none =>
    let p := d.dom.get .od
    if p.status ≠ 1 ∨ p.target ≠ r.idx % 65536 * 256 + r.sub % 256 then ⟨d, Abort.state.code, [], none⟩
    else
      let d := d.domCommit .od
      let s := (d.dom.get .od).status
      ⟨d, if s = 2 then 0 else (commitAbort r.idx r.sub s).code, [], none⟩

/-- OD_ACCESS_DOMAIN_ABORT. -/
def Dev.odDomainAbort (d : Dev) (peer : Nat) (r : OdRequest) : OdAnswer :=
  match d.odDomainCheck peer r true 0 with
  | some a => ⟨d, a.code, [], none⟩
  | none => ⟨d.domDiscard .od, 0, [], none⟩

/-- A request of a peer that has the right. -/
def Dev.odExecute (d : Dev) (o : Otp) (peer : Nat) (ty : OdOp) (r : OdRequest) (x : Outside) : OdAnswer :=
  match ty with
  | .read => d.odRead r
  | .write => d.odWrite o r x
  | .domainRead => d.odDomainRead peer r
  | .domainWrite => d.odDomainWrite peer r
  | .domainCommit => d.odDomainCommit peer r
  | .domainAbort => d.odDomainAbort peer r
  | .other _ => ⟨d, Abort.command.code, [], none⟩

/-- Keep what a peer row's last request was, and send the answer, now or when its delta is acknowledged (R209, R262). -/
def Dev.odAnswer (a : OdAnswer) (peer : Nat) (ty : OdOp) (r : OdRequest) : Dev :=
  let body := odReplyBody r ty a.status a.data
  let keep (f : List Byte) : Dev :=
    { a.dev with kept := SMap.set (fun _ => ([] : List KeptReply)) a.dev.kept peer [{ id := r.id, port := r.srcPort, reply := f }] }
  match a.waits with
  | none => (keep body).odReply r body
  | some n =>
    let d := keep []
    { d with mirror := { d.mirror with mwrites := d.mirror.mwrites ++ [(n, .od peer { r with data := [] } body)] } }

/-- An OD-access request: source, repeat, right, execution and reply (R261, R262). -/
def Dev.odRequest (d : Dev) (o : Otp) (ty : OdOp) (r : OdRequest) (x : Outside) : Dev :=
  if !d.on ∨ !d.portRuns r.port ∨ !d.linkUp r.port ∨ r.node ≠ d.node then d
  else match d.odPeerRow r.srcIp with
    | none => (d.count 0x1C04 0x06).raise 0xA412 1 r.srcIp
    | some peer =>
      let row := d.get 0x1C02 (peer + 1)
      let kept := (SMap.get (fun _ => ([] : List KeptReply)) d.kept peer).find? (fun k => k.id = r.id ∧ k.port = r.srcPort)
      match kept with
      | some k =>
        if k.reply.isEmpty then d else (d.count 0x1C04 0x07).odReply r k.reply
      | none =>
        let allowed : Bool := match ty with
          | .other _ => bit row 0 || bit row 1
          | t => if t.writes then bit row 1 else bit row 0
        let on : Bool := match ty with
          | .other _ => d.enabled .od false || d.enabled .od true
          | t => d.enabled .od t.writes
        if allowed && on then Dev.odAnswer (d.odExecute o peer ty r x) peer ty r
        else Dev.odAnswer ⟨d, Abort.unsupported.code, [], none⟩ peer ty r

/-- OD_ACCESS_DOMAIN_TIMEOUT: the transfer is aborted with 0x0504_0000 (R261). DEDUCED (log entry 19): the abort goes out as a
reply to the transfer's last write request, as the abort of an SDO transfer goes out as a frame. -/
def Dev.odTimeout (d : Dev) : Dev :=
  if d.domIdle .od then
    let e : Dev := { d.domDiscard .od with odOpen := none }
    match d.odOpen with
    | some (_, r) => e.odReply r (odReplyBody r .domainWrite Abort.timeout.code [])
    | none => e
  else d

end Sys2Proof.Machine
end

