-- ==== Sys2Proof/Machine/Receive.lean ====
section
/-! DEFINITION. Reception on the backbone: the MAC checks, tags, IPv4 and UDP, receive bindings, the datagram formats, beacons,
the receiver window, whistles and links (R52, R53, R88 to R92, R152, R187, R233 to R238, R246, R252 to R261). -/

namespace Sys2Proof.Machine

/-! ### Frames -/

/-- CRC-32 of IEEE 802.3 over bytes, as a frame check sequence: reflected, start and final value all ones. -/
def fcsByte (c : Nat) (b : Byte) : Nat :=
  let step (c : Nat) : Nat := if c % 2 = 1 then (c / 2) ^^^ 0xEDB88320 else c / 2
  step (step (step (step (step (step (step (step (c ^^^ b.toNat))))))))

/-- The frame check sequence of a frame up to it. -/
def fcsOf (bs : List Byte) : Nat := bs.foldl fcsByte 0xFFFFFFFF ^^^ 0xFFFFFFFF

/-- A frame whose last four bytes are its FCS (R234, order 3). -/
def fcsFits (f : List Byte) : Bool := decide (4 ≤ f.length) && decide (leAt f (f.length - 4) 4 = fcsOf (f.take (f.length - 4)))

/-- A frame as a MAC completes it: padded to 60 bytes, with its FCS. -/
def withFcs (f : List Byte) : List Byte := let g := padTo 60 f; g ++ le 4 (fcsOf g)

/-- A frame in the receive path: port, bytes from the destination address through the FCS, stamp, tick and quality of its
SFD, and whether an ingest loop delivers it (R49, R423). -/
structure Arrival where
  port : Nat
  frame : List Byte
  stamp : Nat
  tick : Nat
  quality : Nat
  ingest : Bool := false
  deriving DecidableEq, Repr

/-- Source number of the port (R51). -/
def Arrival.src (a : Arrival) : Nat := 208 + a.port

/-- The frame, as given, goes to the host exception ring (R329). -/
def Dev.except (d : Dev) (a : Arrival) (cause : Nat) (frame : List Byte) : Dev :=
  d.exceptionFrame cause a.src a.stamp a.quality frame

/-! ### The receiver window (R17, R90, R257) -/

/-- How the window judges a record. -/
inductive Judged where
  | newer
  | duplicate
  | stale
  deriving DecidableEq, Repr

/-- `a` is newer than `b` modulo 2^32 (R17). -/
def newer32 (a b : Nat) : Bool :=
  let x := (a + 2 ^ 32 - b % 2 ^ 32) % 2 ^ 32
  decide (1 ≤ x) && decide (x ≤ 2 ^ 31 - 1)

/-- The KIND 3 row of a global stream ID. -/
def Dev.twinRow (d : Dev) (gsid : Nat) : Option Nat := (d.lookup (3 * 2 ^ 61 + gsid)).map Prod.fst

/-- Judge a record of a generation and a sequence; without a row it passes (R257). -/
def Dev.judge (d : Dev) (gsid gen seq : Nat) : Judged :=
  match (d.twinRow gsid).bind (fun s => d.twins.find? (fun w => w.stream = s)) with
  | none => .newer
  | some w =>
    if gen = w.gen then (if newer32 seq w.seq then .newer else .duplicate)
    else if newer32 gen w.gen then .newer else .stale

/-- Count a duplicate (R90, R257). -/
def Dev.duplicate (d : Dev) (j : Judged) : Dev :=
  let d := d.count 0x2234 0x03
  if j = .stale then d.count 0x1C04 0x03 else d

/-- The window becomes (G, s) (R257). -/
def Dev.advance (d : Dev) (gsid gen seq : Nat) : Dev :=
  match d.twinRow gsid with
  | none => d
  | some s =>
    let w : TwinWindow := { stream := s, gen := gen, seq := seq, last := d.now }
    { d with twins := d.twins.filter (fun x => x.stream ≠ s) ++ [w] }

/-! ### Formats (R89 to R92, R254 to R260) -/

/-- A datagram's lines, each through its LF, and the bytes after the final LF. -/
def cutLines : List Byte → List Byte → List (List Byte) × List Byte
  | cur, [] => ([], cur.reverse)
  | cur, b :: bs =>
    if b = 0x0A then let (ls, r) := cutLines [] bs; ((b :: cur).reverse :: ls, r) else cutLines (b :: cur) bs

/-- One line, parsed from a fresh HUNT state (R89). -/
def Dev.parseLine (d : Dev) (a : Arrival) (line : List Byte) : Dev :=
  d.parseEvents a.src d.now (parseBytes (d.options a.src) a.stamp a.quality {} line).2

/-- A standard datagram (R89). -/
def Dev.standardDatagram (d : Dev) (a : Arrival) (pl : List Byte) : Dev :=
  let d := d.count 0x2234 0x01
  let d := if pl.take 6 = ascii "UdPbC" ++ [0] then d else d.malformedItem 1 a.src a.stamp
  let (lines, rest) := cutLines [] (pl.drop 6)
  let d := lines.foldl (fun (d : Dev) l => d.parseLine a l) d
  if rest.isEmpty then d else d.malformedItem 1 a.src a.stamp

/-- A datagram has its format's tag and version 1 (R252). -/
def formatTag (tag : String) (pl : List Byte) : Bool := decide (pl.take 4 = ascii tag) && beAt pl 4 1 = 1 && decide (5 ≤ pl.length)

/-- A datagram comes from this unit's own team, or this unit (R90). -/
def Dev.ownSender (d : Dev) (sender : Nat) : Bool :=
  decide (bits sender 10 0 = d.pairId) && (d.paired || decide (bits sender 15 15 = d.unitBit))

/-- Check a twin datagram's tag with a key slot (R256). -/
def Dev.tagPasses (d : Dev) (slot : Nat) (pl : List Byte) : Bool :=
  let n := pl.length
  bit (beAt pl 5 1) 0 && decide (60 ≤ n) && decide (beAt pl (n - 28) 2 = beAt pl 6 2) &&
    (match d.keyOf slot 1 with
     | some k => decide (pl.drop (n - 16) = be 16 (Config.gcmTag (keyBits k) (slice pl (n - 28) 12) (pl.take (n - 16)) []).toNat)
     | none => false)

/-- What the records of one datagram share. -/
structure TwinHead where
  gen : Nat
  epoch : Nat
  foreign : Bool
  own : Bool
  verified : Option Nat
  deriving DecidableEq, Repr

/-- A record's bytes run from the delimiter to the one LF at their end (R90). -/
def recordFits (bs : List Byte) : Bool :=
  isStart (beAt bs 0 1) && decide (bs.idxOf 0x0A + 1 = bs.length)

/-- The items that a record's sentence makes, as KIND 3 items, with whether another part of the record was discarded (R90, R91,
R255). -/
def Dev.twinEvent (d : Dev) (a : Arrival) (h : TwinHead) (gsid mark seq origin : Nat) (spoiled : Bool) (e : PEvent) : Dev :=
  match e with
  | .sentence x =>
    let late := decide (a.stamp < origin)
    let d :=
      if late then (d.count 0x2234 0x05).raiseCount 0xA2D2 1 1 (countDetail a.port) else d
    let it : Item := { d.sentenceItem a.src x d.now with
      spoiled := spoiled, kind := 3, sel := gsid, mark := mark, seq := seq, gen := h.gen, epoch := some h.epoch, foreign := h.foreign, verified := h.verified
      origin := if late then a.stamp else origin, gtag := none }
    d.toLane it
  | e => d.parseEvent a.src d.now e

/-- One record, from its 17-byte header on (R90). -/
def Dev.twinRecord (d : Dev) (a : Arrival) (h : TwinHead) (head body : List Byte) : Dev :=
  let d := d.count 0x2234 0x02
  let gsid := beAt head 0 4 % 2 ^ 30
  let seq := beAt head 4 4
  if h.own then d.count 0x2234 0x04
  else
    match d.judge gsid h.gen seq with
    | .newer =>
      if recordFits body ∧ body.length = beAt head 16 1 then
        let es := (parseBytes (d.options a.src) a.stamp a.quality {} body).2
        let spoiled := es.any (fun e => match e with | .bad _ _ => true | _ => false)
        es.foldl (fun (d : Dev) e => d.twinEvent a h gsid (beAt head 0 4 / 2 ^ 30) seq (beAt head 8 8) spoiled e) d
      else d.malformedItem 1 a.src a.stamp
    | j => d.duplicate j

/-- The records of a datagram, cut by their length fields. -/
def Dev.twinRecords (d : Dev) (a : Arrival) (h : TwinHead) : Nat → List Byte → Dev
  | 0, _ => d
  | n + 1, bs =>
    let len := beAt bs 16 1
    if bs.length < 17 then (d.count 0x2234 0x02).malformedItem 1 a.src a.stamp
    else (d.twinRecord a h (bs.take 17) ((bs.drop 17).take len)).twinRecords a h n (bs.drop (17 + len))

/-- The mode epoch that a datagram is judged against: that of a change whose target leg has begun, though its boundary has not
run yet in this cycle (R258). -/
def Dev.epochNow (d : Dev) : Nat :=
  match d.team.change with | some c => if c.target ≤ d.leg then c.epoch else d.get 0x2020 0x02 | none => d.get 0x2020 0x02

/-- A twin datagram (R90, R254 to R258). -/
def Dev.twinDatagram (d : Dev) (a : Arrival) (row : List Word32) (pl : List Byte) : Dev :=
  let epoch := beAt pl 12 4
  let count := beAt pl 26 2
  let foreign := decide (epoch ≠ d.epochNow)
  let slot := fieldOf row 2 5 0
  if !formatTag "EUTW" pl then d.count 0x1C04 0x01
  else if foreign ∧ flagOf row 1 13 then (d.count 0x1C04 0x05).raise 0xA411 1 epoch
  else
    let sender := beAt pl 6 2
    let d := if foreign then d.count 0x1C04 0x04 count else d
    let verify := flagOf row 1 12
    let passes := verify && d.tagPasses slot pl
    let d := if verify && !passes then
        (d.count 0x1C04 0x02).raise 0xA410 2 (slot * 2 ^ 18 + bits sender 10 0 * 2 + bits sender 15 15) else d
    let own := d.ownSender sender && !a.ingest
    let h : TwinHead := ⟨beAt pl 8 4, epoch, foreign, own, if passes then some slot else none⟩
    let body := (if bit (beAt pl 5 1) 0 then pl.take (pl.length - 28) else pl).drop 32
    d.twinRecords a h count body

/-- The runs of a tunnel datagram; one that overruns it takes every run after it along (R92, R259). -/
def Dev.tunnelRuns (d : Dev) (a : Arrival) : Nat → List Byte → Dev
  | 0, _ => d
  | n + 1, bs =>
    let len := beAt bs 2 2
    let kind := beAt bs 1 1
    if bs.length < 16 + len then
      (List.range (n + 1)).foldl (fun (d : Dev) _ => d.malformedItem 1 a.src a.stamp) d
    else
      let d := d.count 0x2234 0x06
      let data := (bs.drop 16).take len
      let d : Dev :=
        if 2 < kind then d.malformedItem 1 a.src a.stamp
        else
          let it : Item := {
            src := a.src, kind := 4, form := .run, parts := [{ bytes := data, digest := crc64 data }], stamp := a.stamp
            origin := a.stamp, tLast := d.now, sel := beAt bs 0 1, runKind := kind, quality := a.quality }
          d.toLane it
      d.tunnelRuns a n (bs.drop (16 + len))

/-- A tunnel datagram (R92, R259). -/
def Dev.tunnelDatagram (d : Dev) (a : Arrival) (pl : List Byte) : Dev :=
  if !formatTag "EUTN" pl then d.count 0x1C04 0x01 else d.tunnelRuns a (beAt pl 12 2) (pl.drop 16)

/-- The stamp that a master beacon gives for its SFD here: its own, plus correction, asymmetry and receive-path delay,
at the beacon's period (R152). -/
def Dev.masterStamp (d : Dev) (pl : List Byte) : Nat :=
  let ns65536 : Int := toI64 (beAt pl 24 8)
    + (toI32 (d.get 0x2100 0x0D) + (Config.receivePathDelay : Int)) * 65536
  let period := max 1 (beAt pl 12 4)
  ((beAt pl 16 8 : Int) + ns65536 * (2 ^ 24 : Nat) / ((65536 * 5 * period : Nat) : Int)).toNat

/-- A pitch beacon (R152, R187, R203, R260). -/
def Dev.beaconDatagram (d : Dev) (tick : Nat) (pl : List Byte) : Dev :=
  let sender := beAt pl 6 2
  let flags := beAt pl 5 1
  let ours := decide (bits sender 10 0 = d.pairId) && (bit sender 15 != d.posB)
  let domain := decide (bits sender 10 0 = d.get 0x2100 0x0C) && bit flags 0
  let master := domain && decide (beAt pl 11 1 ≠ 2)
  if !formatTag "EUPB" pl then d.count 0x2111 0x06
  else
    let d := if ours then d.partnerBeacon else d
    let d := if domain ∧ bit flags 1 then d.domainBeacon (beAt pl 40 1) (beAt pl 44 8) (beAt pl 52 4) else d
    if master then d.beaconPoint (d.masterStamp pl) (beAt pl 12 4) tick
    else if d.usesSource 3 ∧ !(ours ∧ !bit flags 0) then d.count 0x2111 0x06
    else d

/-! ### IPv4, UDP and the bindings (R88, R234, R252, R261) -/

/-- The binding of a datagram (R252). A unicast datagram is taken at the address of its own port alone (R251). -/
def Dev.bindingOf (d : Dev) (p dst uport : Nat) : Option (List Word32) :=
  if !isMulticast dst ∧ dst ≠ d.ipv4 p then none
  else ((d.rowsOf .binding).find? (fun r => word r.2 0 = dst ∧ dst ≠ 0 ∧ fieldOf r.2 1 31 16 = uport ∧ bit (word r.2 1) p)).map Prod.snd

/-- A datagram that matches a binding is read as that binding's format (R252). -/
def Dev.bound (d : Dev) (a : Arrival) (row : List Word32) (pl : List Byte) : Dev :=
  let d := { d with framesCut := d.framesCut + 1 }
  match fieldOf row 1 15 14 with
  | 0 => d.standardDatagram a pl
  | 1 => d.twinDatagram a row pl
  | 2 => d.tunnelDatagram a pl
  | _ => d.beaconDatagram a.tick pl

/-- The request that an OD-access datagram carries (R261). -/
def odRequestOf (p : Fin 4) (mac ip port : Nat) (pl : List Byte) : OdRequest :=
  { port := p, srcMac := mac, srcIp := ip, srcPort := port, id := beAt pl 6 2, node := beAt pl 8 2 % 4096, idx := beAt pl 10 2
    sub := beAt pl 12 1, len := beAt pl 14 2, offset := beAt pl 16 4, data := (pl.drop 24).take (beAt pl 14 2) }

/-- A UDP datagram: OD-access at the port's own address, else its binding, else the exception ring. `pkt` is the frame
after its tags, as the exception ring takes it. -/
def Dev.udpArrives (d : Dev) (o : Otp) (a : Arrival) (pkt : List Byte) (src dst : Nat) (udp : List Byte) (x : Outside) : Dev :=
  let uport := beAt udp 2 2
  let pl := (udp.take (beAt udp 4 2)).drop 8
  if dst = d.ipv4 a.port ∧ dst ≠ 0 ∧ uport = 48103 ∧ formatTag "EUOD" pl then
    match (List.finRange 4).find? (fun p => p.val = a.port) with
    | some p => d.odRequest o (odTypeOf (beAt pl 5 1)) (odRequestOf p (beAt pkt 6 6) src (beAt udp 0 2) pl) x
    | none => d
  else
    match d.bindingOf a.port dst uport with
    | some row => d.bound a row pl
    | none => d.except a 4 pkt

/-- A frame that passed every MAC check meets the checks of R88. -/
def Dev.ipArrives (d : Dev) (o : Otp) (a : Arrival) (pkt : List Byte) (x : Outside) : Dev :=
  let ip := (pkt.take (pkt.length - 4)).drop 14
  let ihl := beAt ip 0 1 % 16 * 4
  let total := beAt ip 2 2
  let src := beAt ip 12 4
  let dst := beAt ip 16 4
  if beAt pkt 12 2 ≠ 0x0800 ∨ beAt ip 0 1 / 16 ≠ 4 then d.except a 4 pkt
  else if inetSum (ip.take ihl) ≠ 0 then d.count 0x2234 0x07
  else if ihl < 20 ∨ total < ihl ∨ ip.length < total then d.except a 4 pkt
  else if beAt ip 6 2 % 2 ^ 14 ≠ 0 then (d.count 0x2234 0x08).except a 3 pkt
  else
    let udp := (ip.take total).drop ihl
    let len := beAt udp 4 2
    if beAt ip 9 1 ≠ 17 ∨ len < 8 ∨ udp.length < len then d.except a 4 pkt
    else if beAt udp 6 2 ≠ 0 ∧ inetSum (be 4 src ++ be 4 dst ++ be 2 17 ++ be 2 len ++ udp.take len) ≠ 0 then d.count 0x2234 0x07
    else d.udpArrives o a pkt src dst udp x

/-! ### The MAC checks (R234 to R238) -/

/-- The address of an IPv4 multicast group (RFC 1112, as R250 names it). -/
def multicastMac (ip : Nat) : Nat := 0x01005E000000 + ip % 2 ^ 23

/-- A port accepts a destination address (R236). -/
def Dev.macAccepts (d : Dev) (p dst : Nat) : Bool :=
  dst = d.mac p || dst = 0xFFFFFFFFFFFF ||
    (d.rowsOf .binding).any (fun r => isMulticast (word r.2 0) && bit (word r.2 1) p && multicastMac (word r.2 0) = dst)

/-- A frame is double-tagged (R237). -/
def doubleTagged (f : List Byte) : Bool :=
  let t := beAt f 12 2
  let u := beAt f 16 2
  t = 0x88A8 || (t = 0x8100 && (u = 0x8100 || u = 0x88A8))

/-- The frame without its outer tag. -/
def untagged (f : List Byte) : List Byte := f.take 12 ++ f.drop 16

/-- What order 7 makes of a frame (R237). -/
inductive TagVerdict where
  | accept (frame : List Byte)
  | mismatch
  | double
  /-- Tagged under RX_TAG 0. -/
  | kept
  deriving DecidableEq, Repr

/-- The tags of a frame under the port's Tag control (R237). -/
def Dev.tagVerdict (d : Dev) (p : Nat) (f : List Byte) : TagVerdict :=
  let ctl := d.get (0x3200 + p) 0x06
  let vid := beAt f 14 2 % 4096
  if doubleTagged f then .double
  else if beAt f 12 2 = 0x8100 then
    if bits ctl 1 0 = 0 then .kept
    else if vid = 0 ∨ vid = bits ctl 27 16 then .accept (untagged f) else .mismatch
  else if bits ctl 1 0 = 2 then .mismatch else .accept f

/-- Bytes of the frames that wait in a port's receive buffer: those with an item still without a tag (R52). -/
def Dev.buffered (d : Dev) (p : Nat) : List (Nat × Nat) :=
  (d.port p).buffer.filter (fun b => (d.inLanes ++ d.waitTag).any (fun i => i.src = 208 + p ∧ i.tLast = b.1))

/-- Order 8: room for a frame in the 512 KiB receive buffer, and its discard under R52 where there is none. -/
def Dev.takeRoom (d : Dev) (p len : Nat) : Dev × Bool :=
  let kept := d.buffered p
  if (kept.map Prod.snd).sum + len ≤ 524288 then
    (d.setPort p { d.port p with buffer := kept ++ [(d.now, len)] }, true)
  else ((d.count 0x2220 0x07).raiseCount 0xA2E1 2 1 (countDetail p), false)

/-- A MAC Control frame (R238). -/
def Dev.macControl (d : Dev) (p : Nat) (f : List Byte) : Dev :=
  let dst := beAt f 0 6
  if beAt f 14 2 = 1 ∧ (dst = 0x0180C2000001 ∨ dst = d.mac p) then d.pauseFrame p (beAt f 16 2)
  else d.count (0x3200 + p) 0x2B

/-- 0xA402 at receipt of an oversize or a double-tagged frame (R248). -/
def Dev.frameAlert (d : Dev) (p len : Nat) (double : Bool) : Dev :=
  d.raise 0xA402 1 (sat 0xFFFF len * 2 ^ 16 + b2n double * 128 + p)

/-- Orders 5 to 8 of R234 on a frame that passed the first four. -/
def Dev.frameArrives (d : Dev) (o : Otp) (a : Arrival) (x : Outside) : Dev :=
  let p := a.port
  let f := a.frame
  if beAt f 12 2 = 0x8808 then d.macControl p f
  else if !d.macAccepts p (beAt f 0 6) then d
  else
    match d.tagVerdict p f with
    | .mismatch => d.count (0x3200 + p) 0x2A
    | .double => ((d.count (0x3200 + p) 0x29).frameAlert p f.length true).except a 2 (untagged f)
    | .kept => d.except a 5 f
    | .accept g =>
      let (d, room) := d.takeRoom p f.length
      if room then d.ipArrives o a g x else d

/-- A discard under orders 1 to 3 with its status bit (R234, R244). -/
def Dev.macDiscard (d : Dev) (p sub status : Nat) : Dev := (d.sticky (0x3200 + p) 0x05 status).rxDiscard p sub

/-- A frame at the receive path of a backbone port: the checks of R234 in their order. -/
def Dev.portFrame (d : Dev) (o : Otp) (a : Arrival) (codeError : Bool) (x : Outside) : Dev :=
  let p := a.port
  let n := a.frame.length
  let most := d.get (0x3200 + p) 0x03
  if n < 64 then d.macDiscard p 0x20 0x01
  else if codeError then d.macDiscard p 0x23 0x08
  else if !fcsFits a.frame then d.macDiscard p 0x22 0x04
  else if most < n then
    (((d.count (0x3200 + p) 0x21).sticky (0x3200 + p) 0x05 0x02).frameAlert p n false).except a 1 (a.frame.take most)
  else d.frameArrives o a x

/-- A discard or a PAUSE frame at the rope port (R247). -/
def Dev.ropeMac (d : Dev) (sub status : Nat) : Dev := (d.count 0x3210 sub).sticky 0x3210 0x05 status

/-- A frame at the rope port: orders 1 to 4 of R234 with MAXLEN 1,518, and PAUSE discarded (R247). Rope frames that pass
have rows of their own. The source number of an oversize frame's descriptor and the two port bits of its 0xA402, which have no
value for the rope port, are free values (log entry 76). -/
def Dev.ropePortFrame (d : Dev) (f : List Byte) (codeError : Bool) (stamp quality : Nat) : Dev :=
  if f.length < 64 then d.ropeMac 0x20 0x01
  else if codeError then d.ropeMac 0x23 0x08
  else if !fcsFits f then d.ropeMac 0x22 0x04
  else if 1518 < f.length then
    let (src, d) := (d.ropeMac 0x21 0x02).fresh
    let (port, d) := d.fresh
    (d.frameAlert (port % 4) f.length false).exceptionFrame 1 (src % 256) stamp quality (f.take 1518)
  else if beAt f 12 2 = 0x8808 ∧ beAt f 14 2 = 1 then d.ropeMac 0x24 0x10
  else d

/-- A backbone port takes what its pins bring: it runs, its link is up, its receive MAC is out of reset and no loop stands in
its place (R367, R422). -/
def Dev.portHears (d : Dev) (p : Nat) : Bool :=
  d.portRuns p && (d.port p).linkUp && !(d.port p).inReset && decide (d.portLoop p = 0)

/-- At depth 4 the lane re-sends what it receives, and the port's own receive path discards it (R422). -/
def Dev.farEnd (d : Dev) (p : Nat) (bytes : List Byte) : Dev := if d.portLoop p = 4 then d.emit (.resent p bytes) else d

/-- BACKBONE_FRAME_RECEIVED: a frame from the pins of a port, 4 being the rope port, whose SFD was at an instant. -/
def Dev.frameReceived (d : Dev) (o : Otp) (p : Nat) (bytes : List Byte) (sfd : Nat) (codeError : Bool) (x : Outside) : Dev :=
  if p < 4 then
    if d.portHears p then
      d.portFrame o { port := p, frame := bytes, stamp := d.stampAt sfd, tick := tickOf sfd, quality := d.qualityAt sfd }
        codeError x
    else if d.portRuns p ∧ (d.port p).linkUp then d.farEnd p bytes
    else d
  else if d.get 0x3210 0x01 ≠ 0 ∧ d.team.ropeLink ∧ (d.pw.st == .service || d.pw.st == .config) then
    if d.portLoop 4 = 0 then d.ropePortFrame bytes codeError (d.stampAt sfd) (d.qualityAt sfd) else d.farEnd 4 bytes
  else d

/-- BEACON_RECEIVED: a beacon's payload through a beacon binding of a port, its SFD at an instant. -/
def Dev.beaconReceived (d : Dev) (p : Nat) (pl : List Byte) (sfd : Nat) : Dev :=
  if d.portHears p then d.beaconDatagram (tickOf sfd) pl else d

/-- PAUSE_FRAME_RECEIVED at a port. -/
def Dev.pauseReceived (d : Dev) (p quanta : Nat) : Dev := if d.portHears p then d.pauseFrame p quanta else d

/-- Deliver the frames that loops return (R422, R423). -/
def Dev.loopDeliver (d : Dev) (o : Otp) (x : Outside) : Dev :=
  let fs := d.looped
  fs.foldl (fun (d : Dev) (f : Nat × List Byte × Nat × Bool) =>
    d.portFrame o { port := f.1, frame := withFcs f.2.1, stamp := f.2.2.1, tick := tickOf d.now, quality := d.quality
                    ingest := f.2.2.2 } false x) { d with looped := [] }

/-! ### Lanes (R53, R90) -/

/-- A first fast-packet frame with a length of 0 or above 223 (R87). -/
def fpBad (it : Item) : Bool :=
  let (n, _, _, data) := fpFields it.firstBytes
  it.fp && n = 0 && (beAt data 1 1 = 0 || decide (223 < beAt data 1 1))

/-- A lane is free from now on, and takes the item that waits for it. -/
def Dev.laneFree (d : Dev) (k : Nat) : Dev :=
  ({ d with lanes := d.lanes.set k { item := none, freeAt := d.now } } : Dev).laneTake

/-- PARSE_LANE_DONE: a lane finishes its item. -/
def Dev.laneDone (d : Dev) (k : Nat) : Dev :=
  match (d.lanes.getD k {}).item with
  | none => d
  | some it =>
    let d := d.laneFree k
    let pass (d : Dev) : Dev := { d with waitTag := d.waitTag ++ [{ it with finish := d.now }] }
    if it.kind = 3 then
      match d.judge it.sel it.gen it.seq with
      | .newer => pass (if it.spoiled then d else d.advance it.sel it.gen it.seq)
      | j => d.duplicate j
    else if fpBad it then d.malformedItem 1 it.src it.stamp
    else if it.form = .sentence ∧ d.partKind it = .malformed then d.malformedItem 1 it.src it.stamp
    else pass d

/-! ### Links and whistles (R233, R246) -/

/-- LINK_UP: of a backbone port, or of the rope port; in BIVOUAC a link wake. -/
def Dev.linkRises (d : Dev) (p status : Nat) : Dev :=
  if p = 4 then
    if d.get 0x3210 0x01 ≠ 0 ∧ (d.on ∨ d.pw.st = .boot) then
      { d.setPort 4 { d.port 4 with link := d.linkBits 4 status } with team := { d.team with ropeLink := true } }
    else d
  else if d.pw.st = .bivouac then
    if p < 2 ∧ d.portMode p ≠ 0 ∧ !(d.port p).linkUp then
      let d := d.setPort p { d.port p with linkUp := true, link := status }
      if bit (d.get (0x3200 + p) 0x10) 8 then d.wakeEvent 2 0xA404 (128 + p) else d
    else d
  else if d.pw.st = .off ∨ d.pw.st = .shelter ∨ !d.portUsed p then d
  else d.linkChange p true status

/-- LINK_DOWN. -/
def Dev.linkFalls (d : Dev) (p : Nat) : Dev :=
  if p = 4 then d.ropeLost true else d.linkChange p false 0

/-- A frame fits a whistle pattern: its value and mask (R246). -/
def whistleFits (pattern frame : List Byte) : Bool :=
  let mask (i : Nat) : Byte := pattern.getD (128 + i) 0
  let used := (List.range 128).filter (fun i => mask i ≠ 0)
  !used.isEmpty && used.all (fun i => decide (i < frame.length) &&
    (frame.getD i 0 &&& mask i) == (pattern.getD i 0 &&& mask i))

/-- WHISTLE_FRAME: a frame at BB0 or BB1 in BIVOUAC whose SFD came after arming (R246). -/
def Dev.whistle (d : Dev) (p : Nat) (frame : List Byte) (sfd : Nat) (codeError : Bool) : Dev :=
  if d.pw.st = .bivouac ∧ d.pw.armed ∧ p < 2 ∧ d.portMode p ≠ 0 ∧ d.pw.armedAt < sfd ∧ 64 ≤ frame.length ∧ !codeError ∧ fcsFits frame then
    match (List.range 8).find? (fun i => bit (d.get (0x3200 + p) 0x10) i && whistleFits (d.storedDomain (0x3200 + p) (0x11 + i)) frame) with
    | some i => d.wakeEvent 2 0xA404 (i * 16 + p)
    | none => d
  else d

end Sys2Proof.Machine
end

