-- ==== Sys2Proof/Machine/Outcome.lean ====
section
/-! DEFINITION. What every command ends with, and the forms in which commands of several families reach the shared operations:
reads that a transport takes, answers of the HLB, and the registers behind a host port that can be in reset. -/

namespace Sys2Proof.Machine

/-! ### The end of a command -/

/-- What follows every command at its instant: frames that loops return (R422, R423), the note of a quality change
(R148), ledger records that wait for nothing (R401), mirror deltas of what changed (R208), the audits of a leg that has begun
(R223), and the end of a boot whose pair join is over (R349). -/
def Dev.settle (o : Otp) (old d : Dev) : Dev :=
  let d := if d.looped.isEmpty then d else d.loopDeliver o .quiet
  (Dev.mirrorSync old (Dev.noteQuality old d).ledFlush).auditsLeave.bootSettle

/-! ### SDO frames -/

/-- The SDO server acts on the frame of a request (R35, R297), laid out as CiA 301 lays it out: command byte, index, subindex and
data. A client's abort ends the transfer without an answer. PRESUMED (log entry 77): the layout is the standard's. -/
def Dev.sdoTake (d : Dev) (o : Otp) (f : CanFrame) (x : Outside) : Dev :=
  let c := beAt f.data 0 1
  let idx := leAt f.data 1 2
  let sub := beAt f.data 3 1
  let v := leAt f.data 4 4
  if f.data.length ≠ 8 then d
  else match c / 32 with
    | 0 => d.sdoSegment o f.fdf (bit c 4) (bit c 0) ((f.data.drop 1).take (7 - bits c 3 1)) x
    | 1 =>
      if bit c 1 then
        let size := if bit c 0 then some (4 - bits c 3 2) else none
        d.sdoDownload o f.fdf idx sub size (v % 256 ^ (size.getD 4)) x
      else d.sdoOpen f.fdf idx sub (if bit c 0 then some v else none)
    | 2 => d.sdoUpload f.fdf idx sub
    | 3 => d.sdoUploadSegment f.fdf (bit c 4)
    | 4 => if d.sdoServes then ({ d with sdo := none } : Dev).domDiscard .sdo else d
    | 5 | 6 => d.sdoBlock f.fdf idx sub
    | _ => d.sdoUnknown f.fdf idx sub

/-- CAN_FRAME_RECEIVED: a frame on RXD; one with the server's COB-ID on the SDO channel goes to the SDO server (R297). -/
def Dev.canFrameTaken (d : Dev) (o : Otp) (n : Nat) (f : CanFrame) (sof : Nat) (x : Outside) : Dev :=
  let taken := d.canOnBus n && d.canLoop n ≠ 1 && !(f.fdf && d.canMode n = 2) && d.isSdo n f && f.ident / 128 = 12
  let d := d.canHeard n f sof
  if taken then d.sdoTake o f x else d

/-! ### Reads -/

/-- A value goes back to the initiator of a word access. -/
def Dev.valueTaken (d : Dev) (tr : Transport) (v : Nat) : Dev :=
  match tr with
  | .hlb => d.hlbOut (.hlbData v)
  | .pcie => d.emit (.pcieData v)
  | .sdo | .od => d

/-- A read of an entry with its checks, and its value on a word transport. -/
def Dev.readTaken (d : Dev) (tr : Transport) (idx sub : Nat) : Dev :=
  if !d.reaches tr then d
  else match (d.accessBegins tr).readAccess tr idx sub with
    | (d, .ok v) => d.valueTaken tr v
    | (d, .error _) => d

/-- LOW_WORD_READ_SNAPSHOT: the low word of a readable 64-bit entry, over HLB or PCIe (R28). -/
def Dev.snapshotRead (d : Dev) (tr : Transport) (idx sub : Nat) : Dev :=
  if !d.reaches tr ∨ tr = .sdo ∨ tr = .od then d
  else match dictFind idx sub with
    | some r =>
      if r.ty.wide ∧ r.acc ≠ .wo then (let (d, v) := (d.windowSnapsEnd tr).lowRead tr idx sub; d.valueTaken tr v) else d
    | none => d

/-- EXPORT_SNAPSHOT: a transport reads the export at offset 0 (R415). -/
def Dev.exportTaken (d : Dev) (tr : Transport) : Dev :=
  if !d.reaches tr ∨ (d.readCheck tr 0x2A10 1).isSome then d else ((d.accessBegins tr).domainRead tr 0x2A10 1 0 4).1

/-! ### Requests with a condition of their own -/

/-- A write of Target stamp with a scope (R202, R203): it is the command of its row while 0x2020:05 holds that scope. -/
def Dev.modeWrite (d : Dev) (o : Otp) (tr : Transport) (scope target : Nat) : Dev :=
  if d.get 0x2020 0x05 = scope then d.writeOd o tr 0x2020 4 none target .quiet else d

/-- OD_ACCESS_UNKNOWN_TYPE: a request whose type is none of R261's. -/
def Dev.odUnknown (d : Dev) (o : Otp) (type : Nat) (q : OdRequest) : Dev :=
  if 1 ≤ type ∧ type ≤ 6 then d else d.odRequest o (.other type) q .quiet

/-- LANE_PCS_LOCK_LOSS of BB0 to BB3, or of the rope port as 4. -/
def Dev.laneLoss (d : Dev) (p : Fin 5) (receiving : Bool) : Dev :=
  if h : p.val < 4 then d.laneReset (.port ⟨p.val, h⟩) receiving else d.laneReset .rope receiving

/-! ### Host ports -/

/-- The HLB side answers: the core is on and the domain out of reset (R367). -/
def Dev.hlbReady (d : Dev) : Bool := d.on && !bit d.clk.inReset 1

/-- BAR2 answers: the core is on, its outputs not released, and the PCIe domain out of reset (R325, R352, R367). -/
def Dev.barReady (d : Dev) : Bool := d.reaches .pcie

/-- Put the answers of an access on the bus. -/
def Dev.replied (a : Dev × List HostReply) : Dev := a.2.foldl (fun (d : Dev) r => d.hlbOut r.hlb) a.1

/-- HLB_REMOTE_READ in a remote window. -/
def Dev.hlbRead (d : Dev) (addr beats : Nat) (lock : Bool) : Dev :=
  if d.hlbReady ∧ isRemote addr then Dev.replied (d.remoteRead addr beats lock) else d

/-- HLB_REMOTE_WRITE in a remote window. -/
def Dev.hlbWrite (d : Dev) (addr : Nat) (beats : List (Nat × Nat)) (lock : Bool) : Dev :=
  if d.hlbReady ∧ isRemote addr then Dev.replied (d.remoteWrite addr beats lock) else d

/-- A register of BAR2 is accessed. In HOLD the request completes with Unsupported Request (R352). -/
def Dev.bar (d : Dev) (f : Dev → Dev) : Dev :=
  if d.barReady then f (d.snapEnds .pcie) else if d.on ∧ d.released ∧ !bit d.clk.inReset 0 then d.emit .pcieUnsupported else d

/-- RING_ENABLE and RING_DISABLE: a write of Control with ENABLE as the row has it. -/
def Dev.ringSwitch (d : Dev) (r v : Nat) (on : Bool) : Dev :=
  d.bar fun d => if bit v 0 = on then d.ringControl r v else d

/-! ### Boundary scan -/

/-- EXTEST: HOLD, the pins captured and driven from the cells (R426). -/
def Dev.tapExtest (d : Dev) (pins : List Bool) : Dev := d.tapHold .extest (pinsValue pins) true

/-- EXTEST_PULSE and EXTEST_TRAIN (R427). -/
def Dev.tapPulse (d : Dev) (i : TapInstr) (pins : List Bool) : Dev := d.tapHold i (pinsValue pins) true

end Sys2Proof.Machine
end

