-- ==== Sys2Proof/Machine/State.lean ====
section
/-! DEFINITION. The state of the block, its outcomes that stop, and the state after reset. -/

namespace Sys2Proof.Machine

/-- The block: the commands that wait, first in first out; the fuses; and the rest. -/
structure State where
  pending : List Instr
  otp : Otp
  dev : Dev
  deriving DecidableEq, Repr

/-- What stops the block: nothing does. Every command of the table completes, so this type has no constructor. -/
inductive Fault where
  deriving DecidableEq, Repr

/-- Why a command has no meaning. -/
inductive Refusal where
  /-- The command is not modelled. No meaning raises it, and no arm of the dispatch does; safe. -/
  | notModelled (mnemonic : String)
  deriving DecidableEq, Repr

/-- An outcome of a command. -/
abbrev Result := Host.Outcome State Fault Refusal

/-- The fuses of a chip as it leaves Eundatos production test: life-cycle state FACTORY with its verification key and three
spare rows (R371, R373). -/
def Otp.factory : Otp := { life := .factory, spare := 3, verify := Config.factoryKey, salt := 0 }

/-- The block held in reset: supplies good, PORST_N low, device state OFF, flash, MRAM and key store empty. Reset cause
PORST_N is noted, and the RTC has lost its time (R356, R364). -/
def Dev.held : Dev :=
  { pw := { st := .off, causes := 2, porst := true }, clk := { rtcRuns := true, rtcMark := true } }

/-- The block right after reset, with no command waiting. -/
def State.reset : State := { pending := [], otp := Otp.factory, dev := Dev.held }

end Sys2Proof.Machine
end

