-- ==== Sys2Proof/Machine/Run.lean ====
section
/-! DEFINITION. How a command runs: at its instant, on everything but the queue, and what follows it. -/

namespace Sys2Proof.Machine

/-- The block at the instant of a command. Time does not run back: a command that names an earlier instant runs at the
present one. -/
def State.at (s : State) (t : Nat) : Dev := { s.dev with now := max t s.dev.now }

/-- The state that a command leaves whose effect makes `d` of the block: `d` with what follows every command. -/
def State.finish (s : State) (d : Dev) : State := { s with dev := Dev.settle s.otp s.dev d }

/-- The state after an effect at an instant. -/
def State.after (s : State) (t : Nat) (f : Dev → Dev) : State := s.finish (f (s.at t))

/-- A command that reaches the keep-alive domain, the supplies or the pins as well. -/
def State.run (s : State) (t : Nat) (f : Dev → Dev) : Result := .next (s.after t f)

/-- A command of the core: with the core off, time alone passes. -/
def State.core (s : State) (t : Nat) (f : Dev → Dev) : Result := s.run t (fun d => if d.coreOn then f d else d)

end Sys2Proof.Machine
end

