-- ==== Sys2Proof/Machine/CmdBackbone.lean ====
section
/-! DEFINITION. Meanings of the commands of the backbone ports: gates, frames, PAUSE, links and whistles (chapters Backbone ports and Datagram formats on the backbone). -/

namespace Sys2Proof.Machine

/-- GATE_OPEN (R239). -/
def execGateOpen (t : Nat) (p : Fin 4) (entry : Nat) (s : State) : Result :=
  s.core t fun d => d.gateOpen p.val entry

/-- GATE_CLOSE (R239). -/
def execGateClose (t : Nat) (p : Fin 4) (entry : Nat) (s : State) : Result :=
  s.core t fun d => d.gateClose p.val entry

/-- PORT_FRAME_END (R239). -/
def execPortFrameEnd (t : Nat) (p : Fin 4) (s : State) : Result :=
  s.core t fun d => d.portFrameEnd p.val

/-- PAUSE_FRAME_RECEIVED (R241). -/
def execPauseFrameReceived (t : Nat) (p : Fin 4) (quanta : BitVec 16) (s : State) : Result :=
  s.core t fun d => d.pauseReceived p.val quanta.toNat

/-- PAUSE_EXPIRY (R241). -/
def execPauseExpiry (t : Nat) (p : Fin 4) (s : State) : Result :=
  s.core t fun d => d.pauseExpiry p.val

/-- PAUSE_CEILING_REACHED (R177). -/
def execPauseCeilingReached (t : Nat) (p : Fin 4) (s : State) : Result :=
  s.core t fun d => d.pauseCeiling p.val

/-- BACKBONE_FRAME_RECEIVED (R234). -/
def execBackboneFrameReceived (t : Nat) (p : Fin 5) (bytes : List Byte) (sfd : Nat) (codeError : Bool) (x : Outside) (s :
State) : Result :=
  s.core t fun d => d.frameReceived s.otp p.val bytes sfd codeError x

/-- LINK_UP (R233). -/
def execLinkUp (t : Nat) (p : Fin 5) (status : Nat) (s : State) : Result :=
  s.run t fun d => d.linkRises p.val status

/-- LINK_DOWN (R233). -/
def execLinkDown (t : Nat) (p : Fin 5) (s : State) : Result :=
  s.run t fun d => d.linkFalls p.val

/-- STAMP_POP (R242). -/
def execStampPop (t : Nat) (tr : Transport) (p : Fin 4) (s : State) : Result :=
  s.core t fun d => d.writeOd s.otp tr (0x3200 + p.val) 0x0B none 1 .quiet

/-- WHISTLE_FRAME (R246). -/
def execWhistleFrame (t : Nat) (p : Fin 2) (bytes : List Byte) (sfd : Nat) (codeError : Bool) (s : State) : Result :=
  s.run t fun d => d.whistle p.val bytes sfd codeError

end Sys2Proof.Machine
end

