-- ==== Sys2Proof/Machine/CmdCanLines.lean ====
section
/-! DEFINITION. Meanings of the commands of the CAN channels and of edge-network sleep (chapter CAN channels and edge-network sleep). -/

namespace Sys2Proof.Machine

/-- CAN_FRAME_RECEIVED (R297). -/
def execCanFrameReceived (t : Nat) (n : Fin 16) (f : CanFrame) (m : CanMoment) (s : State) : Result :=
  s.core t fun d => d.canFrameTaken s.otp n.val f m.sof m.outside

/-- CAN_FRAME_SENT (R301). -/
def execCanFrameSent (t : Nat) (n : Fin 16) (s : State) : Result :=
  s.core t fun d => d.canSent n.val

/-- CAN_ERROR (R304). -/
def execCanError (t : Nat) (n : Fin 16) (asTx : Bool) (e : CanFault) (s : State) : Result :=
  s.core t fun d => d.canError n.val asTx e

/-- TX_DOMINANT_TIMEOUT (R304). -/
def execTxDominantTimeout (t : Nat) (n : Fin 16) (s : State) : Result :=
  s.core t fun d => d.txDominant n.val

/-- CAN_STUCK_DOMINANT (R304). -/
def execCanStuckDominant (t : Nat) (n : Fin 16) (edge : Nat) (s : State) : Result :=
  s.core t fun d => d.canStuck n.val edge

/-- CAN_STUCK_CLEAR (R304). -/
def execCanStuckClear (t : Nat) (n : Fin 16) (edge : Nat) (s : State) : Result :=
  s.core t fun d => d.canFree n.val edge

/-- RECOVERY_REQUEST (R295). -/
def execRecoveryRequest (t : Nat) (tr : Transport) (n : Fin 16) (s : State) : Result :=
  s.core t fun d => d.writeOd s.otp tr (0x3100 + n.val) 8 none 1 .quiet

/-- BUS_OFF_RECOVERY_COMPLETE (R304). -/
def execBusOffRecoveryComplete (t : Nat) (n : Fin 16) (s : State) : Result :=
  s.core t fun d => d.recoveryDone n.val

/-- ARM_SLEEP (R307). -/
def execArmSleep (t : Nat) (tr : Transport) (n : Fin 16) (s : State) : Result :=
  s.core t fun d => d.writeOd s.otp tr (0x2C10 + n.val) 1 none 1 .quiet

/-- DISARM_SLEEP (R307). -/
def execDisarmSleep (t : Nat) (tr : Transport) (n : Fin 16) (s : State) : Result :=
  s.core t fun d => d.writeOd s.otp tr (0x2C10 + n.val) 1 none 0 .quiet

/-- WAKE_REQUEST (R310). -/
def execWakeRequest (t : Nat) (tr : Transport) (n : Fin 16) (s : State) : Result :=
  s.core t fun d => d.writeOd s.otp tr (0x2C10 + n.val) 2 none 1 .quiet

/-- SLEEP_AGREEMENT (R307). -/
def execSleepAgreement (t : Nat) (n : Fin 16) (s : State) : Result :=
  s.core t fun d => d.agreement n.val

/-- REPORT_TIMER_EXPIRY (R307). -/
def execReportTimerExpiry (t : Nat) (n : Fin 16) (s : State) : Result :=
  s.core t fun d => d.reportExpiry n.val

/-- COMMIT_DELAY_EXPIRY (R307). -/
def execCommitDelayExpiry (t : Nat) (n : Fin 16) (s : State) : Result :=
  s.core t fun d => d.commitExpiry n.val

/-- REWAKE_WINDOW_END (R307). -/
def execRewakeWindowEnd (t : Nat) (n : Fin 16) (s : State) : Result :=
  s.core t fun d => d.windowEnd n.val

/-- COMMITTED_BUS_WAKE (R310). -/
def execCommittedBusWake (t : Nat) (n : Fin 16) (s : State) : Result :=
  s.core t fun d => d.busWake n.val

/-- CAN_WAKE_INPUT (R309). -/
def execCanWakeInput (t : Nat) (n : Fin 16) (s : State) : Result :=
  s.run t fun d => d.canWakeInput n.val

/-- T_VALID_EXPIRY (R307). -/
def execTValidExpiry (t : Nat) (n : Fin 16) (s : State) : Result :=
  s.core t fun d => d.validExpiry n.val

/-- CAN_BUS_INTEGRATION (R304). -/
def execCanBusIntegration (t : Nat) (n : Fin 16) (s : State) : Result :=
  s.core t fun d => d.canIntegrate n.val

end Sys2Proof.Machine
end

