-- ==== Sys2Proof/Machine/CmdClocking.lean ====
section
/-! DEFINITION. Meanings of the commands of clocks and of resets of one side (chapter Clocks, resets and the counter base). -/

namespace Sys2Proof.Machine

/-- PCIE_DOMAIN_RESET (R367). -/
def execPcieDomainReset (t : Nat) (s : State) : Result :=
  s.core t fun d => d.pcieReset

/-- HLB_CLOCK_LOSS (R367). -/
def execHlbClockLoss (t : Nat) (s : State) : Result :=
  s.core t fun d => d.hlbReset

/-- LANE_PCS_LOCK_LOSS (R367). -/
def execLanePcsLockLoss (t : Nat) (p : Fin 5) (receiving : Bool) (s : State) : Result :=
  s.core t fun d => d.laneLoss p receiving

/-- DOMAIN_RESET_RELEASE (R366). -/
def execDomainResetRelease (t : Nat) (domain : Domain) (s : State) : Result :=
  s.core t fun d => d.sideRelease domain

/-- PLL_LOCK_LOSS (R357). -/
def execPllLockLoss (t : Nat) (mask : Nat) (s : State) : Result :=
  s.run t fun d => d.pllLoss mask

/-- KA_CLOCK_LOSS (R355). -/
def execKaClockLoss (t : Nat) (ppm : Int) (s : State) : Result :=
  s.run t fun d => d.kaClockLoss ppm

/-- RC_TRIM (R355). -/
def execRcTrim (t : Nat) (ppm : Int) (s : State) : Result :=
  s.run t fun d => d.rcTrim ppm

/-- RTC_STOP_DETECT (R356). -/
def execRtcStopDetect (t : Nat) (s : State) : Result :=
  s.run t fun d => d.rtcStop

/-- PLL_LOCK_REGAIN (R369). -/
def execPllLockRegain (t : Nat) (mask : Nat) (s : State) : Result :=
  s.run t fun d => d.pllRegain mask

/-- RTC_RESTART (R356). -/
def execRtcRestart (t : Nat) (s : State) : Result :=
  s.run t fun d => d.rtcRestart

end Sys2Proof.Machine
end

