-- ==== Sys2Proof/Machine/CmdDictionary.lean ====
section
/-! DEFINITION. Meanings of the object-dictionary commands: writes, the two-word protection, domain ports, access blocks, tables and SDO (chapter Object dictionary, access rights and configuration). -/

namespace Sys2Proof.Machine

/-- OD_WRITE (R24). -/
def execOdWrite (t : Nat) (tr : Transport) (idx : BitVec 16) (sub : BitVec 8) (size : Option Nat) (v : Word64) (x : Outside)
(s : State) : Result :=
  s.core t fun d => d.writeOd s.otp tr idx.toNat sub.toNat size v.toNat x

/-- HELD_LOW_WORD_DISCARD (R28). -/
def execHeldLowWordDiscard (t : Nat) (tr : Transport) (s : State) : Result :=
  s.core t fun d => d.lowLapse tr

/-- LOW_WORD_READ_SNAPSHOT (R28). -/
def execLowWordReadSnapshot (t : Nat) (tr : Transport) (idx : BitVec 16) (sub : BitVec 8) (s : State) : Result :=
  s.core t fun d => d.snapshotRead tr idx.toNat sub.toNat

/-- DOMAIN_TARGET_WRITE (R30). -/
def execDomainTargetWrite (t : Nat) (tr : Transport) (v : Word32) (s : State) : Result :=
  s.core t fun d => d.writeOd s.otp tr 0x2010 1 none v.toNat .quiet

/-- DOMAIN_DATA_WRITE (R30). -/
def execDomainDataWrite (t : Nat) (tr : Transport) (v : Word32) (s : State) : Result :=
  s.core t fun d => d.writeOd s.otp tr 0x2010 3 none v.toNat .quiet

/-- DOMAIN_DATA_READ (R30). -/
def execDomainDataRead (t : Nat) (tr : Transport) (s : State) : Result :=
  s.core t fun d => d.readTaken tr 0x2010 3

/-- DOMAIN_COMMIT (R30). -/
def execDomainCommit (t : Nat) (tr : Transport) (s : State) : Result :=
  s.core t fun d => d.writeOd s.otp tr 0x2010 4 none 1 .quiet

/-- DOMAIN_DISCARD (R30). -/
def execDomainDiscard (t : Nat) (tr : Transport) (s : State) : Result :=
  s.core t fun d => d.writeOd s.otp tr 0x2010 4 none 2 .quiet

/-- DOMAIN_PORT_TIMEOUT (R36). -/
def execDomainPortTimeout (t : Nat) (tr : Transport) (s : State) : Result :=
  s.core t fun d => d.domTimeout tr

/-- ACCESS_BLOCK_CLAIM (R32). -/
def execAccessBlockClaim (t : Nat) (tr : Transport) (tbl : Tbl) (s : State) : Result :=
  s.core t fun d => d.writeOd s.otp tr tbl.index 4 none tr.code .quiet

/-- ACCESS_BLOCK_RELEASE (R32). -/
def execAccessBlockRelease (t : Nat) (tr : Transport) (tbl : Tbl) (s : State) : Result :=
  s.core t fun d => d.writeOd s.otp tr tbl.index 4 none 0 .quiet

/-- ACCESS_BLOCK_OWNER_TIMEOUT (R32). -/
def execAccessBlockOwnerTimeout (t : Nat) (tbl : Tbl) (s : State) : Result :=
  s.core t fun d => d.ownerTimeout tbl

/-- TABLE_READ_ROW (R31). -/
def execTableReadRow (t : Nat) (tr : Transport) (tbl : Tbl) (s : State) : Result :=
  s.core t fun d => d.writeOd s.otp tr tbl.index 2 none 1 .quiet

/-- TABLE_STAGE_ROW (R31). -/
def execTableStageRow (t : Nat) (tr : Transport) (tbl : Tbl) (s : State) : Result :=
  s.core t fun d => d.writeOd s.otp tr tbl.index 2 none 2 .quiet

/-- TABLE_STAGE_EMPTY (R31). -/
def execTableStageEmpty (t : Nat) (tr : Transport) (tbl : Tbl) (s : State) : Result :=
  s.core t fun d => d.writeOd s.otp tr tbl.index 2 none 3 .quiet

/-- SDO_EXPEDITED_UPLOAD (R35). -/
def execSdoExpeditedUpload (t : Nat) (fd : Bool) (idx : BitVec 16) (sub : BitVec 8) (s : State) : Result :=
  s.core t fun d => d.sdoUpload fd idx.toNat sub.toNat

/-- SDO_EXPEDITED_DOWNLOAD (R35). -/
def execSdoExpeditedDownload (t : Nat) (fd : Bool) (idx : BitVec 16) (sub : BitVec 8) (size : Option Nat) (v : Word32) (x :
Outside) (s : State) : Result :=
  s.core t fun d => d.sdoDownload s.otp fd idx.toNat sub.toNat size v.toNat x

/-- SDO_SEGMENTED_UPLOAD_INITIATE (R35). -/
def execSdoSegmentedUploadInitiate (t : Nat) (fd : Bool) (idx : BitVec 16) (sub : BitVec 8) (s : State) : Result :=
  s.core t fun d => d.sdoUpload fd idx.toNat sub.toNat

/-- SDO_SEGMENTED_DOWNLOAD_INITIATE (R35). -/
def execSdoSegmentedDownloadInitiate (t : Nat) (fd : Bool) (idx : BitVec 16) (sub : BitVec 8) (size : Option Nat) (s :
State) : Result :=
  s.core t fun d => d.sdoOpen fd idx.toNat sub.toNat size

/-- SDO_UPLOAD_SEGMENT (R35). -/
def execSdoUploadSegment (t : Nat) (fd : Bool) (toggle : Bool) (s : State) : Result :=
  s.core t fun d => d.sdoUploadSegment fd toggle

/-- SDO_DOWNLOAD_SEGMENT (R35). -/
def execSdoDownloadSegment (t : Nat) (fd : Bool) (toggle : Bool) (last : Bool) (data : List Byte) (x : Outside) (s : State)
: Result :=
  s.core t fun d => d.sdoSegment s.otp fd toggle last data x

/-- SDO_BLOCK_TRANSFER_REQUEST (R36). -/
def execSdoBlockTransferRequest (t : Nat) (fd : Bool) (idx : BitVec 16) (sub : BitVec 8) (s : State) : Result :=
  s.core t fun d => d.sdoBlock fd idx.toNat sub.toNat

/-- SDO_UNKNOWN_COMMAND (R36). -/
def execSdoUnknownCommand (t : Nat) (fd : Bool) (idx : BitVec 16) (sub : BitVec 8) (s : State) : Result :=
  s.core t fun d => d.sdoUnknown fd idx.toNat sub.toNat

/-- SDO_SEGMENT_TIMEOUT (R35). -/
def execSdoSegmentTimeout (t : Nat) (s : State) : Result :=
  s.core t fun d => d.sdoTimeout

/-- RACK_PROGRAM_COMPLETE (R48). -/
def execRackProgramComplete (t : Nat) (ok : Bool) (s : State) : Result :=
  s.core t fun d => d.rackWritten ok

/-- LAST_DISCARD_READ (R69). -/
def execLastDiscardRead (t : Nat) (tr : Transport) (s : State) : Result :=
  s.core t fun d => d.readTaken tr 0x2231 1

end Sys2Proof.Machine
end

