-- ==== Sys2Proof/Machine/CmdHost.lean ====
section
/-! DEFINITION. Meanings of the commands of the host ports, the bridge, the rings and the tunnels (chapter Host ports, bridge and tunnels). -/

namespace Sys2Proof.Machine

/-- HLB_LOCAL_ACCESS (R317). -/
def execHlbLocalAccess (t : Nat) (addr : Word32) (beats : Beats) (x : Outside) (s : State) : Result :=
  s.core t fun d => d.hlbLocal s.otp addr.toNat beats x

/-- DELAYED_WRITE_COMPLETE (R317). -/
def execDelayedWriteComplete (t : Nat) (k : Fin 4) (s : State) : Result :=
  s.core t fun d => d.delayedDone k.val

/-- DELAYED_WRITE_SLOT_EXPIRY (R317). -/
def execDelayedWriteSlotExpiry (t : Nat) (k : Fin 4) (s : State) : Result :=
  s.core t fun d => d.delayedExpiry k.val

/-- HLB_REMOTE_READ (R319). -/
def execHlbRemoteRead (t : Nat) (addr : Word32) (beats : Nat) (lock : Bool) (s : State) : Result :=
  s.core t fun d => d.hlbRead addr.toNat beats lock

/-- REMOTE_FETCH_COMPLETE (R319). -/
def execRemoteFetchComplete (t : Nat) (k : Fin 4) (result : Remote) (s : State) : Result :=
  s.core t fun d => d.fetchAnswered k.val result

/-- DELAYED_READ_ABANDON (R319). -/
def execDelayedReadAbandon (t : Nat) (k : Fin 4) (s : State) : Result :=
  s.core t fun d => d.readAbandoned k.val

/-- HLB_REMOTE_WRITE (R322). -/
def execHlbRemoteWrite (t : Nat) (addr : Word32) (beats : List (Nat × Nat)) (lock : Bool) (s : State) : Result :=
  s.core t fun d => d.hlbWrite addr.toNat beats lock

/-- POSTED_WRITE_COMPLETE (R322). -/
def execPostedWriteComplete (t : Nat) (w : Fin 8) (result : Remote) (s : State) : Result :=
  s.core t fun d => d.writeAnswered w.val result

/-- POSTED_WRITE_LOG_POP (R322). -/
def execPostedWriteLogPop (t : Nat) (tr : Transport) (s : State) : Result :=
  s.core t fun d => d.writeOd s.otp tr 0x2730 2 none 1 .quiet

/-- LOCK_SEQUENCE_END (R323). -/
def execLockSequenceEnd (t : Nat) (s : State) : Result :=
  s.core t fun d => d.lockEnd

/-- LOCK_TIMEOUT (R323). -/
def execLockTimeout (t : Nat) (s : State) : Result :=
  s.core t fun d => d.lockTimeout

/-- PCIE_BAR0_ACCESS (R325). -/
def execPcieBar0Access (t : Nat) (addr : Word32) (bytes : Nat) (write : Option (Word64 × Byte)) (x : Outside) (s : State) :
Result :=
  s.core t fun d => d.pcieAccess s.otp addr.toNat bytes (write.map (fun w => (w.1.toNat, w.2.toNat))) x

/-- MAILBOX_READ (R326). -/
def execMailboxRead (t : Nat) (w : Fin 8) (slot : Word32) (s : State) : Result :=
  s.core t fun d => d.bar fun d => d.mailboxStart w.val slot.toNat none

/-- MAILBOX_WRITE (R326). -/
def execMailboxWrite (t : Nat) (w : Fin 8) (slot : Word32) (v : Word64) (s : State) : Result :=
  s.core t fun d => d.bar fun d => d.mailboxStart w.val slot.toNat (some v.toNat)

/-- MAILBOX_COMPLETE (R326). -/
def execMailboxComplete (t : Nat) (result : Remote) (s : State) : Result :=
  s.core t fun d => d.mailboxAnswered result

/-- RING_ENABLE (R327). -/
def execRingEnable (t : Nat) (ring : Fin 64) (v : Word32) (s : State) : Result :=
  s.core t fun d => d.ringSwitch ring.val v.toNat true

/-- RING_DISABLE (R327). -/
def execRingDisable (t : Nat) (ring : Fin 64) (v : Word32) (s : State) : Result :=
  s.core t fun d => d.ringSwitch ring.val v.toNat false

/-- RING_PRODUCER_WRITE (R327). -/
def execRingProducerWrite (t : Nat) (ring : Fin 64) (v : BitVec 16) (sizes : List Nat) (s : State) : Result :=
  s.core t fun d => d.bar fun d => d.ringProducer ring.val v.toNat sizes

/-- HOST_TX_DESCRIPTOR_FETCH (R330). -/
def execHostTxDescriptorFetch (t : Nat) (ring : Fin 32) (desc : TxDesc) (s : State) : Result :=
  s.core t fun d => d.txFetch ring.val desc

/-- MSIX_HOLDOFF_EXPIRY (R332). -/
def execMsixHoldoffExpiry (t : Nat) (ring : Fin 64) (s : State) : Result :=
  s.core t fun d => d.holdoffExpiry ring.val

/-- TUNNEL_IDLE_GAP (R334). -/
def execTunnelIdleGap (t : Nat) (n : Fin 192) (s : State) : Result :=
  s.core t fun d => d.tunnelIdle n.val

/-- REMOTE_REQUEST_TIMEOUT (R318). -/
def execRemoteRequestTimeout (t : Nat) (use : RemoteUse) (s : State) : Result :=
  s.core t fun d => d.requestTimeout use

/-- RING_BASE_SIZE_WRITE (R327). -/
def execRingBaseSizeWrite (t : Nat) (ring : Fin 64) (offset : Fin 64) (v : Word32) (s : State) : Result :=
  s.core t fun d => d.bar fun d => d.ringBase ring.val offset.val v.toNat

/-- MSIX_VECTOR_UNMASK (R332). -/
def execMsixVectorUnmask (t : Nat) (v : Fin 32) (s : State) : Result :=
  s.core t fun d => d.bar fun d => d.vectorUnmask v.val

end Sys2Proof.Machine
end

