-- ==== Sys2Proof/Machine/CmdMirroring.lean ====
section
/-! DEFINITION. Meanings of the commands of mirroring, belay, cairns and darning (chapter Mirroring, belay, cairns and darning). -/

namespace Sys2Proof.Machine

/-- ADMIT_SEND_TIMER (R212). -/
def execAdmitSendTimer (t : Nat) (s : State) : Result :=
  s.core t fun d => d.admitTimer

/-- ADMIT_RECEIVED (R212). -/
def execAdmitReceived (t : Nat) (f : RopeFrame) (s : State) : Result :=
  s.core t fun d => d.admitReceived f Dev.foreignPair

/-- ACK_RECEIVED (R213). -/
def execAckReceived (t : Nat) (f : RopeFrame) (s : State) : Result :=
  s.core t fun d => d.ackReceived f Dev.foreignPair

/-- ADMIT_ACK_TIMEOUT (R212). -/
def execAdmitAckTimeout (t : Nat) (s : State) : Result :=
  s.core t fun d => d.admitTimeout

/-- RECORD_PENDING_EXPIRY (R214). -/
def execRecordPendingExpiry (t : Nat) (s : State) : Result :=
  s.core t fun d => d.pendingExpiry

/-- ORPHAN_JUDGE (R216). -/
def execOrphanJudge (t : Nat) (s : State) : Result :=
  s.core t fun d => d.orphanJudge

/-- CAIRN_RECEIVED (R220). -/
def execCairnReceived (t : Nat) (f : RopeFrame) (s : State) : Result :=
  s.core t fun d => d.cairnReceived f Dev.foreignPair

/-- CAIRN_MISSING (R221). -/
def execCairnMissing (t : Nat) (s : State) : Result :=
  s.core t fun d => d.cairnMissing

/-- MIRROR_DELTA_RECEIVED (R222). -/
def execMirrorDeltaReceived (t : Nat) (f : RopeFrame) (s : State) : Result :=
  s.core t fun d => d.deltaReceived f Dev.foreignPair

/-- DELTA_ACK_RECEIVED (R222). -/
def execDeltaAckReceived (t : Nat) (f : RopeFrame) (s : State) : Result :=
  s.core t fun d => d.deltaAckReceived f Dev.foreignPair

/-- DELTA_ACK_TIMEOUT (R222). -/
def execDeltaAckTimeout (t : Nat) (s : State) : Result :=
  s.core t fun d => d.deltaTimeout

/-- AUDIT_FRAME_RECEIVED (R223). -/
def execAuditFrameReceived (t : Nat) (f : RopeFrame) (s : State) : Result :=
  s.core t fun d => d.auditReceived f Dev.foreignPair

/-- SEGMENT_REQUEST_RECEIVED (R223). -/
def execSegmentRequestReceived (t : Nat) (f : RopeFrame) (s : State) : Result :=
  s.core t fun d => d.segmentRequest f Dev.foreignPair

/-- DARN_BEGIN_RECEIVED (R224). -/
def execDarnBeginReceived (t : Nat) (f : RopeFrame) (s : State) : Result :=
  s.core t fun d => d.darnBegin f Dev.foreignPair

/-- DARNING_SEGMENT_RECEIVED (R224). -/
def execDarningSegmentReceived (t : Nat) (f : RopeFrame) (s : State) : Result :=
  s.core t fun d => d.segmentReceived f Dev.foreignPair

/-- SEGMENT_ACK_RECEIVED (R224). -/
def execSegmentAckReceived (t : Nat) (f : RopeFrame) (s : State) : Result :=
  s.core t fun d => d.segmentAck f Dev.foreignPair

/-- DARN_END_RECEIVED (R224). -/
def execDarnEndReceived (t : Nat) (f : RopeFrame) (s : State) : Result :=
  s.core t fun d => d.darnEndReceived f Dev.foreignPair

/-- DARNING_COMPLETION_TIMEOUT (R442). -/
def execDarningCompletionTimeout (t : Nat) (s : State) : Result :=
  s.core t fun d => d.darnTimeout

/-- RELAYED_ITEM_RECEIVED (R70). -/
def execRelayedItemReceived (t : Nat) (f : RopeFrame) (s : State) : Result :=
  s.core t fun d => d.relayedReceived f Dev.foreignPair

/-- PATTERN_FRAME_TIMER (R229). -/
def execPatternFrameTimer (t : Nat) (s : State) : Result :=
  s.core t fun d => d.patternTimer

/-- PATTERN_FRAME_RECEIVED (R229). -/
def execPatternFrameReceived (t : Nat) (f : RopeFrame) (s : State) : Result :=
  s.core t fun d => d.patternReceived f Dev.foreignPair

/-- DARNING_SEGMENT_SEND (R224). -/
def execDarningSegmentSend (t : Nat) (s : State) : Result :=
  s.core t fun d => d.darnSend

end Sys2Proof.Machine
end

