-- ==== Sys2Proof/Machine/CmdOdAccess.lean ====
section
/-! DEFINITION. Meanings of the OD-access commands (chapter Datagram formats on the backbone). -/

namespace Sys2Proof.Machine

/-- OD_ACCESS_READ (R261). -/
def execOdAccessRead (t : Nat) (q : OdRequest) (s : State) : Result :=
  s.core t fun d => d.odRequest s.otp .read q .quiet

/-- OD_ACCESS_WRITE (R261). -/
def execOdAccessWrite (t : Nat) (q : OdRequest) (x : Outside) (s : State) : Result :=
  s.core t fun d => d.odRequest s.otp .write q x

/-- OD_ACCESS_DOMAIN_READ (R261). -/
def execOdAccessDomainRead (t : Nat) (q : OdRequest) (s : State) : Result :=
  s.core t fun d => d.odRequest s.otp .domainRead q .quiet

/-- OD_ACCESS_DOMAIN_WRITE (R261). -/
def execOdAccessDomainWrite (t : Nat) (q : OdRequest) (s : State) : Result :=
  s.core t fun d => d.odRequest s.otp .domainWrite q .quiet

/-- OD_ACCESS_DOMAIN_COMMIT (R261). -/
def execOdAccessDomainCommit (t : Nat) (q : OdRequest) (s : State) : Result :=
  s.core t fun d => d.odRequest s.otp .domainCommit q .quiet

/-- OD_ACCESS_DOMAIN_ABORT (R261). -/
def execOdAccessDomainAbort (t : Nat) (q : OdRequest) (s : State) : Result :=
  s.core t fun d => d.odRequest s.otp .domainAbort q .quiet

/-- OD_ACCESS_UNKNOWN_TYPE (R261). -/
def execOdAccessUnknownType (t : Nat) (q : OdRequest) (type : Byte) (s : State) : Result :=
  s.core t fun d => d.odUnknown s.otp type.toNat q

/-- OD_ACCESS_DOMAIN_TIMEOUT (R261). -/
def execOdAccessDomainTimeout (t : Nat) (s : State) : Result :=
  s.core t fun d => d.odTimeout

end Sys2Proof.Machine
end

