-- ==== Sys2Proof/Machine/CmdPath.lean ====
section
/-! DEFINITION. Meanings of the commands of the sentence path: lanes, tags, groups, ordering, custody, learning and commits (chapters The sentence path to Admission, custody and the rinse). -/

namespace Sys2Proof.Machine

/-- PARSE_LANE_DONE (R53). -/
def execParseLaneDone (t : Nat) (k : Fin 8) (s : State) : Result :=
  s.core t fun d => d.laneDone k.val

/-- TAG_ISSUE (R55). -/
def execTagIssue (t : Nat) (s : State) : Result :=
  s.core t fun d => d.tagIssue

/-- ITEM_STAGES_COMPLETE (R104). -/
def execItemStagesComplete (t : Nat) (tag : Nat) (s : State) : Result :=
  s.core t fun d => d.stagesComplete tag

/-- GROUP_DEADLINE_EXPIRY (R85). -/
def execGroupDeadlineExpiry (t : Nat) (src : Nat) (s : State) : Result :=
  s.core t fun d => d.groupExpiry src

/-- ORDER_RELEASE (R56). -/
def execOrderRelease (t : Nat) (tag : Nat) (virt : Bool) (s : State) : Result :=
  s.core t fun d => d.orderRelease tag virt

/-- HANDOVER (R65). -/
def execHandover (t : Nat) (cts : Nat) (s : State) : Result :=
  s.core t fun d => d.handover cts

/-- LEARN_SELECT (R106). -/
def execLearnSelect (t : Nat) (tr : Transport) (v : Byte) (s : State) : Result :=
  s.core t fun d => d.writeOd s.otp tr 0x2308 3 none v.toNat .quiet

/-- LEARN_CLEAR (R106). -/
def execLearnClear (t : Nat) (tr : Transport) (s : State) : Result :=
  s.core t fun d => d.writeOd s.otp tr 0x2308 9 none 1 .quiet

/-- COMMIT_TARGET_WRITE (R118). -/
def execCommitTargetWrite (t : Nat) (tr : Transport) (v : Word64) (s : State) : Result :=
  s.core t fun d => d.writeOd s.otp tr 0x2301 2 none v.toNat .quiet

/-- STAGED_LIST_DISCARD (R118). -/
def execStagedListDiscard (t : Nat) (tr : Transport) (s : State) : Result :=
  s.core t fun d => d.writeOd s.otp tr 0x2301 4 none 1 .quiet

end Sys2Proof.Machine
end

