-- ==== Sys2Proof/Machine/CmdPitch.lean ====
section
/-! DEFINITION. Meanings of the commands of the pitch engine and of the pitch, leg and hem boundaries (chapters Pitch, legs and stamping, and Admission, custody and the rinse). -/

namespace Sys2Proof.Machine

/-- PITCH_BOUNDARY (R140). -/
def execPitchBoundary (t : Nat) (s : State) : Result :=
  s.run t fun d => d.pitchBoundary

/-- LEG_BOUNDARY (R158). -/
def execLegBoundary (t : Nat) (s : State) : Result :=
  s.core t fun d => d.legBoundary

/-- HEM_START (R174). -/
def execHemStart (t : Nat) (s : State) : Result :=
  s.core t fun d => d.hemStart

/-- PULSE_EDGE (R143). -/
def execPulseEdge (t : Nat) (high : Nat) (s : State) : Result :=
  s.core t fun d => d.pulseEdge high

/-- QUAD_COUNT_EDGE (R146). -/
def execQuadCountEdge (t : Nat) (astern : Bool) (s : State) : Result :=
  s.core t fun d => d.quadCount astern

/-- QUAD_INDEX (R146). -/
def execQuadIndex (t : Nat) (s : State) : Result :=
  s.core t fun d => d.quadIndex

/-- SOURCE_QUALIFIED (R147). -/
def execSourceQualified (t : Nat) (source : Fin 4) (s : State) : Result :=
  s.core t fun d => d.sourceQualified source.val

/-- SOURCE_DEADLINE (R144). -/
def execSourceDeadline (t : Nat) (s : State) : Result :=
  s.core t fun d => d.sourceDeadline

/-- HOLDOVER_COUNT_REACHED (R144). -/
def execHoldoverCountReached (t : Nat) (s : State) : Result :=
  s.core t fun d => d.holdoverReached

/-- SLIP_PITCH_END (R145). -/
def execSlipPitchEnd (t : Nat) (s : State) : Result :=
  s.core t fun d => d.slipPitchEnd

/-- SLIP_WINDOW_CLOSE (R145). -/
def execSlipWindowClose (t : Nat) (s : State) : Result :=
  s.core t fun d => d.slipWindowClose

/-- BEACON_RECEIVED (R152). -/
def execBeaconReceived (t : Nat) (p : Fin 4) (payload : List Byte) (sfd : Nat) (s : State) : Result :=
  s.core t fun d => d.beaconReceived p.val payload sfd

/-- MASTER_BEACON_DUE (R151). -/
def execMasterBeaconDue (t : Nat) (s : State) : Result :=
  s.core t fun d => d.masterBeaconDue

/-- PITCH_OUT_EDGE (R155). -/
def execPitchOutEdge (t : Nat) (rising : Bool) (s : State) : Result :=
  s.core t fun d => d.pitchOutEdge rising

end Sys2Proof.Machine
end

