-- ==== Sys2Proof/Machine/CmdRecords.lean ====
section
/-! DEFINITION. Meanings of the commands of the lease ledger and the logbook (chapters Lease ledger, and Logbook, counters and histograms). -/

namespace Sys2Proof.Machine

/-- LEDGER_INTERVAL_CLOSE (R396). -/
def execLedgerIntervalClose (t : Nat) (s : State) : Result :=
  s.core t fun d => d.ledClose

/-- LEDGER_RECORD_SIGNED (R398). -/
def execLedgerRecordSigned (t : Nat) (s : State) : Result :=
  s.core t fun d => d.ledSigned

/-- SNAPSHOT_INTERVAL_EXPIRY (R408). -/
def execSnapshotIntervalExpiry (t : Nat) (s : State) : Result :=
  s.core t fun d => d.snapInterval

/-- SNAPSHOT_REQUEST (R408). -/
def execSnapshotRequest (t : Nat) (tr : Transport) (s : State) : Result :=
  s.core t fun d => d.writeOd s.otp tr 0x2A00 2 none 1 .quiet

/-- SNAPSHOT_COMPLETE (R408). -/
def execSnapshotComplete (t : Nat) (fault : Option Nat) (s : State) : Result :=
  s.core t fun d => d.snapComplete fault

/-- HISTOGRAM_SELECT (R414). -/
def execHistogramSelect (t : Nat) (tr : Transport) (v : Byte) (s : State) : Result :=
  s.core t fun d => d.writeOd s.otp tr 0x2A02 1 none v.toNat .quiet

/-- EXPORT_SNAPSHOT (R415). -/
def execExportSnapshot (t : Nat) (tr : Transport) (s : State) : Result :=
  s.core t fun d => d.exportTaken tr

/-- SCRUB_PASS (R416). -/
def execScrubPass (t : Nat) (corrected : Nat) (bad : List (Nat × ScrubAt)) (s : State) : Result :=
  s.core t fun d => d.scrubPass corrected bad

/-- DWELL_SECOND (R407). -/
def execDwellSecond (t : Nat) (core : Nat) (sram : Nat) (s : State) : Result :=
  s.core t fun d => d.dwellSecond core sram

end Sys2Proof.Machine
end

