-- ==== Sys2Proof/Machine/CmdScan.lean ====
section
/-! DEFINITION. Meanings of the commands of the boundary-scan port (chapter Loop modes and boundary scan). -/

namespace Sys2Proof.Machine

/-- TAP_RESET (R425). -/
def execTapReset (t : Nat) (s : State) : Result :=
  s.run t fun d => d.tapReset

/-- BYPASS (R425). -/
def execBypass (t : Nat) (s : State) : Result :=
  s.run t fun d => d.tapBypass

/-- IDCODE (R425). -/
def execIdcode (t : Nat) (s : State) : Result :=
  s.run t fun d => d.tapIdcode

/-- SAMPLE_PRELOAD (R425). -/
def execSamplePreload (t : Nat) (pins : List Bool) (cells : List Bool) (s : State) : Result :=
  s.run t fun d => d.tapSample pins cells

/-- EXTEST (R426). -/
def execExtest (t : Nat) (pins : List Bool) (s : State) : Result :=
  s.run t fun d => d.tapExtest pins

/-- CLAMP (R426). -/
def execClamp (t : Nat) (s : State) : Result :=
  s.run t fun d => d.tapHold .clamp 0 true

/-- HIGHZ (R426). -/
def execHighz (t : Nat) (s : State) : Result :=
  s.run t fun d => d.tapHold .highz 0 false

/-- EXTEST_PULSE (R427). -/
def execExtestPulse (t : Nat) (pins : List Bool) (s : State) : Result :=
  s.run t fun d => d.tapPulse .extestPulse pins

/-- EXTEST_TRAIN (R427). -/
def execExtestTrain (t : Nat) (pins : List Bool) (s : State) : Result :=
  s.run t fun d => d.tapPulse .extestTrain pins

end Sys2Proof.Machine
end

