-- ==== Sys2Proof/Machine/CmdSecurity.lean ====
section
/-! DEFINITION. Meanings of the commands of keys, life cycle and tamper response (chapter Life cycle, key vault and tamper response). -/

namespace Sys2Proof.Machine

/-- TRANSITION_COMPLETE (R371 to R373): the fuses are burnt to the new state with the salt drawn for it, or a row is spent in
a fuse write that fails. Only a running transition has an effect. -/
def execTransitionComplete (t : Nat) (fuseFails : Bool) (salt : Nat) (e : BootEnv) (s : State) : Result :=
  match s.dev.vault.transition with
  | none => s.core t fun d => d
  | some x =>
    if s.dev.coreOn then
      let o := s.otp.transition x fuseFails salt
      .next { s with otp := o, dev := Dev.settle o s.dev ((s.at t).transitionEnd o fuseFails e) }
    else s.core t fun d => d

/-- KEY_IMPORT_COMPLETE (R379). -/
def execKeyImportComplete (t : Nat) (s : State) : Result :=
  s.core t fun d => d.importDone

/-- SLOT_ERASE (R381). -/
def execSlotErase (t : Nat) (tr : Transport) (v : Byte) (s : State) : Result :=
  s.core t fun d => d.writeOd s.otp tr 0x2811 1 none v.toNat .quiet

/-- CHALLENGE_START (R383). -/
def execChallengeStart (t : Nat) (tr : Transport) (s : State) : Result :=
  s.core t fun d => d.writeOd s.otp tr 0x2830 3 none 1 .quiet

/-- CHALLENGE_COMPLETE (R383). -/
def execChallengeComplete (t : Nat) (s : State) : Result :=
  s.core t fun d => d.challengeDone

/-- TAMPER_ALARM (R385). -/
def execTamperAlarm (t : Nat) (source : Fin 8) (copyA : Bool) (fused : Bool) (s : State) : Result :=
  s.run t fun d => d.tamper source.val copyA fused

/-- TAMPER_LATCH_CLEAR (R388). -/
def execTamperLatchClear (t : Nat) (tr : Transport) (v : Byte) (alarming : Nat) (s : State) : Result :=
  s.core t fun d => d.writeOd s.otp tr 0x2820 4 none v.toNat { Outside.quiet with alarming := alarming }

end Sys2Proof.Machine
end

