-- ==== Sys2Proof/Machine/CmdSerialLines.lean ====
section
/-! DEFINITION. Meanings of the commands of the serial channels (chapter Asynchronous serial channels). -/

namespace Sys2Proof.Machine

/-- SERIAL_CHAR_DECIDED (R273). -/
def execSerialCharDecided (t : Nat) (n : Fin 192) (samples : List Bool) (edge : Nat) (s : State) : Result :=
  s.run t fun d => d.serDecided n.val samples edge

/-- LINE_STUCK_ENTRY (R274). -/
def execLineStuckEntry (t : Nat) (n : Fin 192) (edge : Nat) (s : State) : Result :=
  s.run t fun d => d.lineStuck n.val edge

/-- LINE_STUCK_EXIT (R274). -/
def execLineStuckExit (t : Nat) (n : Fin 192) (edge : Nat) (s : State) : Result :=
  s.run t fun d => d.lineFree n.val edge

/-- BAUD_WRITE (R275). -/
def execBaudWrite (t : Nat) (tr : Transport) (n : Fin 192) (v : Word32) (rxBusy : Bool) (s : State) : Result :=
  s.core t fun d => d.writeOd s.otp tr (0x3000 + n.val) 2 none v.toNat { Outside.quiet with rxBusy := rxBusy }

/-- RX_STATUS_READ (R279). -/
def execRxStatusRead (t : Nat) (tr : Transport) (n : Fin 192) (s : State) : Result :=
  s.core t fun d => d.readTaken tr (0x3000 + n.val) 0x10

/-- RX_DATA_READ (R279). -/
def execRxDataRead (t : Nat) (tr : Transport) (n : Fin 192) (s : State) : Result :=
  s.core t fun d => d.readTaken tr (0x3000 + n.val) 0x11

/-- TX_DATA_WRITE (R286). -/
def execTxDataWrite (t : Nat) (tr : Transport) (n : Fin 192) (v : BitVec 16) (cts : Bool) (s : State) : Result :=
  s.core t fun d => d.writeOd s.otp tr (0x3000 + n.val) 0x13 none v.toNat { Outside.quiet with cts := some cts }

/-- SERIAL_CHAR_SENT (R281). -/
def execSerialCharSent (t : Nat) (n : Fin 192) (cts : Bool) (s : State) : Result :=
  s.core t fun d => d.serSent n.val cts

/-- SERIAL_COLLISION (R284). -/
def execSerialCollision (t : Nat) (n : Fin 192) (s : State) : Result :=
  s.core t fun d => d.serCollision n.val

/-- COLLISION_RETRY_TIMER (R285). -/
def execCollisionRetryTimer (t : Nat) (n : Fin 192) (cts : Bool) (s : State) : Result :=
  s.core t fun d => d.retryTimer n.val cts

/-- SERIAL_START_EDGE_WAKE (R288). -/
def execSerialStartEdgeWake (t : Nat) (n : Fin 192) (s : State) : Result :=
  s.run t fun d => d.serEdgeWake n.val

/-- SERIAL_HEADER_WAKE (R289). -/
def execSerialHeaderWake (t : Nat) (n : Fin 192) (s : State) : Result :=
  s.run t fun d => d.serMatchWake n.val 2

/-- SERIAL_ADDRESS_WAKE (R289). -/
def execSerialAddressWake (t : Nat) (n : Fin 192) (s : State) : Result :=
  s.run t fun d => d.serMatchWake n.val 3

/-- WAKE_BUFFER_HANDOVER (R290). -/
def execWakeBufferHandover (t : Nat) (n : Fin 192) (s : State) : Result :=
  s.core t fun d => d.wakeHandover n.val

/-- CTS_ASSERTED (R282). -/
def execCtsAsserted (t : Nat) (n : Fin 192) (s : State) : Result :=
  s.core t fun d => d.ctsAsserted n.val

/-- DE_RELEASE (R283). -/
def execDeRelease (t : Nat) (n : Fin 192) (s : State) : Result :=
  s.core t fun d => d.deRelease n.val

end Sys2Proof.Machine
end

