-- ==== Sys2Proof/Machine/CmdTeam.lean ====
section
/-! DEFINITION. Meanings of the commands of the rope team: roles, paths, claims, discrete outputs and mode changes (chapter Rope team roles and failover). -/

namespace Sys2Proof.Machine

/-- JOIN_WINDOW_EXPIRY (R191). -/
def execJoinWindowExpiry (t : Nat) (s : State) : Result :=
  s.core t fun d => d.joinExpiry

/-- HELLO_RECEIVED (R184). -/
def execHelloReceived (t : Nat) (f : RopeFrame) (s : State) : Result :=
  s.core t fun d => d.helloReceived f

/-- HEARTBEAT_RECEIVED (R442). -/
def execHeartbeatReceived (t : Nat) (f : RopeFrame) (s : State) : Result :=
  s.core t fun d => d.heartbeatReceived f

/-- HELLO_TIMER (R183). -/
def execHelloTimer (t : Nat) (s : State) : Result :=
  s.core t fun d => d.helloTimer

/-- HEARTBEAT_TIMER (R183). -/
def execHeartbeatTimer (t : Nat) (s : State) : Result :=
  s.core t fun d => d.heartbeatTimer

/-- ROPE_PRESENT (R188). -/
def execRopePresent (t : Nat) (s : State) : Result :=
  s.core t fun d => d.ropePresent

/-- ROPE_LOST (R188). -/
def execRopeLost (t : Nat) (linkDown : Bool) (s : State) : Result :=
  s.core t fun d => d.ropeSilent linkDown

/-- ALIVE_LOST (R188). -/
def execAliveLost (t : Nat) (edge : Nat) (s : State) : Result :=
  s.core t fun d => d.aliveLost edge

/-- ALIVE_PRESENT (R188). -/
def execAlivePresent (t : Nat) (s : State) : Result :=
  s.core t fun d => d.alivePresent

/-- CLAIM_RELEASED (R188). -/
def execClaimReleased (t : Nat) (s : State) : Result :=
  s.core t fun d => d.claimReleased

/-- CLAIM_ASSERTED (R192). -/
def execClaimAsserted (t : Nat) (s : State) : Result :=
  s.core t fun d => d.claimAsserted

/-- BACKBONE_HEARTBEAT_LOST (R188). -/
def execBackboneHeartbeatLost (t : Nat) (s : State) : Result :=
  s.core t fun d => d.backboneSilent

/-- CLAIM_SAMPLE (R194). -/
def execClaimSample (t : Nat) (asserted : Bool) (s : State) : Result :=
  s.core t fun d => d.claimSample asserted

/-- JOIN_RETRY (R194). -/
def execJoinRetry (t : Nat) (s : State) : Result :=
  s.core t fun d => d.joinRetry

/-- PROGRESS_LOST (R185). -/
def execProgressLost (t : Nat) (s : State) : Result :=
  s.core t fun d => d.progressLost

/-- DISCRETE_STATE_WRITE (R199). -/
def execDiscreteStateWrite (t : Nat) (tr : Transport) (n : Fin 16) (v : Byte) (s : State) : Result :=
  s.core t fun d => d.writeOd s.otp tr (0x3300 + n.val) 1 none v.toNat .quiet

/-- DISCRETE_PULSE_END (R199). -/
def execDiscretePulseEnd (t : Nat) (n : Fin 16) (s : State) : Result :=
  s.core t fun d => d.pulseEnd n.val

/-- HELD_PULSE_START (R199). -/
def execHeldPulseStart (t : Nat) (n : Fin 16) (s : State) : Result :=
  s.core t fun d => d.heldStart n.val

/-- TEAM_MODE_CHANGE_REQUEST (R202). -/
def execTeamModeChangeRequest (t : Nat) (tr : Transport) (target : Word64) (s : State) : Result :=
  s.core t fun d => d.modeWrite s.otp tr 0 target.toNat

/-- DOMAIN_MODE_CHANGE_REQUEST (R203). -/
def execDomainModeChangeRequest (t : Nat) (tr : Transport) (target : Word64) (s : State) : Result :=
  s.core t fun d => d.modeWrite s.otp tr 1 target.toNat

/-- MODE_RELAY_RECEIVED (R202). -/
def execModeRelayReceived (t : Nat) (f : RopeFrame) (s : State) : Result :=
  s.core t fun d => d.modeRelay f

/-- MODE_ACK_RECEIVED (R202). -/
def execModeAckReceived (t : Nat) (f : RopeFrame) (s : State) : Result :=
  s.core t fun d => d.modeAck f

/-- ALIVE_OUT_TOGGLE (R185). -/
def execAliveOutToggle (t : Nat) (s : State) : Result :=
  s.core t fun d => d.aliveToggle

end Sys2Proof.Machine
end

