-- ==== Sys2Proof/Machine/CmdUnit.lean ====
section
/-! DEFINITION. Meanings of the commands of the whole unit: device states, power states, the temperature monitor, supplies and resets (chapters Power states, device states and start-up, and Clocks, resets and the counter base). -/

namespace Sys2Proof.Machine

/-- ENTER_CONFIG (R38). -/
def execEnterConfig (t : Nat) (tr : Transport) (s : State) : Result :=
  s.core t fun d => d.writeOd s.otp tr 0x2000 2 none 2 .quiet

/-- CONFIG_ENTRY (R38). -/
def execConfigEntry (t : Nat) (s : State) : Result :=
  s.core t fun d => d.configEntry

/-- LEAVE_CONFIG (R38). -/
def execLeaveConfig (t : Nat) (tr : Transport) (s : State) : Result :=
  s.core t fun d => d.writeOd s.otp tr 0x2000 2 none 3 .quiet

/-- SERVICE_RESUME (R38). -/
def execServiceResume (t : Nat) (s : State) : Result :=
  s.core t fun d => d.serviceResume

/-- REBOOT_FROM_RACK (R37). -/
def execRebootFromRack (t : Nat) (tr : Transport) (e : BootEnv) (s : State) : Result :=
  s.core t fun d => d.writeOd s.otp tr 0x2000 2 none 0x10 (.ofBoot e)

/-- ALERT_CLEAR (R40). -/
def execAlertClear (t : Nat) (code : Nat) (s : State) : Result :=
  s.core t fun d => d.alertClear code

/-- PORST_N_RELEASE (R349). -/
def execPorstNRelease (t : Nat) (e : BootEnv) (s : State) : Result :=
  s.run t fun d => d.porstRelease s.otp e

/-- POWER_REQUEST_RUN (R339). -/
def execPowerRequestRun (t : Nat) (tr : Transport) (s : State) : Result :=
  s.core t fun d => d.writeOd s.otp tr 0x2001 1 none 1 .quiet

/-- POWER_REQUEST_TRIM (R343). -/
def execPowerRequestTrim (t : Nat) (tr : Transport) (s : State) : Result :=
  s.core t fun d => d.writeOd s.otp tr 0x2001 1 none 2 .quiet

/-- POWER_REQUEST_BIVOUAC (R344). -/
def execPowerRequestBivouac (t : Nat) (tr : Transport) (s : State) : Result :=
  s.core t fun d => d.writeOd s.otp tr 0x2001 1 none 3 .quiet

/-- POWER_REQUEST_SHELTER (R344). -/
def execPowerRequestShelter (t : Nat) (tr : Transport) (s : State) : Result :=
  s.core t fun d => d.writeOd s.otp tr 0x2001 1 none 4 .quiet

/-- PWR_REQ_PIN_REQUEST (R340). -/
def execPwrReqPinRequest (t : Nat) (code : Fin 4) (s : State) : Result :=
  s.run t fun d => d.pinRequest code.val

/-- LOW_POWER_ENTRY (R344). -/
def execLowPowerEntry (t : Nat) (done : Nat) (s : State) : Result :=
  s.core t fun d => d.lowPower done

/-- WAKE_COMMAND (R347). -/
def execWakeCommand (t : Nat) (code : Fin 4) (e : BootEnv) (s : State) : Result :=
  s.run t fun d => d.wakeCommand s.otp code.val e

/-- PIN_SHELTER (R340). -/
def execPinShelter (t : Nat) (s : State) : Result :=
  s.run t fun d => d.pinShelter

/-- THERM_ASSERT (R350). -/
def execThermAssert (t : Nat) (tj : Int) (s : State) : Result :=
  s.run t fun d => d.thermAssert tj

/-- THERM_RELEASE (R350). -/
def execThermRelease (t : Nat) (tj : Int) (s : State) : Result :=
  s.run t fun d => d.thermRelease tj

/-- THERMAL_TRIP (R350). -/
def execThermalTrip (t : Nat) (tj : Int) (s : State) : Result :=
  s.run t fun d => d.thermalTrip tj

/-- BROWN_OUT (R351). -/
def execBrownOut (t : Nat) (rails : Nat) (trip : Option Int) (s : State) : Result :=
  s.run t fun d => d.brownOut rails trip

/-- BROWN_OUT_RECOVERY (R351). -/
def execBrownOutRecovery (t : Nat) (e : BootEnv) (s : State) : Result :=
  s.run t fun d => d.brownRecovery s.otp e

/-- PORST_N_LOW (R364). -/
def execPorstNLow (t : Nat) (s : State) : Result :=
  s.run t fun d => d.porstLow

/-- SYSRST_N_LOW (R364). -/
def execSysrstNLow (t : Nat) (e : BootEnv) (s : State) : Result :=
  s.run t fun d => d.sysReset s.otp e

/-- VDD_KA_RESTORE (R364). -/
def execVddKaRestore (t : Nat) (e : BootEnv) (s : State) : Result :=
  s.run t fun d => d.kaRestore s.otp e

/-- VDD_KA_LOSS (R364). -/
def execVddKaLoss (t : Nat) (s : State) : Result :=
  s.run t fun d => d.kaLoss

/-- TEMPERATURE_SAMPLE (R439). -/
def execTemperatureSample (t : Nat) (tj : Int) (s : State) : Result :=
  s.run t fun d => d.tempSample tj

/-- BOOT_THERMAL_HOLD_END (R349). -/
def execBootThermalHoldEnd (t : Nat) (tj : Int) (e : BootEnv) (s : State) : Result :=
  s.run t fun d => d.holdEnd s.otp tj e

end Sys2Proof.Machine
end

