-- ==== Sys2Proof/Machine/Dispatch.lean ====
section
/-! DEFINITION. Every command and its meaning. -/

namespace Sys2Proof.Machine

def exec (i : Instr) (s : State) : Host.Outcome State Fault Refusal :=
  match i with
  | .odWrite t tr idx sub size v x => Sys2Proof.Machine.execOdWrite t tr idx sub size v x s
  | .heldLowWordDiscard t tr => Sys2Proof.Machine.execHeldLowWordDiscard t tr s
  | .lowWordReadSnapshot t tr idx sub => Sys2Proof.Machine.execLowWordReadSnapshot t tr idx sub s
  | .domainTargetWrite t tr v => Sys2Proof.Machine.execDomainTargetWrite t tr v s
  | .domainDataWrite t tr v => Sys2Proof.Machine.execDomainDataWrite t tr v s
  | .domainDataRead t tr => Sys2Proof.Machine.execDomainDataRead t tr s
  | .domainCommit t tr => Sys2Proof.Machine.execDomainCommit t tr s
  | .domainDiscard t tr => Sys2Proof.Machine.execDomainDiscard t tr s
  | .domainPortTimeout t tr => Sys2Proof.Machine.execDomainPortTimeout t tr s
  | .accessBlockClaim t tr tbl => Sys2Proof.Machine.execAccessBlockClaim t tr tbl s
  | .accessBlockRelease t tr tbl => Sys2Proof.Machine.execAccessBlockRelease t tr tbl s
  | .accessBlockOwnerTimeout t tbl => Sys2Proof.Machine.execAccessBlockOwnerTimeout t tbl s
  | .tableReadRow t tr tbl => Sys2Proof.Machine.execTableReadRow t tr tbl s
  | .tableStageRow t tr tbl => Sys2Proof.Machine.execTableStageRow t tr tbl s
  | .tableStageEmpty t tr tbl => Sys2Proof.Machine.execTableStageEmpty t tr tbl s
  | .sdoExpeditedUpload t fd idx sub => Sys2Proof.Machine.execSdoExpeditedUpload t fd idx sub s
  | .sdoExpeditedDownload t fd idx sub size v x => Sys2Proof.Machine.execSdoExpeditedDownload t fd idx sub size v x s
  | .sdoSegmentedUploadInitiate t fd idx sub => Sys2Proof.Machine.execSdoSegmentedUploadInitiate t fd idx sub s
  | .sdoSegmentedDownloadInitiate t fd idx sub size => Sys2Proof.Machine.execSdoSegmentedDownloadInitiate t fd idx sub size s
  | .sdoUploadSegment t fd toggle => Sys2Proof.Machine.execSdoUploadSegment t fd toggle s
  | .sdoDownloadSegment t fd toggle last data x => Sys2Proof.Machine.execSdoDownloadSegment t fd toggle last data x s
  | .sdoBlockTransferRequest t fd idx sub => Sys2Proof.Machine.execSdoBlockTransferRequest t fd idx sub s
  | .sdoUnknownCommand t fd idx sub => Sys2Proof.Machine.execSdoUnknownCommand t fd idx sub s
  | .sdoSegmentTimeout t => Sys2Proof.Machine.execSdoSegmentTimeout t s
  | .enterConfig t tr => Sys2Proof.Machine.execEnterConfig t tr s
  | .configEntry t => Sys2Proof.Machine.execConfigEntry t s
  | .leaveConfig t tr => Sys2Proof.Machine.execLeaveConfig t tr s
  | .serviceResume t => Sys2Proof.Machine.execServiceResume t s
  | .rebootFromRack t tr e => Sys2Proof.Machine.execRebootFromRack t tr e s
  | .alertClear t code => Sys2Proof.Machine.execAlertClear t code s
  | .rackProgramComplete t ok => Sys2Proof.Machine.execRackProgramComplete t ok s
  | .porstNRelease t e => Sys2Proof.Machine.execPorstNRelease t e s
  | .joinWindowExpiry t => Sys2Proof.Machine.execJoinWindowExpiry t s
  | .parseLaneDone t k => Sys2Proof.Machine.execParseLaneDone t k s
  | .tagIssue t => Sys2Proof.Machine.execTagIssue t s
  | .itemStagesComplete t tag => Sys2Proof.Machine.execItemStagesComplete t tag s
  | .groupDeadlineExpiry t src => Sys2Proof.Machine.execGroupDeadlineExpiry t src s
  | .orderRelease t tag virt => Sys2Proof.Machine.execOrderRelease t tag virt s
  | .handover t cts => Sys2Proof.Machine.execHandover t cts s
  | .learnSelect t tr v => Sys2Proof.Machine.execLearnSelect t tr v s
  | .learnClear t tr => Sys2Proof.Machine.execLearnClear t tr s
  | .commitTargetWrite t tr v => Sys2Proof.Machine.execCommitTargetWrite t tr v s
  | .stagedListDiscard t tr => Sys2Proof.Machine.execStagedListDiscard t tr s
  | .pitchBoundary t => Sys2Proof.Machine.execPitchBoundary t s
  | .legBoundary t => Sys2Proof.Machine.execLegBoundary t s
  | .hemStart t => Sys2Proof.Machine.execHemStart t s
  | .pulseEdge t high => Sys2Proof.Machine.execPulseEdge t high s
  | .quadCountEdge t astern => Sys2Proof.Machine.execQuadCountEdge t astern s
  | .quadIndex t => Sys2Proof.Machine.execQuadIndex t s
  | .sourceQualified t source => Sys2Proof.Machine.execSourceQualified t source s
  | .sourceDeadline t => Sys2Proof.Machine.execSourceDeadline t s
  | .holdoverCountReached t => Sys2Proof.Machine.execHoldoverCountReached t s
  | .slipPitchEnd t => Sys2Proof.Machine.execSlipPitchEnd t s
  | .slipWindowClose t => Sys2Proof.Machine.execSlipWindowClose t s
  | .beaconReceived t p payload sfd => Sys2Proof.Machine.execBeaconReceived t p payload sfd s
  | .masterBeaconDue t => Sys2Proof.Machine.execMasterBeaconDue t s
  | .gateOpen t p entry => Sys2Proof.Machine.execGateOpen t p entry s
  | .gateClose t p entry => Sys2Proof.Machine.execGateClose t p entry s
  | .portFrameEnd t p => Sys2Proof.Machine.execPortFrameEnd t p s
  | .pauseFrameReceived t p quanta => Sys2Proof.Machine.execPauseFrameReceived t p quanta s
  | .pauseExpiry t p => Sys2Proof.Machine.execPauseExpiry t p s
  | .pauseCeilingReached t p => Sys2Proof.Machine.execPauseCeilingReached t p s
  | .helloReceived t f => Sys2Proof.Machine.execHelloReceived t f s
  | .heartbeatReceived t f => Sys2Proof.Machine.execHeartbeatReceived t f s
  | .helloTimer t => Sys2Proof.Machine.execHelloTimer t s
  | .heartbeatTimer t => Sys2Proof.Machine.execHeartbeatTimer t s
  | .ropePresent t => Sys2Proof.Machine.execRopePresent t s
  | .ropeLost t linkDown => Sys2Proof.Machine.execRopeLost t linkDown s
  | .aliveLost t edge => Sys2Proof.Machine.execAliveLost t edge s
  | .alivePresent t => Sys2Proof.Machine.execAlivePresent t s
  | .claimReleased t => Sys2Proof.Machine.execClaimReleased t s
  | .claimAsserted t => Sys2Proof.Machine.execClaimAsserted t s
  | .backboneHeartbeatLost t => Sys2Proof.Machine.execBackboneHeartbeatLost t s
  | .claimSample t asserted => Sys2Proof.Machine.execClaimSample t asserted s
  | .joinRetry t => Sys2Proof.Machine.execJoinRetry t s
  | .progressLost t => Sys2Proof.Machine.execProgressLost t s
  | .discreteStateWrite t tr n v => Sys2Proof.Machine.execDiscreteStateWrite t tr n v s
  | .discretePulseEnd t n => Sys2Proof.Machine.execDiscretePulseEnd t n s
  | .heldPulseStart t n => Sys2Proof.Machine.execHeldPulseStart t n s
  | .teamModeChangeRequest t tr target => Sys2Proof.Machine.execTeamModeChangeRequest t tr target s
  | .domainModeChangeRequest t tr target => Sys2Proof.Machine.execDomainModeChangeRequest t tr target s
  | .modeRelayReceived t f => Sys2Proof.Machine.execModeRelayReceived t f s
  | .modeAckReceived t f => Sys2Proof.Machine.execModeAckReceived t f s
  | .admitSendTimer t => Sys2Proof.Machine.execAdmitSendTimer t s
  | .admitReceived t f => Sys2Proof.Machine.execAdmitReceived t f s
  | .ackReceived t f => Sys2Proof.Machine.execAckReceived t f s
  | .admitAckTimeout t => Sys2Proof.Machine.execAdmitAckTimeout t s
  | .recordPendingExpiry t => Sys2Proof.Machine.execRecordPendingExpiry t s
  | .orphanJudge t => Sys2Proof.Machine.execOrphanJudge t s
  | .cairnReceived t f => Sys2Proof.Machine.execCairnReceived t f s
  | .cairnMissing t => Sys2Proof.Machine.execCairnMissing t s
  | .mirrorDeltaReceived t f => Sys2Proof.Machine.execMirrorDeltaReceived t f s
  | .deltaAckReceived t f => Sys2Proof.Machine.execDeltaAckReceived t f s
  | .deltaAckTimeout t => Sys2Proof.Machine.execDeltaAckTimeout t s
  | .auditFrameReceived t f => Sys2Proof.Machine.execAuditFrameReceived t f s
  | .segmentRequestReceived t f => Sys2Proof.Machine.execSegmentRequestReceived t f s
  | .darnBeginReceived t f => Sys2Proof.Machine.execDarnBeginReceived t f s
  | .darningSegmentReceived t f => Sys2Proof.Machine.execDarningSegmentReceived t f s
  | .segmentAckReceived t f => Sys2Proof.Machine.execSegmentAckReceived t f s
  | .darnEndReceived t f => Sys2Proof.Machine.execDarnEndReceived t f s
  | .darningCompletionTimeout t => Sys2Proof.Machine.execDarningCompletionTimeout t s
  | .relayedItemReceived t f => Sys2Proof.Machine.execRelayedItemReceived t f s
  | .patternFrameTimer t => Sys2Proof.Machine.execPatternFrameTimer t s
  | .patternFrameReceived t f => Sys2Proof.Machine.execPatternFrameReceived t f s
  | .backboneFrameReceived t p bytes sfd codeError x => Sys2Proof.Machine.execBackboneFrameReceived t p bytes sfd codeError x s
  | .linkUp t p status => Sys2Proof.Machine.execLinkUp t p status s
  | .linkDown t p => Sys2Proof.Machine.execLinkDown t p s
  | .stampPop t tr p => Sys2Proof.Machine.execStampPop t tr p s
  | .whistleFrame t p bytes sfd codeError => Sys2Proof.Machine.execWhistleFrame t p bytes sfd codeError s
  | .odAccessRead t q => Sys2Proof.Machine.execOdAccessRead t q s
  | .odAccessWrite t q x => Sys2Proof.Machine.execOdAccessWrite t q x s
  | .odAccessDomainRead t q => Sys2Proof.Machine.execOdAccessDomainRead t q s
  | .odAccessDomainWrite t q => Sys2Proof.Machine.execOdAccessDomainWrite t q s
  | .odAccessDomainCommit t q => Sys2Proof.Machine.execOdAccessDomainCommit t q s
  | .odAccessDomainAbort t q => Sys2Proof.Machine.execOdAccessDomainAbort t q s
  | .odAccessUnknownType t q type => Sys2Proof.Machine.execOdAccessUnknownType t q type s
  | .odAccessDomainTimeout t => Sys2Proof.Machine.execOdAccessDomainTimeout t s
  | .serialCharDecided t n samples edge => Sys2Proof.Machine.execSerialCharDecided t n samples edge s
  | .lineStuckEntry t n edge => Sys2Proof.Machine.execLineStuckEntry t n edge s
  | .lineStuckExit t n edge => Sys2Proof.Machine.execLineStuckExit t n edge s
  | .baudWrite t tr n v rxBusy => Sys2Proof.Machine.execBaudWrite t tr n v rxBusy s
  | .rxStatusRead t tr n => Sys2Proof.Machine.execRxStatusRead t tr n s
  | .rxDataRead t tr n => Sys2Proof.Machine.execRxDataRead t tr n s
  | .txDataWrite t tr n v cts => Sys2Proof.Machine.execTxDataWrite t tr n v cts s
  | .serialCharSent t n cts => Sys2Proof.Machine.execSerialCharSent t n cts s
  | .serialCollision t n => Sys2Proof.Machine.execSerialCollision t n s
  | .collisionRetryTimer t n cts => Sys2Proof.Machine.execCollisionRetryTimer t n cts s
  | .serialStartEdgeWake t n => Sys2Proof.Machine.execSerialStartEdgeWake t n s
  | .serialHeaderWake t n => Sys2Proof.Machine.execSerialHeaderWake t n s
  | .serialAddressWake t n => Sys2Proof.Machine.execSerialAddressWake t n s
  | .wakeBufferHandover t n => Sys2Proof.Machine.execWakeBufferHandover t n s
  | .canFrameReceived t n f m => Sys2Proof.Machine.execCanFrameReceived t n f m s
  | .canFrameSent t n => Sys2Proof.Machine.execCanFrameSent t n s
  | .canError t n asTx e => Sys2Proof.Machine.execCanError t n asTx e s
  | .txDominantTimeout t n => Sys2Proof.Machine.execTxDominantTimeout t n s
  | .canStuckDominant t n edge => Sys2Proof.Machine.execCanStuckDominant t n edge s
  | .canStuckClear t n edge => Sys2Proof.Machine.execCanStuckClear t n edge s
  | .recoveryRequest t tr n => Sys2Proof.Machine.execRecoveryRequest t tr n s
  | .busOffRecoveryComplete t n => Sys2Proof.Machine.execBusOffRecoveryComplete t n s
  | .armSleep t tr n => Sys2Proof.Machine.execArmSleep t tr n s
  | .disarmSleep t tr n => Sys2Proof.Machine.execDisarmSleep t tr n s
  | .wakeRequest t tr n => Sys2Proof.Machine.execWakeRequest t tr n s
  | .sleepAgreement t n => Sys2Proof.Machine.execSleepAgreement t n s
  | .reportTimerExpiry t n => Sys2Proof.Machine.execReportTimerExpiry t n s
  | .commitDelayExpiry t n => Sys2Proof.Machine.execCommitDelayExpiry t n s
  | .rewakeWindowEnd t n => Sys2Proof.Machine.execRewakeWindowEnd t n s
  | .committedBusWake t n => Sys2Proof.Machine.execCommittedBusWake t n s
  | .canWakeInput t n => Sys2Proof.Machine.execCanWakeInput t n s
  | .tValidExpiry t n => Sys2Proof.Machine.execTValidExpiry t n s
  | .hlbLocalAccess t addr beats x => Sys2Proof.Machine.execHlbLocalAccess t addr beats x s
  | .delayedWriteComplete t k => Sys2Proof.Machine.execDelayedWriteComplete t k s
  | .delayedWriteSlotExpiry t k => Sys2Proof.Machine.execDelayedWriteSlotExpiry t k s
  | .hlbRemoteRead t addr beats lock => Sys2Proof.Machine.execHlbRemoteRead t addr beats lock s
  | .remoteFetchComplete t k result => Sys2Proof.Machine.execRemoteFetchComplete t k result s
  | .delayedReadAbandon t k => Sys2Proof.Machine.execDelayedReadAbandon t k s
  | .hlbRemoteWrite t addr beats lock => Sys2Proof.Machine.execHlbRemoteWrite t addr beats lock s
  | .postedWriteComplete t w result => Sys2Proof.Machine.execPostedWriteComplete t w result s
  | .postedWriteLogPop t tr => Sys2Proof.Machine.execPostedWriteLogPop t tr s
  | .lockSequenceEnd t => Sys2Proof.Machine.execLockSequenceEnd t s
  | .lockTimeout t => Sys2Proof.Machine.execLockTimeout t s
  | .pcieBar0Access t addr bytes write x => Sys2Proof.Machine.execPcieBar0Access t addr bytes write x s
  | .mailboxRead t w slot => Sys2Proof.Machine.execMailboxRead t w slot s
  | .mailboxWrite t w slot v => Sys2Proof.Machine.execMailboxWrite t w slot v s
  | .mailboxComplete t result => Sys2Proof.Machine.execMailboxComplete t result s
  | .ringEnable t ring v => Sys2Proof.Machine.execRingEnable t ring v s
  | .ringDisable t ring v => Sys2Proof.Machine.execRingDisable t ring v s
  | .ringProducerWrite t ring v sizes => Sys2Proof.Machine.execRingProducerWrite t ring v sizes s
  | .hostTxDescriptorFetch t ring desc => Sys2Proof.Machine.execHostTxDescriptorFetch t ring desc s
  | .msixHoldoffExpiry t ring => Sys2Proof.Machine.execMsixHoldoffExpiry t ring s
  | .tunnelIdleGap t n => Sys2Proof.Machine.execTunnelIdleGap t n s
  | .powerRequestRun t tr => Sys2Proof.Machine.execPowerRequestRun t tr s
  | .powerRequestTrim t tr => Sys2Proof.Machine.execPowerRequestTrim t tr s
  | .powerRequestBivouac t tr => Sys2Proof.Machine.execPowerRequestBivouac t tr s
  | .powerRequestShelter t tr => Sys2Proof.Machine.execPowerRequestShelter t tr s
  | .pwrReqPinRequest t code => Sys2Proof.Machine.execPwrReqPinRequest t code s
  | .lowPowerEntry t done => Sys2Proof.Machine.execLowPowerEntry t done s
  | .wakeCommand t code e => Sys2Proof.Machine.execWakeCommand t code e s
  | .pinShelter t => Sys2Proof.Machine.execPinShelter t s
  | .thermAssert t tj => Sys2Proof.Machine.execThermAssert t tj s
  | .thermRelease t tj => Sys2Proof.Machine.execThermRelease t tj s
  | .thermalTrip t tj => Sys2Proof.Machine.execThermalTrip t tj s
  | .brownOut t rails trip => Sys2Proof.Machine.execBrownOut t rails trip s
  | .brownOutRecovery t e => Sys2Proof.Machine.execBrownOutRecovery t e s
  | .porstNLow t => Sys2Proof.Machine.execPorstNLow t s
  | .sysrstNLow t e => Sys2Proof.Machine.execSysrstNLow t e s
  | .vddKaRestore t e => Sys2Proof.Machine.execVddKaRestore t e s
  | .pcieDomainReset t => Sys2Proof.Machine.execPcieDomainReset t s
  | .hlbClockLoss t => Sys2Proof.Machine.execHlbClockLoss t s
  | .lanePcsLockLoss t p receiving => Sys2Proof.Machine.execLanePcsLockLoss t p receiving s
  | .domainResetRelease t domain => Sys2Proof.Machine.execDomainResetRelease t domain s
  | .pllLockLoss t mask => Sys2Proof.Machine.execPllLockLoss t mask s
  | .kaClockLoss t ppm => Sys2Proof.Machine.execKaClockLoss t ppm s
  | .rcTrim t ppm => Sys2Proof.Machine.execRcTrim t ppm s
  | .rtcStopDetect t => Sys2Proof.Machine.execRtcStopDetect t s
  | .transitionComplete t fuseFails salt e => Sys2Proof.Machine.execTransitionComplete t fuseFails salt e s
  | .keyImportComplete t => Sys2Proof.Machine.execKeyImportComplete t s
  | .slotErase t tr v => Sys2Proof.Machine.execSlotErase t tr v s
  | .challengeStart t tr => Sys2Proof.Machine.execChallengeStart t tr s
  | .challengeComplete t => Sys2Proof.Machine.execChallengeComplete t s
  | .tamperAlarm t source copyA fused => Sys2Proof.Machine.execTamperAlarm t source copyA fused s
  | .tamperLatchClear t tr v alarming => Sys2Proof.Machine.execTamperLatchClear t tr v alarming s
  | .ledgerIntervalClose t => Sys2Proof.Machine.execLedgerIntervalClose t s
  | .ledgerRecordSigned t => Sys2Proof.Machine.execLedgerRecordSigned t s
  | .snapshotIntervalExpiry t => Sys2Proof.Machine.execSnapshotIntervalExpiry t s
  | .snapshotRequest t tr => Sys2Proof.Machine.execSnapshotRequest t tr s
  | .snapshotComplete t fault => Sys2Proof.Machine.execSnapshotComplete t fault s
  | .histogramSelect t tr v => Sys2Proof.Machine.execHistogramSelect t tr v s
  | .exportSnapshot t tr => Sys2Proof.Machine.execExportSnapshot t tr s
  | .scrubPass t corrected bad => Sys2Proof.Machine.execScrubPass t corrected bad s
  | .tapReset t => Sys2Proof.Machine.execTapReset t s
  | .bypass t => Sys2Proof.Machine.execBypass t s
  | .idcode t => Sys2Proof.Machine.execIdcode t s
  | .samplePreload t pins cells => Sys2Proof.Machine.execSamplePreload t pins cells s
  | .extest t pins => Sys2Proof.Machine.execExtest t pins s
  | .clamp t => Sys2Proof.Machine.execClamp t s
  | .highz t => Sys2Proof.Machine.execHighz t s
  | .extestPulse t pins => Sys2Proof.Machine.execExtestPulse t pins s
  | .extestTrain t pins => Sys2Proof.Machine.execExtestTrain t pins s
  | .aliveOutToggle t => Sys2Proof.Machine.execAliveOutToggle t s
  | .ctsAsserted t n => Sys2Proof.Machine.execCtsAsserted t n s
  | .deRelease t n => Sys2Proof.Machine.execDeRelease t n s
  | .remoteRequestTimeout t use => Sys2Proof.Machine.execRemoteRequestTimeout t use s
  | .ringBaseSizeWrite t ring offset v => Sys2Proof.Machine.execRingBaseSizeWrite t ring offset v s
  | .msixVectorUnmask t v => Sys2Proof.Machine.execMsixVectorUnmask t v s
  | .pllLockRegain t mask => Sys2Proof.Machine.execPllLockRegain t mask s
  | .rtcRestart t => Sys2Proof.Machine.execRtcRestart t s
  | .vddKaLoss t => Sys2Proof.Machine.execVddKaLoss t s
  | .dwellSecond t core sram => Sys2Proof.Machine.execDwellSecond t core sram s
  | .temperatureSample t tj => Sys2Proof.Machine.execTemperatureSample t tj s
  | .bootThermalHoldEnd t tj e => Sys2Proof.Machine.execBootThermalHoldEnd t tj e s
  | .canBusIntegration t n => Sys2Proof.Machine.execCanBusIntegration t n s
  | .pitchOutEdge t rising => Sys2Proof.Machine.execPitchOutEdge t rising s
  | .darningSegmentSend t => Sys2Proof.Machine.execDarningSegmentSend t s
  | .lastDiscardRead t tr => Sys2Proof.Machine.execLastDiscardRead t tr s

end Sys2Proof.Machine
end

