-- ==== Sys2Proof/Safety.lean ====
section
/-! DEFINITION. What a safe run of the block is, in the terms that claims use. -/

namespace Sys2Proof.Safety

open Sys2Proof.Machine

/-- A command completes: it answers a next state. -/
def Completes (i : Instr) (s : State) : Prop := ∃ t, exec i s = .next t

/-- A transport's write of a value to an entry is accepted: it reaches the dictionary, and no check of R36 fails. -/
def Accepted (d : Dev) (tr : Transport) (idx sub v : Nat) : Prop :=
  d.reaches tr = true ∧ d.writeCheck tr idx sub none v = none

/-- An OD-access request of a peer is served: the port hears it, it names this unit, and it is no repeat (R261, R262). -/
def Served (d : Dev) (q : OdRequest) (peer : Nat) : Prop :=
  d.on = true ∧ d.portRuns q.port = true ∧ d.linkUp q.port = true ∧ q.node = d.node ∧ d.odPeerRow q.srcIp = some peer ∧
    (SMap.get (fun _ => ([] : List KeptReply)) d.kept peer).find? (fun k => k.id = q.id ∧ k.port = q.srcPort) = none

/-- The fuses hold a legal state: the life cycle has left production test, and no more than three rows are spare
(R371, R373). -/
def FusesLegal (s : State) : Prop := s.otp.life ≠ .blank ∧ s.otp.spare ≤ 3

/-- Nothing is owed when a command has run: no boot waits for its pair join, no looped frame and no ledger record waits,
and the unit mirrors to no standby. -/
def Calm (d : Dev) : Prop :=
  d.pw.st ≠ .boot ∧ d.looped = [] ∧ d.ledger.owed = [] ∧ d.mirrors = false

/-- One life-cycle state follows another: it is the same, or R371 permits the move. -/
def LifeFollows (a b : Life) : Prop := a = b ∨ a.permits b = true

/-- The outputs of a unit whose role releases everything: no claim, SER_OWN low, no pulse (R190). -/
def OutputsReleased (d : Dev) : Prop := d.team.claimOut = false ∧ d.team.serOwn = false ∧ d.discrete = []

/-- The commands that reach the keep-alive domain, the supplies, the pins or the scan port, and so act with the core off
(R338). Every other command needs the core. -/
def reachesOff : Instr → Bool
  | .porstNRelease _ _ | .pitchBoundary _ | .linkUp _ _ _ | .linkDown _ _ | .whistleFrame _ _ _ _ _
  | .serialCharDecided _ _ _ _ | .lineStuckEntry _ _ _ | .lineStuckExit _ _ _ | .serialStartEdgeWake _ _
  | .serialHeaderWake _ _ | .serialAddressWake _ _ | .canWakeInput _ _ | .pwrReqPinRequest _ _ | .wakeCommand _ _ _
  | .pinShelter _ | .thermAssert _ _ | .thermRelease _ _ | .thermalTrip _ _ | .brownOut _ _ _ | .brownOutRecovery _ _
  | .porstNLow _ | .sysrstNLow _ _ | .vddKaRestore _ _ | .pllLockLoss _ _ | .kaClockLoss _ _ | .rcTrim _ _
  | .rtcStopDetect _ | .transitionComplete _ _ _ _ | .tamperAlarm _ _ _ _ | .tapReset _ | .bypass _ | .idcode _
  | .samplePreload _ _ _ | .extest _ _ | .clamp _ | .highz _ | .extestPulse _ _ | .extestTrain _ _
  | .pllLockRegain _ _ | .rtcRestart _ | .vddKaLoss _ | .temperatureSample _ _ | .bootThermalHoldEnd _ _ _ => true
  | _ => false

/-- Commands run in their order by `exec` alone, with no step between them. -/
def runAll : List Instr → State → Host.Outcome State Fault Refusal
  | [], s => .next s
  | c :: cs, s => match exec c s with
    | .next u => runAll cs u
    | r => r

end Sys2Proof.Safety
end

