-- ==== Sys2Proof/Certificates/Slice0/Obligations.lean ====
section
/-! DEFINITION. The statements for the provers. `d` stands for the block at the instant of the command, for a host's access
once that access has ended its initiator's read snapshots (R28), and `s.finish e` for the state that a command leaves whose
effect makes `e` of it. -/

section

open Sys2Proof Sys2Proof.Machine Sys2Proof.Safety

/-- A step runs the front command on the queue's rest (opcode table: commands from outside, log entry 2). For every command
c and state s, a step with c in front of the queue is exec of c on s with the queue's rest. -/
def Obligations.StepRunsFront : Prop :=
  ∀ (c : Instr) (s : State), step { s with pending := c :: s.pending } = exec c s

/-- Idle block; no word spells a command (model's choice) (log entries 2 and 3 (the model's choice)). With no command
waiting a step answers the same state (DESIGN CHOICE, log entry 2); the opcode table gives no row bits, so no word spells a
command and withFetchWord leaves the state (log entry 3). -/
def Obligations.IdleAndWords : Prop :=
  (∀ s : State, s.pending = [] → step s = .next s) ∧
  ∀ (s : State) (nbits w : Nat), decodeTableWord nbits w = none ∧ s.withFetchWord nbits w = s

/-- The state after reset (R349, R364, R371, log entries 8 and 9 (values the model names)). After reset no command waits;
the block is held by PORST_N in device state OFF with its core off, every entry of the dictionary at its default, no alert,
no looped frame, no role that drives a line; the fuses are those of FACTORY with three spare rows and legal. -/
def Obligations.ResetState : Prop :=
  core.reset = State.reset ∧ State.reset.pending = [] ∧ State.reset.dev.pw.st = .off ∧ State.reset.dev.pw.porst = true ∧
    State.reset.dev.coreOn = false ∧ (∀ idx sub, State.reset.dev.get idx sub = odDefault (odKey idx sub)) ∧
    State.reset.dev.alerts = [] ∧ OutputsReleased State.reset.dev ∧ State.reset.otp.life = .factory ∧
    State.reset.otp.spare = 3 ∧ FusesLegal State.reset ∧ Calm State.reset.dev

/-- Every command completes, keeps the queue, and only a transition touches the fuses (R371, R373, opcode table). exec
answers a next state for every command and every state, with the same commands waiting; the fuses are unchanged by every
command but TRANSITION_COMPLETE. -/
def Obligations.EveryCommandCompletes : Prop :=
  ∀ (c : Instr) (s : State), ∃ u, exec c s = .next u ∧ u.pending = s.pending ∧
    ((∀ t f x e, c ≠ .transitionComplete t f x e) → u.otp = s.otp)

/-- A queue runs in order and empties in as many steps (opcode table: commands from outside). From every state, as many
steps as commands are in front leave just the queue behind them, and the state is the one that the commands give when exec
runs them in their order. -/
def Obligations.QueueIsFirstInFirstOut : Prop :=
  ∀ (cs q : List Instr) (s : State), ∃ u, core.run cs.length { s with pending := cs ++ q } = .next u ∧ u.pending = q ∧
    runAll cs { s with pending := q } = .next u

/-- No step moves the life cycle back (R371, R373). Whatever step the block takes, from any state, the life-cycle state
after it is the one before or a state that R371 permits next. -/
def Obligations.LifeOnlyForward : Prop :=
  ∀ s u : State, step s = .next u → LifeFollows s.otp.life u.otp.life

/-- Every step keeps the fuses legal (R371, R373). In every state whose fuses are legal (life cycle past BLANK, at most
three spare rows), every step leaves legal fuses. -/
def Obligations.FusesStayLegal : Prop :=
  ∀ s u : State, FusesLegal s → step s = .next u → FusesLegal u

/-- With the core off a core command changes nothing but time (R338, R339). In device states with the core off, every
command that does not reach the keep-alive domain, the supplies, the pins or the scan port changes the instant alone, up to
what ends every command. -/
def Obligations.CoreOffFreezes : Prop :=
  ∀ (c : Instr) (s : State), s.dev.coreOn = false → reachesOff c = false → ∃ t, exec c s = .next (s.finish (s.at t))

/-- Nothing follows a command in a calm block (R148, R208, R349, R401, R422). Where no boot waits for its pair join, no
looped frame and no ledger record waits, the unit mirrors to no standby and the quality did not change, the block is left
exactly as the command made it. -/
def Obligations.NothingFollowsInCalm : Prop :=
  ∀ (o : Otp) (old d : Dev), Calm d → old.pitch.quality = d.pitch.quality → Dev.settle o old d = d

/-- A rejected write, and the first check that rejects it (R7, R29, R36). A write is rejected for the first check of R36's
order that it fails, with the cause that check gives; a rejected OD write changes nothing of the entry: it touches the
access block it names and raises 0xA7F1 for a reserved value, else 0xA7F2 on a word transport. -/
def Obligations.RejectedWrites : Prop :=
  (∀ (d : Dev) (tr : Transport) (idx sub : Nat) (size : Option Nat) (v : Nat),
      (d.enabled tr true = false → d.writeCheck tr idx sub size v = some (.unsupported, false)) ∧
      (d.enabled tr true = true → dictFind idx sub = none →
        d.writeCheck tr idx sub size v = some (if dictHasIndex idx then .noSub else .noIndex, false)) ∧
      ∀ r, d.enabled tr true = true → dictFind idx sub = some r →
        ((r.acc = .ro ∨ r.acc = .const) → d.writeCheck tr idx sub size v = some (.readOnly, false)) ∧
        (r.acc ≠ .ro → r.acc ≠ .const → r.ty = .domain → d.writeCheck tr idx sub size v = some (.unsupported, false)) ∧
        (r.acc ≠ .ro → r.acc ≠ .const → r.ty ≠ .domain → (∃ n, size = some n ∧ n ≠ r.ty.size) →
          d.writeCheck tr idx sub size v = some (.length, false)) ∧
        (r.acc ≠ .ro → r.acc ≠ .const → r.ty ≠ .domain → (∀ n, size = some n → n = r.ty.size) →
          d.stateConflict tr r idx sub v = true → d.writeCheck tr idx sub size v = some (.state, false)) ∧
        (r.acc ≠ .ro → r.acc ≠ .const → r.ty ≠ .domain → (∀ n, size = some n → n = r.ty.size) →
          d.stateConflict tr r idx sub v = false → d.verdict tr idx sub (keptMask idx sub v) ≠ .ok →
          d.writeCheck tr idx sub size v =
            some (.value, decide (d.verdict tr idx sub (keptMask idx sub v) = .reserved)))) ∧
  (∀ (s : State) (d : Dev) (t : Nat) (tr : Transport) (idx : BitVec 16) (sub : BitVec 8) (size : Option Nat) (v : Word64)
      (x : Outside) (a : Abort) (reserved : Bool), d = (s.at t).accessBegins tr → d.reaches tr = true →
      d.writeCheck tr idx.toNat sub.toNat size v.toNat = some (a, reserved) →
      exec (.odWrite t tr idx sub size v x) s = .next (s.finish (
        (d.touch tr idx.toNat).rejectAlert tr idx.toNat sub.toNat (slotAddress idx.toNat sub.toNat) reserved)))

/-- An entry reads what was stored in it (R22, R27). In a dictionary in canonical form, storing a value in an entry keeps
the form, that entry reads the value, and every other entry reads as before. -/
def Obligations.DictionaryReadAfterWrite : Prop :=
  ∀ (d : Dev) (idx sub v idx' sub' : Nat), SMap.wf odDefault d.od = true → sub < 256 → sub' < 256 →
    SMap.wf odDefault (d.put idx sub v).od = true ∧ (d.put idx sub v).get idx sub = v ∧
    ((idx', sub') ≠ (idx, sub) → (d.put idx sub v).get idx' sub' = d.get idx' sub')

/-- Frame of raising an alert (R40, R42, R412). Raising an alert after boot leaves power state, clocks, scan port, vault,
ledger, loops, pitch engine, discrete outputs, host ports, access blocks, flash, tables, item lanes, plan, sequence numbers,
selection, backbone ports, serial channels, bridge, rings, receiver windows, mirroring state and role as they were. -/
def Obligations.AlertsTouchNothingElse : Prop :=
  ∀ (d e : Dev) (code sev detail : Nat), d.pw.st ≠ .boot → e = d.raise code sev detail →
    e.now = d.now ∧ e.pw = d.pw ∧ e.tap = d.tap ∧ e.clk = d.clk ∧ e.vault = d.vault ∧ e.ledger = d.ledger ∧
    e.loops = d.loops ∧ e.pitch = d.pitch ∧ e.discrete = d.discrete ∧ e.words = d.words ∧ e.dom = d.dom ∧
    e.blocks = d.blocks ∧ e.flashA = d.flashA ∧ e.flashB = d.flashB ∧ e.rows = d.rows ∧ e.overlays = d.overlays ∧
    e.staged = d.staged ∧ e.lanes = d.lanes ∧ e.plan = d.plan ∧ e.seqs = d.seqs ∧ e.sels = d.sels ∧ e.ports = d.ports ∧
    e.ser = d.ser ∧ e.bridge = d.bridge ∧ e.rings = d.rings ∧ e.twins = d.twins ∧ e.mirror = d.mirror ∧
    e.team.role = d.team.role

/-- Commands that change one thing and nothing else (R28, R327, R408, R425, R283). In a calm block TAP_RESET changes the
scan port alone; HELD_LOW_WORD_DISCARD the transport's held word alone; DE_RELEASE its channel's driver enable alone;
SNAPSHOT_REQUEST during a snapshot the held trigger and the read snapshots of the transport alone; RING_BASE_SIZE_WRITE at
Base the ring's base and the read snapshot of PCIe alone: the dictionary, the queue, the fuses and every other part are as
before. -/
def Obligations.QuietCommandsFrame : Prop :=
  ∀ (s : State) (d : Dev) (t : Nat), d = s.at t → Calm d →
    (exec (.tapReset t) s = .next { s with
        dev := { d with tap := { d.tap with instr := .idcode, dr := 0, drives := false } } }) ∧
    (∀ tr i j lo a, d.coreOn = true → (d.words.get tr).held = some (i, j, lo, a) → a + msCycles < d.now →
      exec (.heldLowWordDiscard t tr) s = .next { s with
        dev := { d with words := d.words.set tr { d.words.get tr with held := none } } }) ∧
    (∀ n : Fin 192, d.coreOn = true → (d.serCh n.val).de = true → (d.serCh n.val).shift = none →
      (d.serCh n.val).txEnd + ceilDiv (d.serCh n.val).txDiv 4 ≤ d.now →
      exec (.deRelease t n) s = .next { s with dev := d.setSer n.val { d.serCh n.val with de := false } }) ∧
    (∀ tr x, Accepted d tr 0x2A00 2 1 → d.log.running = some x →
      exec (.snapshotRequest t tr) s = .next { s with
        dev := { d.accessBegins tr with log := { d.log with heldTrigger := true } } }) ∧
    (∀ (ring : Fin 64) (v : Word32), d.coreOn = true → d.barReady = true → (d.ring ring.val).enable = false →
      exec (.ringBaseSizeWrite t ring 0 v) s = .next { s with
        dev := (d.snapEnds .pcie).setRing ring.val { d.ring ring.val with base := (d.ring ring.val).base / 2 ^ 32 * 2 ^ 32 + v.toNat } })

/-- What a role drives (R190). With no loop set, a unit that takes a role asserts CLAIM_OUT_N as ACTIVE only and drives
SER_OWN as ACTIVE or SOLO only; in every other role no discrete pulse runs; ALIVE_OUT is kept, and is low in NONE and HOLD.
-/
def Obligations.RoleOutputs : Prop :=
  ∀ (d : Dev) (r : Role), d.loops.any = false →
    ((d.setRole r).team.claimOut = true ↔ r = .active) ∧
    ((d.setRole r).team.serOwn = true ↔ r = .active ∨ r = .solo) ∧
    (r ≠ .active → r ≠ .solo → (d.setRole r).discrete = []) ∧
    ((d.setRole r).team.aliveOut = (d.team.aliveOut && !(r == .none || r == .hold)))

/-- Records and deltas decode to what they encode (R211, R222). A record of R211 with fields in range is 24 bytes and reads
back as itself, and the body of R222 that carries a delta with every field in range and up to 1,024 bytes of data reads back
as that delta. -/
def Obligations.WireFormatsRoundTrip : Prop :=
  (∀ r : AdmRec, r.mark < 4 → r.gsid < 2 ^ 30 → r.seq < 2 ^ 32 → r.stamp < 2 ^ 64 → r.digest < 2 ^ 64 →
      (recordBytes r).length = 24 ∧ recordOf (recordBytes r) = r) ∧
  (∀ (n seg v off : Nat) (cont : Bool) (data : List Byte), n < 2 ^ 32 → seg < 2 ^ 32 → v < 2 ^ 32 → off < 2 ^ 16 →
      data.length ≤ 1024 →
      deltaOf (pieceBody n seg v off cont data) =
        { seq := n, seg := seg, version := v, offset := off, cont := cont, data := data })

/-- Newer, duplicate and discarded sequence numbers (R17). For 32-bit a and b, a is newer than b exactly when (a − b) mod
2^32 is from 1 to 2^31 − 1; a record of the window's generation with an equal or not newer sequence is judged a duplicate
and is discarded, its receipt and the duplicate counted and nothing else done; a gap shorter than 2^31 is accepted. -/
def Obligations.SequenceWindow : Prop :=
  (∀ a b : Nat, a < 2 ^ 32 → b < 2 ^ 32 →
      (newer32 a b = true ↔ 1 ≤ (a + 2 ^ 32 - b) % 2 ^ 32 ∧ (a + 2 ^ 32 - b) % 2 ^ 32 ≤ 2 ^ 31 - 1)) ∧
  (∀ b gap : Nat, b < 2 ^ 32 → 1 ≤ gap → gap < 2 ^ 31 → newer32 ((b + gap) % 2 ^ 32) b = true) ∧
  (∀ (d : Dev) (gsid gen seq row : Nat) (w : TwinWindow), d.twinRow gsid = some row →
      d.twins.find? (fun w => w.stream = row) = some w → w.gen = gen →
      d.judge gsid gen seq = if newer32 seq w.seq then .newer else .duplicate) ∧
  (∀ (d : Dev) (a : Arrival) (h : TwinHead) (head body : List Byte), h.own = false →
      (d.count 0x2234 2).judge (beAt head 0 4 % 2 ^ 30) h.gen (beAt head 4 4) = .duplicate →
      d.twinRecord a h head body = (d.count 0x2234 2).count 0x2234 3)

/-- RTS_N in RAW mode (R280). In RAW mode with RTS_EN set, when the receive FIFO has taken any contents RTS_N is released
where COUNT has reached RTS_HI, asserted where COUNT has fallen to RTS_LO below it, and keeps its level between; a character
taken into the FIFO and one popped from it are followed by that rule. -/
def Obligations.RtsHysteresis : Prop :=
  (∀ (d : Dev) (n : Nat), d.serMode n = 2 → d.serRtsEn n = true → d.serRts n = (d.serCh n).rts) ∧
  (∀ (d : Dev) (n count : Nat), count = (d.serCh n).rx.length →
      (bits (d.serLine n) 31 24 ≤ count → d.rtsUpdate n = d.setSer n { d.serCh n with rts := false }) ∧
      (count < bits (d.serLine n) 31 24 → count ≤ bits (d.serLine n) 23 16 →
        d.rtsUpdate n = d.setSer n { d.serCh n with rts := true }) ∧
      (count < bits (d.serLine n) 31 24 → bits (d.serLine n) 23 16 < count → d.rtsUpdate n = d.setSer n (d.serCh n))) ∧
  (∀ (d e : Dev) (n : Nat) (c c' : RxChar), (d.serCh n).rx.length < 64 → d.serMark n c = (e, c') →
      d.serRaw n c = (e.setSer n { e.serCh n with rx := (e.serCh n).rx ++ [c'] }).rtsUpdate n) ∧
  (∀ (d e : Dev) (tr : Transport) (n : Nat) (c : RxChar) (rest : List RxChar), d.serMode n = 2 →
      (d.tunnelIn false n 0).isSome = false → (d.serCh n).rx = c :: rest →
      (c.framing || c.parity || c.brk || c.overrun) = false →
      e = d.setSer n { d.serCh n with statusRead := (d.serCh n).statusRead.set tr false } →
      (d.rxDataRead tr n).1 = (e.setSer n { e.serCh n with rx := rest }).rtsUpdate n)

/-- Codes of address characters (R97). In a sentence that end check 2 of R77 admits, the address field has five characters,
each a digit coded 0 to 9 in order or a letter coded 10 to 35 in order, so no code is reserved and different characters have
different codes. -/
def Obligations.AddressCharacterCodes : Prop :=
  (∀ bytes : List Byte, addressOk bytes = true → (addressOf bytes).length = 5 ∧ ∀ b ∈ addressOf bytes,
      (isDigit b.toNat = true ∧ addrCode b.toNat = b.toNat - 0x30 ∧ addrCode b.toNat ≤ 9) ∨
      (isUpper b.toNat = true ∧ addrCode b.toNat = b.toNat - 0x41 + 10 ∧ 10 ≤ addrCode b.toNat ∧ addrCode b.toNat ≤ 35)) ∧
  (∀ a b : Nat, (isDigit a = true ∨ isUpper a = true) → (isDigit b = true ∨ isUpper b = true) → addrCode a = addrCode b → a = b)

/-- Accepted writes, held low words and read snapshots (R24, R28). In every state and for all operands that meet a clause's
conditions the command answers exactly the state written. OD_WRITE that no check of R36 stops has the effect of its entry
(Journal entry select and Snapshot interval written out); HELD_LOW_WORD_DISCARD drops a low word after 1 ms;
LOW_WORD_READ_SNAPSHOT keeps the whole value and returns its low word. -/
def Obligations.AcceptedWritesAndSnapshots : Prop :=
  (∀ (s : State) (d : Dev) (t : Nat) (tr : Transport) (idx : BitVec 16) (sub : BitVec 8) (size : Option Nat) (v : Word64)
       (x : Outside) (r : OdRow),
      d = (s.at t).accessBegins tr → d.reaches tr = true → d.writeCheck tr idx.toNat sub.toNat size v.toNat = none →
      dictFind idx.toNat sub.toNat = some r →
      exec (.odWrite t tr idx sub size v x) s = .next (s.finish (d.writeEntry s.otp tr r idx.toNat sub.toNat v.toNat x))) ∧
  (∀ (s : State) (d : Dev) (t : Nat) (tr : Transport) (size : Option Nat) (v : Word64) (x : Outside),
      d = (s.at t).accessBegins tr → d.reaches tr = true → d.writeCheck tr 0x2A03 1 size v.toNat = none →
      exec (.odWrite t tr 0x2A03 1 size v x) s = .next (s.finish (d.put 0x2A03 1 v.toNat))) ∧
  (∀ (s : State) (d : Dev) (t : Nat) (tr : Transport) (size : Option Nat) (v : Word64) (x : Outside),
      d = (s.at t).accessBegins tr → d.reaches tr = true → d.writeCheck tr 0x2A00 1 size v.toNat = none →
      exec (.odWrite t tr 0x2A00 1 size v x) s = .next (s.finish ((d.put 0x2A00 1 v.toNat).pWritten 0x2A00 1 v.toNat))) ∧
  (∀ (s : State) (d : Dev) (t : Nat) (tr : Transport) (i j lo a : Nat),
      d = s.at t → d.coreOn = true → (d.words.get tr).held = some (i, j, lo, a) → a + msCycles < d.now →
      exec (.heldLowWordDiscard t tr) s = .next (s.finish
        ({ d with words := d.words.set tr { d.words.get tr with held := none } }))) ∧
  (∀ (s : State) (d : Dev) (t : Nat) (tr : Transport) (idx : BitVec 16) (sub : BitVec 8) (r : OdRow) (e : Dev) (v : Nat),
      d = s.at t → d.reaches tr = true → tr = .hlb ∨ tr = .pcie → dictFind idx.toNat sub.toNat = some r →
      r.ty.wide = true → r.acc ≠ .wo → (d.windowSnapsEnd tr).readEntry tr idx.toNat sub.toNat = (e, v) →
      exec (.lowWordReadSnapshot t tr idx sub) s = .next (s.finish
        (({ e with
            words := e.words.set tr { e.words.get tr with snap := some (idx.toNat, sub.toNat, v) } } : Dev).valueTaken tr
          (bits v 31 0))))

/-- The domain port of a transport (R30). In every state and for all operands that meet a clause's conditions the command
answers exactly the state written. A target write opens a transfer at offset 0; a data write takes 4 bytes at the offset and
moves it on; a data read returns 4 bytes of the DOMAIN; an accepted commit applies the written bytes; a discard and the
timeout forget them. -/
def Obligations.DomainPortCommands : Prop :=
  (∀ (s : State) (d : Dev) (t : Nat) (tr : Transport) (v : Word32),
      d = (s.at t).accessBegins tr → Accepted d tr 0x2010 1 v.toNat →
      exec (.domainTargetWrite t tr v) s = .next (s.finish
        ({ d with dom := d.dom.set tr { target := v.toNat, last := d.now, copy := (d.dom.get tr).copy } }))) ∧
  (∀ (s : State) (d : Dev) (t : Nat) (tr : Transport) (v : Word32) (p : DomainPort),
      d = (s.at t).accessBegins tr → Accepted d tr 0x2010 3 v.toNat → d.dom.get tr = p →
      exec (.domainDataWrite t tr v) s = .next (s.finish
        ({ d with
            dom := d.dom.set tr { p with
                written := (p.offset, le 4 v.toNat) :: p.written, len := max p.len (p.offset + 4),
                offset := (p.offset + 4) % 2 ^ 32, status := 1, last := d.now } }))) ∧
  (∀ (s : State) (d : Dev) (t : Nat) (tr : Transport) (p : DomainPort),
      d = (s.at t).accessBegins tr → d.reaches tr = true → d.readCheck tr 0x2010 3 = none → d.dom.get tr = p → isDomain p.idx p.sub = true →
      p.idx ≠ 0x2A10 →
      exec (.domainDataRead t tr) s = .next (s.finish
        (({ d with
            dom := d.dom.set tr { p with offset := (p.offset + 4) % 2 ^ 32, last := d.now } } : Dev).valueTaken tr (ofLe
          (((d.domainBytes p.idx p.sub).drop p.offset).take 4))))) ∧
  (∀ (s : State) (d : Dev) (t : Nat) (tr : Transport) (p : DomainPort) (e : Dev),
      d = (s.at t).accessBegins tr → Accepted d tr 0x2010 4 1 → d.dom.get tr = p → d.commitCheck p.idx p.sub p.len = 2 →
      d.domainCommit p.idx p.sub (writtenBytes p.written p.len) = e →
      exec (.domainCommit t tr) s = .next (s.finish
        ({ e with
            dom := e.dom.set tr { p with
                written := [], len := 0, status := 2, last := e.now, copy := (e.dom.get tr).copy } }))) ∧
  (∀ (s : State) (d : Dev) (t : Nat) (tr : Transport),
      d = (s.at t).accessBegins tr → Accepted d tr 0x2010 4 2 →
      exec (.domainDiscard t tr) s = .next (s.finish
        ({ d with dom := d.dom.set tr { d.dom.get tr with written := [], len := 0, status := 0 } }))) ∧
  (∀ (s : State) (d : Dev) (t : Nat) (tr : Transport),
      d = s.at t → d.coreOn = true → (d.dom.get tr).status = 1 → (d.dom.get tr).last + 1000 * msCycles < d.now →
      exec (.domainPortTimeout t tr) s = .next (s.finish
        ({ d with dom := d.dom.set tr { d.dom.get tr with written := [], len := 0, status := 0 } })))

/-- Access blocks of tables (R31, R32). In every state and for all operands that meet a clause's conditions the command
answers exactly the state written. Claim and release set the owner; an owner without access for 1 s loses the block; a read
command loads the window with the row; a stage command lists the window's words, or an empty row, and reports staged. -/
def Obligations.AccessBlockCommands : Prop :=
  (∀ (s : State) (d : Dev) (t : Nat) (tr : Transport) (tbl : Tbl),
      d = (s.at t).accessBegins tr → Accepted d tr tbl.index 4 tr.code →
      exec (.accessBlockClaim t tr tbl) s = .next (s.finish
        (d.setBlock tbl { d.block tbl with owner := tr.code, last := d.now }))) ∧
  (∀ (s : State) (d : Dev) (t : Nat) (tr : Transport) (tbl : Tbl),
      d = (s.at t).accessBegins tr → Accepted d tr tbl.index 4 0 →
      exec (.accessBlockRelease t tr tbl) s = .next (s.finish
        (d.setBlock tbl { d.block tbl with owner := 0, last := d.now }))) ∧
  (∀ (s : State) (d : Dev) (t : Nat) (tbl : Tbl),
      d = s.at t → d.coreOn = true → (d.block tbl).owner ≠ 0 → (d.block tbl).last + secCycles < d.now →
      exec (.accessBlockOwnerTimeout t tbl) s = .next (s.finish (d.setBlock tbl { d.block tbl with owner := 0 }))) ∧
  (∀ (s : State) (d : Dev) (t : Nat) (tr : Transport) (tbl : Tbl),
      d = (s.at t).accessBegins tr → Accepted d tr tbl.index 2 1 → tbl ≠ .lastval → tblHasRow tbl (d.block tbl).row = true →
      exec (.tableReadRow t tr tbl) s = .next (s.finish
        ((d.setBlock tbl { d.block tbl with status := 2, window := d.readRow tbl (d.block tbl).row }).touch tr tbl.index))) ∧
  (∀ (s : State) (d : Dev) (t : Nat) (tr : Transport) (tbl : Tbl) (st : Staged),
      d = (s.at t).accessBegins tr → Accepted d tr tbl.index 2 2 → tblAtOnce tbl = false → tblHasRow tbl (d.block tbl).row = true →
      d.commit = none → d.staged.length < d.stagedTop →
      st = { tbl := tbl, row := (d.block tbl).row, words := storedWords tbl (d.block tbl).window, empty := false } →
      (d.addStaged st).rowError tbl st.row st.words = 0 →
      exec (.tableStageRow t tr tbl) s = .next (s.finish (((d.addStaged st).blockStatus tbl 3).touch tr tbl.index))) ∧
  (∀ (s : State) (d : Dev) (t : Nat) (tr : Transport) (tbl : Tbl),
      d = (s.at t).accessBegins tr → Accepted d tr tbl.index 2 3 → tblAtOnce tbl = false → tbl ≠ .custody → tbl ≠ .lastval →
      tbl ≠ .lset ∨ (d.block tbl).row ≠ 0 → tblHasRow tbl (d.block tbl).row = true → d.commit = none →
      d.staged.length < d.stagedTop →
      exec (.tableStageEmpty t tr tbl) s = .next (s.finish
        (((d.addStaged {
            tbl := tbl, row := (d.block tbl).row, words := [], empty := true }).blockStatus tbl 3).touch tr tbl.index)))

/-- SDO transfers and their replies (R35). In every state and for all operands that meet a clause's conditions the command
answers exactly the state written. Expedited and segmented uploads and downloads, their segments, a block-transfer request,
an unknown command and the segment timeout each queue the reply of their case and leave the transfer as that case does. -/
def Obligations.SdoTransfers : Prop :=
  (∀ (s : State) (d : Dev) (t : Nat) (fd : Bool) (idx : BitVec 16) (sub : BitVec 8) (r : OdRow) (e : Dev) (v : Nat),
      d = s.at t → d.sdoServes = true → d.readCheck .sdo idx.toNat sub.toNat = none →
      dictFind idx.toNat sub.toNat = some r → r.ty ≠ .domain → r.ty.size ≤ 4 →
      ({ d with sdo := none } : Dev).readEntry .sdo idx.toNat sub.toNat = (e, v) →
      exec (.sdoExpeditedUpload t fd idx sub) s = .next (s.finish
        (e.sdoQueue (e.sdoFrame fd (sdoBytes (0x43 + 4 * (4 - r.ty.size)) idx.toNat sub.toNat (le r.ty.size v)))))) ∧
  (∀ (s : State) (d : Dev) (t : Nat) (fd : Bool) (idx : BitVec 16) (sub : BitVec 8) (size : Option Nat) (v : Word32)
       (x : Outside) (e : Dev),
      d = s.at t → d.sdoServes = true →
      ({ d with sdo := none } : Dev).writeAccess s.otp .sdo idx.toNat sub.toNat (slotAddress idx.toNat sub.toNat) size
        v.toNat x = ⟨e, none, none⟩ →
      exec (.sdoExpeditedDownload t fd idx sub size v x) s = .next (s.finish
        (e.sdoQueue (e.sdoFrame fd (sdoBytes 0x60 idx.toNat sub.toNat []))))) ∧
  (∀ (s : State) (d : Dev) (t : Nat) (fd : Bool) (idx : BitVec 16) (sub : BitVec 8) (r : OdRow) (e f : Dev) (v : Nat),
      d = s.at t → d.sdoServes = true → d.readCheck .sdo idx.toNat sub.toNat = none →
      dictFind idx.toNat sub.toNat = some r → r.ty ≠ .domain → r.ty.size = 8 →
      ({ d with sdo := none } : Dev).readEntry .sdo idx.toNat sub.toNat = (e, v) →
      f = { e with
          sdo := some { upload := true, idx := idx.toNat, sub := sub.toNat, fd := fd, data := le 8 v, last := e.now } } →
      exec (.sdoSegmentedUploadInitiate t fd idx sub) s = .next (s.finish
        (f.sdoQueue (f.sdoFrame fd (sdoBytes 0x41 idx.toNat sub.toNat (le 4 8)))))) ∧
  (∀ (s : State) (d : Dev) (t : Nat) (fd : Bool) (idx : BitVec 16) (sub : BitVec 8) (size : Option Nat) (e : Dev),
      d = s.at t → d.sdoServes = true → d.sdoOpenCheck idx.toNat sub.toNat size = none →
      e = { d with
          sdo := some { upload := false, idx := idx.toNat, sub := sub.toNat, fd := fd, data := [], last := d.now } } →
      exec (.sdoSegmentedDownloadInitiate t fd idx sub size) s = .next (s.finish
        (e.sdoQueue (e.sdoFrame fd (sdoBytes 0x60 idx.toNat sub.toNat []))))) ∧
  (∀ (s : State) (d : Dev) (t : Nat) (fd : Bool) (toggle : Bool) (x : SdoTransfer) (e : Dev),
      d = s.at t → d.sdoServes = true → d.sdo = some x → d.enabled .sdo false = true → x.upload = true → 7 < x.data.length →
      e = { d with sdo := some { x with data := x.data.drop 7, last := d.now } } →
      exec (.sdoUploadSegment t fd toggle) s = .next (s.finish
        (e.sdoQueue (e.sdoFrame fd (be 1 (16 * b2n toggle) ++ x.data.take 7))))) ∧
  (∀ (s : State) (d : Dev) (t : Nat) (fd : Bool) (toggle : Bool) (x : SdoTransfer) (e : Dev),
      d = s.at t → d.sdoServes = true → d.sdo = some x → d.enabled .sdo false = true → x.upload = true → x.data.length ≤ 7 →
      e = { d with sdo := none } →
      exec (.sdoUploadSegment t fd toggle) s = .next (s.finish
        (e.sdoQueue (e.sdoFrame fd (be 1 (16 * b2n toggle + 2 * (7 - x.data.length) + 1) ++ x.data))))) ∧
  (∀ (s : State) (d : Dev) (t : Nat) (fd : Bool) (toggle : Bool) (last : Bool) (data : List Byte) (x : Outside)
       (y : SdoTransfer) (e : Dev),
      d = s.at t → d.sdoServes = true → d.sdo = some y → d.enabled .sdo true = true → y.upload = false → last = false →
      e = { d with sdo := some { y with data := y.data ++ data.take 7, last := d.now } } →
      exec (.sdoDownloadSegment t fd toggle last data x) s = .next (s.finish
        (e.sdoQueue (e.sdoFrame fd (be 1 (0x20 + 16 * b2n toggle)))))) ∧
  (∀ (s : State) (d : Dev) (t : Nat) (fd : Bool) (idx : BitVec 16) (sub : BitVec 8),
      d = s.at t → d.sdoServes = true → d.absent .sdo false idx.toNat sub.toNat = none →
      exec (.sdoBlockTransferRequest t fd idx sub) s = .next (s.finish
        (d.sdoQueue (d.sdoFrame fd (sdoBytes 0x80 idx.toNat sub.toNat (le 4 0x06010000)))))) ∧
  (∀ (s : State) (d : Dev) (t : Nat) (fd : Bool) (idx : BitVec 16) (sub : BitVec 8),
      d = s.at t → d.sdoServes = true → d.enabled .sdo false = true →
      exec (.sdoUnknownCommand t fd idx sub) s = .next (s.finish
        (d.sdoQueue (d.sdoFrame fd (sdoBytes 0x80 idx.toNat sub.toNat (le 4 0x05040001)))))) ∧
  (∀ (s : State) (d : Dev) (t : Nat) (y : SdoTransfer) (e : Dev),
      d = s.at t → d.sdoServes = true → d.sdo = some y → y.last + 1000 * msCycles < d.now →
      e = { d with sdo := none, dom := d.dom.set .sdo { d.dom.get .sdo with written := [], len := 0, status := 0 } } →
      exec (.sdoSegmentTimeout t) s = .next (s.finish
        (e.sdoQueue (e.sdoFrame y.fd (sdoBytes 0x80 y.idx y.sub (le 4 0x05040000))))))

/-- Requests of device state (R37, R38). In every state and for all operands that meet a clause's conditions the command
answers exactly the state written. An accepted request for CONFIG starts the drain with result in progress; the drained unit
enters CONFIG; leaving CONFIG with valid tables waits for the pitch boundary and then enters SERVICE; a reboot request
outside HOLD takes its snapshot and boots. -/
def Obligations.DeviceStateRequests : Prop :=
  (∀ (s : State) (d : Dev) (t : Nat) (tr : Transport),
      d = (s.at t).accessBegins tr → Accepted d tr 0x2000 2 2 → d.inService = true → d.pw.drain = none →
      exec (.enterConfig t tr) s = .next (s.finish
        (({ d with pw := { d.pw with drain := some (.config, 2), drained := false } } : Dev).put 0x2000 3 1))) ∧
  (∀ (s : State) (d : Dev) (t : Nat) (n : Nat),
      d = s.at t → d.inService = true → d.pw.drain = some (.config, n) → d.pw.drained = true →
      exec (.configEntry t) s = .next (s.finish (d.configEnter.put 0x2000 3 0))) ∧
  (∀ (s : State) (d : Dev) (t : Nat) (tr : Transport),
      d = (s.at t).accessBegins tr → Accepted d tr 0x2000 2 3 → d.pw.st = .config → d.romOnly = false → d.pw.drain = none →
      d.validation.1 = false →
      exec (.leaveConfig t tr) s = .next (s.finish
        (({ d with pw := { d.pw with resume := some d.pitch.num } } : Dev).put 0x2000 3 1))) ∧
  (∀ (s : State) (d : Dev) (t : Nat) (p : Nat),
      d = s.at t → d.pw.st = .config → d.pw.resume = some p → p < d.pitch.num →
      exec (.serviceResume t) s = .next (s.finish (d.serviceEnter.pairJoin))) ∧
  (∀ (s : State) (d : Dev) (t : Nat) (tr : Transport) (e : BootEnv),
      d = (s.at t).accessBegins tr → Accepted d tr 0x2000 2 0x10 → d.pw.st ≠ .hold →
      exec (.rebootFromRack t tr e) s = .next (s.finish ((d.rebootPrepare.resetBy 5).boot s.otp e)))

/-- Clearing an alert; the end of a rack copy (R40, R48). In every state and for all operands that meet a clause's
conditions the command answers exactly the state written. A clearable active alert leaves the list and its clearing is
emitted; a copy that was written takes its bytes with the status its checks give; a copy that failed reports status 3. -/
def Obligations.AlertClearingAndRackCopy : Prop :=
  (∀ (s : State) (d : Dev) (t : Nat) (code : Nat) (a : Alert),
      d = s.at t → d.coreOn = true → d.alerts.find? (fun x => x.code = code) = some a → d.clearable a = true →
      exec (.alertClear t code) s = .next (s.finish
        (({ d with
            alerts := d.alerts.filter (fun x => !(x.code = code)) } : Dev).alertEmit code a.sev a.detail d.stamp false))) ∧
  (∀ (s : State) (d : Dev) (t : Nat) (ok : Bool) (p : Programming) (e : Dev),
      d = s.at t → d.coreOn = true → d.programming = some p → ok = true → p.copyB = true →
      e = { d with programming := none, flashB := p.bytes } →
      exec (.rackProgramComplete t ok) s = .next (s.finish
        (e.put 0x2011 3 (if rackReason ((Life.ofCode e.lifeCode).getD .blank) e.vault.verify p.bytes = 0 then 2 else 16 +
          rackReason ((Life.ofCode e.lifeCode).getD .blank) e.vault.verify p.bytes)))) ∧
  (∀ (s : State) (d : Dev) (t : Nat) (ok : Bool) (p : Programming),
      d = s.at t → d.coreOn = true → d.programming = some p → ok = false →
      exec (.rackProgramComplete t ok) s = .next (s.finish (({ d with programming := none } : Dev).put 0x2011 3 3)))

/-- Lane end, tag issue, late groups, last discard (R53, R55, R69, R85). In every state and for all operands that meet a
clause's conditions the command answers exactly the state written. A finished lane item waits for its tag; the first item
with a free tag takes it, in issue order, and finds its stream; groups past their deadline are dropped; a read of the
last-discard entry returns the value taken. -/
def Obligations.IngestTaggingAndLastDiscard : Prop :=
  (∀ (s : State) (d : Dev) (t : Nat) (k : Fin 8) (it : Item) (e : Dev),
      d = s.at t → d.coreOn = true → (d.lanes.getD k.val {}).item = some it → it.kind ≠ 3 → fpBad it = false →
      e = d.laneFree k.val → (it.form = .sentence → e.partKind it ≠ .malformed) →
      exec (.parseLaneDone t k) s = .next (s.finish ({ e with waitTag := e.waitTag ++ [{ it with finish := e.now }] }))) ∧
  (∀ (s : State) (d : Dev) (t : Nat) (y it : Item) (tag n : Nat) (row : List Word32) (e f : Dev),
      d = s.at t → d.coreOn = true → firstToIssue (fun i => (d.tagFor i.src).isSome && !d.frameAhead i) d.waitTag = some y →
      d.tagFor y.src = some tag → it = d.named y →
      e = (({ d with waitTag := d.waitTag.erase y, issue := d.issue + 1 } : Dev).loadWindow (itemBytes it)).tagHigh →
      (e.grouping it).later = false → fpLater it = false → f = e.count 0x2310 1 → f.lookup (itemKey it) = some (n, row) →
      exec (.tagIssue t) s = .next (s.finish ({ f with tagged := f.tagged ++ [f.tagItem tag it n row] }))) ∧
  (∀ (s : State) (d : Dev) (t : Nat) (src : Nat) (g : GroupCtx),
      d = s.at t → d.inService = true → g ∈ d.lateGroups src →
      exec (.groupDeadlineExpiry t src) s = .next (s.finish ((d.lateGroups src).foldl (fun d g => d.dropGroup g 1) d))) ∧
  (∀ (s : State) (d : Dev) (t : Nat) (tr : Transport) (e : Dev) (v : Nat),
      d = (s.at t).accessBegins tr → d.reaches tr = true → d.readAccess tr 0x2231 1 = (e, .ok v) →
      exec (.lastDiscardRead t tr) s = .next (s.finish (e.valueTaken tr v)))

/-- Firewall stages, stream order, handover (R56, R65, R104). In every state and for all operands that meet a clause's
conditions the command answers exactly the state written. An authentic single item within its rate goes to the probes; a
ready item with no earlier item of its stream leaves order release for its decision; the item next in handover goes to each
listener of its mask. -/
def Obligations.FirewallOrderAndHandover : Prop :=
  (∀ (s : State) (d : Dev) (t : Nat) (tag : Nat) (x : Tagged) (e : Dev),
      d = s.at t → d.coreOn = true → d.tagged.find? (fun x => x.tag = tag ∧ !x.virt ∧ x.fate == .working) = some x →
      hasStep x.probes = false → Dev.rateWaits x (d.tagged.takeWhile (fun y => !(y.tag = tag))) = false →
      fpLater x.item = false → x.item.kind ≠ 5 → d.authentic x = true → d.grouping x.item = .single →
      d.rateStage x = some e →
      exec (.itemStagesComplete t tag) s = .next (s.finish (e.probeStage x))) ∧
  (∀ (s : State) (d : Dev) (t : Nat) (tag : Nat) (virt : Bool) (x : Tagged) (e : Dev),
      d = s.at t → d.coreOn = true → d.tagged.find? (fun y => y.tag = tag && y.virt == virt) = some x → x.fate = .ready →
      (d.tagged.takeWhile (fun y => !(y.tag = tag && y.virt == virt))).any (fun y => x.behind y) = false →
      e = ((({ d with
          tagged := d.tagged.filter (fun y => !(y.tag = tag && y.virt == virt)) } : Dev).lastValueUpdate x).ledItem
        x.stream x.item).tunnelEgress x.item →
      (e.engineDelay x.item).leads = true →
      exec (.orderRelease t tag virt) s = .next (s.finish ((e.engineDelay x.item).decideItem x.proposal))) ∧
  (∀ (s : State) (d : Dev) (t : Nat) (cts : Nat) (i : PlanItem),
      d = s.at t → d.coreOn = true → d.leads = true → d.older = [] → d.previous.handNext = none →
      d.sending.handNext = some i →
      exec (.handover t cts) s = .next (s.finish
        ((maskList i.hand).foldl (fun d l => d.handOne i cts l) { d with sending := d.sending.handed i })))

/-- Learn records and the commit (R106, R118). In every state and for all operands that meet a clause's conditions the
command answers exactly the state written. A select loads the record; a clear empties the learn table; an accepted target
stamp schedules the staged rows; a discard forgets the rows and any scheduled commit. -/
def Obligations.LearnAndCommit : Prop :=
  (∀ (s : State) (d : Dev) (t : Nat) (tr : Transport) (v : Byte),
      d = (s.at t).accessBegins tr → Accepted d tr 0x2308 3 v.toNat →
      exec (.learnSelect t tr v) s = .next (s.finish (d.learnSelect v.toNat))) ∧
  (∀ (s : State) (d : Dev) (t : Nat) (tr : Transport),
      d = (s.at t).accessBegins tr → Accepted d tr 0x2308 9 1 →
      exec (.learnClear t tr) s = .next (s.finish ({ d with learn := [] }))) ∧
  (∀ (s : State) (d : Dev) (t : Nat) (tr : Transport) (v : Word64),
      d = (s.at t).accessBegins tr → Accepted d tr 0x2301 2 v.toNat → d.staged ≠ [] → v.toNat % d.legPu = 0 →
      d.legOf d.stamp + 2 * d.legPu ≤ v.toNat →
      exec (.commitTargetWrite t tr v) s = .next (s.finish (({ d with commit := some v.toNat } : Dev).put 0x2301 3 1))) ∧
  (∀ (s : State) (d : Dev) (t : Nat) (tr : Transport) (c : Nat),
      d = (s.at t).accessBegins tr → Accepted d tr 0x2301 4 1 → d.commit = some c →
      exec (.stagedListDiscard t tr) s = .next (s.finish
        (({ d.put 0x2301 3 6 with staged := [], commit := none } : Dev).put 0x2301 1 0)))

/-- Pitch boundary, leg boundary, hem (R140, R158, R174). In every state and for all operands that meet a clause's
conditions the command answers exactly the state written. At a pitch boundary in SERVICE the engine takes its next pitch and
the health sentence is issued; at a leg boundary the old leg is rinsed and the new plan opens; at the hem the selection
points are taken. -/
def Obligations.PitchLegAndHem : Prop :=
  (∀ (s : State) (d : Dev) (t : Nat) (e : Dev),
      d = s.at t → d.pitch.st ≠ .boot → d.pitch.wraps (tickOf d.now) = true → e = d.enginePitch (tickOf d.now) →
      e.pw.st = .service → e.team.role ≠ .none → e.team.role ≠ .hold →
      exec (.pitchBoundary t) s = .next (s.finish
        ((e.internal 246 2 e.stamp (e.healthSentence d.pitch.num)).pitchCountsClear.ledBoundary))) ∧
  (∀ (s : State) (d : Dev) (t : Nat) (e : Dev) (x y : Bool),
      d = s.at t → d.inService = true → d.plan.leg ≤ d.leg → d.legRinse = (e, x, y) →
      exec (.legBoundary t) s = .next (s.finish ((e.legOpen d.leg).legStart (d.leg - d.legPu) x y))) ∧
  (∀ (s : State) (d : Dev) (t : Nat),
      d = s.at t → d.inService = true → d.leads = true → (d.legPu - d.hemPu) * 2 ^ 16 ≤ d.legPhase16 →
      d.selectionPoints.mirrors = false →
      exec (.hemStart t) s = .next (s.finish (d.selectionPoints)))

/-- Pulse and quadrature references; beacons (R143, R146, R151, R152). In every state and for all operands that meet a
clause's conditions the command answers exactly the state written. A filtered pulse at a valid interval is a reference
point; a count of QUAD advances the count and its interval; an index restarts it and, after a full count, is a reference
point; an accepted master beacon is a reference point; at its interval a domain master marks every port for a beacon. -/
def Obligations.ReferenceEdgesAndBeacons : Prop :=
  (∀ (s : State) (d : Dev) (t : Nat) (high : Nat) (l : Nat),
      d = s.at t → d.on = true → d.usesSource 1 = true → d.loops.pitch = false → bits (d.get 0x2100 9) 15 0 ≤ high →
      d.pitch.lastEdge = some l → d.tMin ≤ tickOf d.now - l → tickOf d.now - l ≤ d.tMax →
      exec (.pulseEdge t high) s = .next (s.finish
        (({ d with
            pitch := { d.pitch with lastEdge := some (tickOf d.now) } } : Dev).startPoint 1 (tickOf d.now) (tickOf d.now -
          l)))) ∧
  (∀ (s : State) (d : Dev) (t : Nat) (high : Nat),
      d = s.at t → d.on = true → d.usesSource 1 = true → d.loops.pitch = false → bits (d.get 0x2100 9) 15 0 ≤ high →
      d.pitch.lastEdge = none →
      exec (.pulseEdge t high) s = .next (s.finish
        ({ d with pitch := { d.pitch with lastEdge := some (tickOf d.now) } }))) ∧
  (∀ (s : State) (d : Dev) (t : Nat) (astern : Bool) (q : Nat),
      d = s.at t → d.on = true → d.usesSource 2 = true → d.pitch.qTick = some q → d.get 0x2100 0x0B ≤ tickOf d.now - q →
      d.pitch.src ≠ 2 →
      exec (.quadCountEdge t astern) s = .next (s.finish
        ({ d with
            pitch := { d.pitch with
                qcount := d.pitch.qcount + 1, qTick := some (tickOf d.now), qIval := tickOf d.now - q,
                qDir := if astern then 2 else 1 } }))) ∧
  (∀ (s : State) (d : Dev) (t : Nat),
      d = s.at t → d.on = true → d.usesSource 2 = true → d.pitch.qIndex = none → d.pitch.qcount = d.get 0x2100 0x0A →
      exec (.quadIndex t) s = .next (s.finish
        ({ d with pitch := { d.pitch with qcount := 0, qIndex := some (tickOf d.now) } }))) ∧
  (∀ (s : State) (d : Dev) (t : Nat) (l : Nat),
      d = s.at t → d.on = true → d.usesSource 2 = true → d.pitch.qIndex = some l → d.pitch.qcount = d.get 0x2100 0x0A →
      d.pitch.boundBefore (tickOf d.now) = 0 ∨ d.tMin ≤ tickOf d.now - d.pitch.boundBefore (tickOf d.now) →
      tickOf d.now - l ≤ d.tMax →
      exec (.quadIndex t) s = .next (s.finish
        (({ d with
            pitch := { d.pitch with qcount := 0, qIndex := some (tickOf d.now) } } : Dev).startPoint 2 (tickOf d.now)
          (tickOf d.now - l)))) ∧
  (∀ (s : State) (d : Dev) (t : Nat) (p : Fin 4) (payload : List Byte) (sfd : Nat),
      d = s.at t → d.coreOn = true → d.portHears p.val = true → formatTag "EUPB" payload = true →
      bits (beAt payload 6 2) 10 0 ≠ d.pairId → bits (beAt payload 6 2) 10 0 = d.get 0x2100 0x0C →
      bit (beAt payload 5 1) 0 = true → bit (beAt payload 5 1) 1 = false → beAt payload 11 1 ≠ 2 →
      exec (.beaconReceived t p payload sfd) s = .next (s.finish
        (d.beaconPoint (d.masterStamp payload) (beAt payload 12 4) (tickOf sfd)))) ∧
  (∀ (s : State) (d : Dev) (t : Nat),
      d = s.at t → d.isMaster = true → d.inService = true →
      d.pitch.phase16 (tickOf d.now) / 2 ^ 16 % 2 ^ (24 - d.get 0x2100 0x0F) < max 1 (ceilDiv d.pitch.rateN d.pitch.rateD)
        →
      exec (.masterBeaconDue t) s = .next (s.finish
        ((List.range 4).foldl (fun d p => d.setPort p { d.port p with masterDue := true }) d)))

/-- States of the pitch engine and PITCH_OUT (R144, R145, R147, R155). In every state and for all operands that meet a
clause's conditions the command answers exactly the state written. A qualified source ends FREE; a missing source moves
LOCKED to HOLDOVER; HOLDOVER ends after its count; a slip counts, raises 0xA102 and opens its window, whose end without a
point is HOLDOVER; PITCH_OUT edges reach the pin. -/
def Obligations.PitchEngineStates : Prop :=
  (∀ (s : State) (d : Dev) (t : Nat) (source : Fin 4),
      d = s.at t → d.on = true → d.qualified source.val = true → d.pitch.st = .free →
      exec (.sourceQualified t source) s = .next (s.finish (d.lockOn source.val (tickOf d.now) (d.pitch.ref source.val)))) ∧
  (∀ (s : State) (d : Dev) (t : Nat),
      d = s.at t → d.on = true → d.pitch.st = .locked → d.sourceMissing (tickOf d.now) = true →
      (d.enterHoldover (tickOf d.now)).get 0x2100 8 ≠ 0 →
      exec (.sourceDeadline t) s = .next (s.finish (d.enterHoldover (tickOf d.now)))) ∧
  (∀ (s : State) (d : Dev) (t : Nat),
      d = s.at t → d.on = true → d.pitch.st = .holdover → d.get 0x2100 8 ≤ d.pitch.holdover →
      exec (.holdoverCountReached t) s = .next (s.finish (d.leaveSource (tickOf d.now)))) ∧
  (∀ (s : State) (d : Dev) (t : Nat) (e f : Dev),
      d = s.at t → d.on = true → d.pitch.st = .slip → d.pitch.slip = .inside → d.pitch.boundTick ≠ 0 →
      d.pitch.slipEnd ≤ tickOf d.now → d.pitch.src ≠ 3 → d.pitch.slipPoint = none →
      e = (d.count 0x2111 1).raise 0xA102 1 d.pitch.slipLen → f = e.runPeriod (tickOf d.now) e.measured →
      exec (.slipPitchEnd t) s = .next (s.finish ({ f with pitch := { f.pitch with slip := .window } }))) ∧
  (∀ (s : State) (d : Dev) (t : Nat),
      d = s.at t → d.on = true → d.pitch.st = .slip → d.pitch.slip = .window →
      d.pitch.slipEnd + d.measured / 8 < tickOf d.now →
      exec (.slipWindowClose t) s = .next (s.finish (d.enterHoldover (tickOf d.now)))) ∧
  (∀ (s : State) (d : Dev) (t : Nat),
      d = s.at t → d.inService = true → d.released = false → d.get 0x2101 1 ≠ 0 → d.pitchGated = false →
      d.pitch.out = false → d.loops.pitch = false → d.outRises = true →
      exec (.pitchOutEdge t true) s = .next (s.finish
        (({ d with pitch := { d.pitch with out := true, outAt := tickOf d.now } } : Dev).emit (.pitchOut (some true))))) ∧
  (∀ (s : State) (d : Dev) (t : Nat),
      d = s.at t → d.inService = true → d.released = false → d.get 0x2101 1 ≠ 0 → d.pitch.out = true →
      d.loops.pitch = false → d.outFalls = true →
      exec (.pitchOutEdge t false) s = .next (s.finish
        (({ d with pitch := { d.pitch with out := false } } : Dev).emit (.pitchOut (some false)))))

/-- Gates and frame ends of a backbone port (R239). In every state and for all operands that meet a clause's conditions the
command answers exactly the state written. A gate opens and closes at its phases, shifted by pauses, and the port looks for
a frame; the end of a frame frees the port, which looks for the next. -/
def Obligations.GateWindows : Prop :=
  (∀ (s : State) (d : Dev) (t : Nat) (p : Fin 4) (entry : Nat) (g : Gate),
      d = s.at t → d.coreOn = true → (d.gates p.val d.leg).find? (fun g => g.entry = entry) = some g →
      (d.port p.val).opened.contains entry = false → (d.port p.val).hasLeft = false → d.portRuns p.val = true →
      g.openAt * 2 ^ 16 + d.psTo16 ((d.port p.val).shiftAt d.ps) ≤ d.legPhase16 →
      d.legPhase16 ≤ g.close * 2 ^ 16 + d.psTo16 ((d.port p.val).shiftAt d.ps) → bit g.cmask 7 = false →
      exec (.gateOpen t p entry) s = .next (s.finish
        ((d.setPort p.val { d.port p.val with opened := (d.port p.val).opened ++ [entry] }).portStart p.val))) ∧
  (∀ (s : State) (d : Dev) (t : Nat) (p : Fin 4) (entry : Nat) (g : Gate),
      d = s.at t → d.coreOn = true → (d.gates p.val d.leg).find? (fun g => g.entry = entry) = some g →
      g.close * 2 ^ 16 + d.psTo16 ((d.port p.val).shiftAt d.ps) ≤ d.legPhase16 →
      exec (.gateClose t p entry) s = .next (s.finish
        ((d.setPort p.val { d.port p.val with opened := (d.port p.val).opened.filter (· ≠ entry) }).portStart p.val))) ∧
  (∀ (s : State) (d : Dev) (t : Nat) (p : Fin 4) (f : PlanFrame) (leg : Nat) (left : Bool) (n : Nat),
      d = s.at t → d.coreOn = true → (d.port p.val).tx = .plan f leg left n → n ≤ d.ps →
      exec (.portFrameEnd t p) s = .next (s.finish ((d.setPort p.val { d.port p.val with tx := .idle }).portStart p.val))) ∧
  (∀ (s : State) (d : Dev) (t : Nat) (p : Fin 4) (u : Unsched) (n : Nat),
      d = s.at t → d.coreOn = true → (d.port p.val).tx = .other u n → n ≤ d.ps →
      exec (.portFrameEnd t p) s = .next (s.finish ((d.setPort p.val { d.port p.val with tx := .idle }).portStart p.val)))

/-- PAUSE frames (R177, R241). In every state and for all operands that meet a clause's conditions the command answers
exactly the state written. A PAUSE within the ceiling holds the port for its quanta; quanta 0 end it; so do its expiry and
the ceiling, which truncates it. -/
def Obligations.PauseFrames : Prop :=
  (∀ (s : State) (d : Dev) (t : Nat) (p : Fin 4) (quanta : BitVec 16) (e : Dev) (x : Port),
      d = s.at t → d.coreOn = true → d.portHears p.val = true →
      e = (d.sticky (0x3200 + p.val) 5 0x10).count (0x3200 + p.val) 0x24 → x = (e.port p.val).settle e.ps →
      quanta.toNat * e.quantum p.val ≠ 0 → x.honouredAt e.ps < e.ceiling p.val →
      exec (.pauseFrameReceived t p quanta) s = .next (s.finish
        ((e.setPort p.val { x with pause := some (e.ps + quanta.toNat * e.quantum p.val) }).portStart p.val))) ∧
  (∀ (s : State) (d : Dev) (t : Nat) (p : Fin 4) (quanta : BitVec 16) (e : Dev) (x : Port),
      d = s.at t → d.coreOn = true → d.portHears p.val = true →
      e = (d.sticky (0x3200 + p.val) 5 0x10).count (0x3200 + p.val) 0x24 → x = (e.port p.val).settle e.ps →
      quanta.toNat = 0 →
      exec (.pauseFrameReceived t p quanta) s = .next (s.finish
        ((e.setPort p.val { x with pause := none }).portStart p.val))) ∧
  (∀ (s : State) (d : Dev) (t : Nat) (p : Fin 4) (n : Nat),
      d = s.at t → d.coreOn = true → (d.port p.val).pause = some n → n ≤ d.ps →
      exec (.pauseExpiry t p) s = .next (s.finish
        ((d.setPort p.val { d.port p.val with pause := none }).portStart p.val))) ∧
  (∀ (s : State) (d : Dev) (t : Nat) (p : Fin 4) (n : Nat),
      d = s.at t → d.coreOn = true → (d.port p.val).pause = some n → d.ps < n →
      d.ceiling p.val ≤ (d.port p.val).honouredAt d.ps →
      exec (.pauseCeilingReached t p) s = .next (s.finish
        (((d.setPort p.val { d.port p.val with pause := none }).truncatePause p.val (n - d.ps)).portStart p.val)))

/-- Reception, links, departure stamps, whistles (R233, R234, R242, R246). In every state and for all operands that meet a
clause's conditions the command answers exactly the state written. A whole frame in length limits reaches the filters; a
runt is discarded; a link that comes up or goes down sets the port and 0xA400; a stamp pop moves the head to the entry; a
whistle frame that matches a pattern wakes the unit. -/
def Obligations.PortReceptionAndLinks : Prop :=
  (∀ (s : State) (d : Dev) (t : Nat) (bytes : List Byte) (sfd : Nat) (codeError : Bool) (x : Outside) (q : Fin 5)
       (a : Arrival),
      d = s.at t → d.coreOn = true → q.val < 4 → d.portHears q.val = true → 64 ≤ bytes.length → codeError = false →
      fcsFits bytes = true → bytes.length ≤ d.get (0x3200 + q.val) 3 →
      a = { port := q.val, frame := bytes, stamp := d.stampAt sfd, tick := tickOf sfd, quality := d.qualityAt sfd } →
      exec (.backboneFrameReceived t q bytes sfd codeError x) s = .next (s.finish (d.frameArrives s.otp a x))) ∧
  (∀ (s : State) (d : Dev) (t : Nat) (bytes : List Byte) (sfd : Nat) (codeError : Bool) (x : Outside) (q : Fin 5),
      d = s.at t → d.coreOn = true → q.val < 4 → d.portHears q.val = true → bytes.length < 64 →
      exec (.backboneFrameReceived t q bytes sfd codeError x) s = .next (s.finish (d.macDiscard q.val 0x20 1))) ∧
  (∀ (s : State) (d : Dev) (t : Nat) (status : Nat) (q : Fin 5),
      d = s.at t → q.val < 4 → d.pw.st = .service ∨ d.pw.st = .config → d.portUsed q.val = true →
      exec (.linkUp t q status) s = .next (s.finish
        ((d.setPort q.val { d.port q.val with
            linkUp := true, link := d.linkBits q.val status, fell := false }).linkAlertEnds))) ∧
  (∀ (s : State) (d : Dev) (t : Nat) (status : Nat) (e : Dev),
      d = s.at t → d.on = true → d.get 0x3210 1 ≠ 0 → e = d.setPort 4 { d.port 4 with link := d.linkBits 4 status } →
      exec (.linkUp t 4 status) s = .next (s.finish ({ e with team := { d.team with ropeLink := true } }))) ∧
  (∀ (s : State) (d : Dev) (t : Nat) (q : Fin 5),
      d = s.at t → q.val < 4 → (d.port q.val).linkUp = true → d.portUsed q.val = true → d.portLooped q.val = false →
      d.on = true →
      exec (.linkDown t q) s = .next (s.finish
        ((d.setPort q.val { d.port q.val with linkUp := false, link := 0, fell := true }).raise 0xA400 2 q.val))) ∧
  (∀ (s : State) (d : Dev) (t : Nat) (tr : Transport) (p : Fin 4) (r : StampRec) (rs : List StampRec),
      d = (s.at t).accessBegins tr → Accepted d tr (0x3200 + p.val) 0x0B 1 → (d.port p.val).stamps = r :: rs →
      exec (.stampPop t tr p) s = .next (s.finish
        (d.setPort p.val { d.port p.val with
            stamps := rs, popped := (r.stamp, 2 ^ 31 + b2n r.gap * 2 ^ 30 + r.lost * 2 ^ 16 + r.queue, r.number) }))) ∧
  (∀ (s : State) (d : Dev) (t : Nat) (p : Fin 2) (bytes : List Byte) (sfd : Nat) (codeError : Bool) (i : Nat),
      d = s.at t → d.pw.st = .bivouac → d.pw.armed = true → d.portMode p.val ≠ 0 → d.pw.armedAt < sfd →
      64 ≤ bytes.length → codeError = false → fcsFits bytes = true →
      (List.range 8).find? (fun i => bit (d.get (0x3200 + p.val) 0x10) i && whistleFits (d.storedDomain (0x3200 + p.val)
        (0x11 + i)) bytes) = some i →
      exec (.whistleFrame t p bytes sfd codeError) s = .next (s.finish (d.wakeEvent 2 0xA404 (i * 16 + p.val))))

/-- HELLO, heartbeat and presence of the rope (R183, R184, R188, R442). In every state and for all operands that meet a
clause's conditions the command answers exactly the state written. A HELLO takes the partner's epoch, role and position and
goes to pairing; a heartbeat takes the partner's role and is acted on; both are sent at their timers; presence starts a
series; loss ends the session. -/
def Obligations.RopeSessions : Prop :=
  (∀ (s : State) (d : Dev) (t : Nat) (f : RopeFrame) (b : List Byte) (n : Option Nat) (e : Dev) (g : Dev),
      d = s.at t → d.coreOn = true → d.ropeIn f = .take b n → frameType f = 0x01 → e = d.heard n →
      e.team.peerKnown = false ∨ e.team.peerEpoch = beAt b 40 4 → e.team.formed = false →
      g = ({ e with
          team := { e.team with
              peerKnown := true, peerEpoch := beAt b 40 4, partnerRole := roleOf (beAt b 0 1),
              partnerB := some (frameSenderB f) } } : Dev).put 0x2600 5 (beAt b 28 2) →
      exec (.helloReceived t f) s = .next (s.finish (g.pairing f b))) ∧
  (∀ (s : State) (d : Dev) (t : Nat) (f : RopeFrame) (b : List Byte) (n : Option Nat) (e : Dev),
      d = s.at t → d.coreOn = true → d.ropeIn f = .take b n → frameType f = 0x02 → e = d.heard n →
      exec (.heartbeatReceived t f) s = .next (s.finish
        (({ e.beat f with
            team := { (e.beat f).team with partnerRole := roleOf (beAt b 0 1), partnerB := some (frameSenderB f) } } :
          Dev).actOnPartner (decide (beAt b 4 4 ≠ (e.beat f).get 0x2020 2))))) ∧
  (∀ (s : State) (d : Dev) (t : Nat),
      d = s.at t → d.coreOn = true → d.team.formed = false → d.inTeam = true → d.ropeSends = true →
      d.team.session = true → d.team.lastHello + msCycles ≤ d.now →
      exec (.helloTimer t) s = .next (s.finish
        (({ d with team := { d.team with lastHello := d.now } } : Dev).ropeSend 0x01 d.helloBody))) ∧
  (∀ (s : State) (d : Dev) (t : Nat),
      d = s.at t → d.coreOn = true → d.inTeam = true →
      exec (.heartbeatTimer t) s = .next (s.finish (d.ropeSend 0x02 d.heartbeatBody))) ∧
  (∀ (s : State) (d : Dev) (t : Nat),
      d = s.at t → d.coreOn = true → d.team.rope = false → d.ropeSeen = true →
      exec (.ropePresent t) s = .next (s.finish
        (((({ d with team := { d.team with rope := true } } : Dev).newSeries).clearAlert 0xA302).decidePaths))) ∧
  (∀ (s : State) (d : Dev) (t : Nat) (linkDown : Bool) (e : Dev),
      d = s.at t → d.coreOn = true → d.team.rope = true → linkDown = false → d.team.lastRope + 60 * usCycles < d.now →
      e = { d with team := { d.team with rope := false, beats := 0 } } →
      exec (.ropeLost t linkDown) s = .next (s.finish (((e.count 0x2601 3).ropeLossRole.endSession).decidePaths))) ∧
  (∀ (s : State) (d : Dev) (t : Nat) (linkDown : Bool) (e f : Dev),
      d = s.at t → d.coreOn = true → d.team.rope = true → linkDown = true →
      e = { d with team := { d.team with rope := false, ropeLink := false, beats := 0 } } →
      f = e.setPort 4 { e.port 4 with link := 0 } →
      exec (.ropeLost t linkDown) s = .next (s.finish (((f.count 0x2601 3).ropeLossRole.endSession).decidePaths)))

/-- ALIVE, CLAIM and the backbone heartbeat (R185, R188, R192). In every state and for all operands that meet a clause's
conditions the command answers exactly the state written. Each path that is lost or returns is noted and the role decided
again; an ACTIVE that loses ALIVE runs degraded; ALIVE_OUT toggles in every working role. -/
def Obligations.PathChanges : Prop :=
  (∀ (s : State) (d : Dev) (t : Nat) (edge : Nat),
      d = s.at t → d.coreOn = true → d.team.alive = true → d.team.role ≠ .active → edge + 40 * usCycles < d.now →
      exec (.aliveLost t edge) s = .next (s.finish
        (({ d with team := { d.team with alive := false, lastAlive := edge } } : Dev).decidePaths))) ∧
  (∀ (s : State) (d : Dev) (t : Nat) (edge : Nat) (e : Dev),
      d = s.at t → d.coreOn = true → d.team.alive = true → d.team.role = .active → edge + 40 * usCycles < d.now →
      ({ d with team := { d.team with alive := false, lastAlive := edge } } : Dev).runDegraded = e → e.team.rope = true →
      exec (.aliveLost t edge) s = .next (s.finish (e.newSeries))) ∧
  (∀ (s : State) (d : Dev) (t : Nat),
      d = s.at t → d.coreOn = true →
      exec (.alivePresent t) s = .next (s.finish (({ d with team := { d.team with alive := true } } : Dev).decidePaths))) ∧
  (∀ (s : State) (d : Dev) (t : Nat),
      d = s.at t → d.coreOn = true →
      exec (.claimReleased t) s = .next (s.finish
        (({ d with team := { d.team with claimIn := false } } : Dev).decidePaths))) ∧
  (∀ (s : State) (d : Dev) (t : Nat),
      d = s.at t → d.coreOn = true → d.team.joining = none → d.team.role ≠ .active →
      exec (.claimAsserted t) s = .next (s.finish
        (({ d with team := { d.team with claimIn := true } } : Dev).decidePaths))) ∧
  (∀ (s : State) (d : Dev) (t : Nat),
      d = s.at t → d.coreOn = true → d.team.backbone = true → d.team.beaconDue < d.stamp →
      exec (.backboneHeartbeatLost t) s = .next (s.finish
        (({ d with team := { d.team with backbone := false } } : Dev).decidePaths))) ∧
  (∀ (s : State) (d : Dev) (t : Nat),
      d = s.at t → d.inService = true → d.loops.any = false → d.team.role ≠ .none → d.team.role ≠ .hold →
      exec (.aliveOutToggle t) s = .next (s.finish
        (({ d with team := { d.team with aliveOut := !d.team.aliveOut } } : Dev).emit (.aliveOut !d.team.aliveOut))))

/-- Claims of the ACTIVE role (R185, R191, R194). In every state and for all operands that meet a clause's conditions the
command answers exactly the state written. At the end of the join window and at a retry the unit asserts its claim; a sample
that finds no other claim takes the role; a unit that lost its progress leaves it for HOLD and drops what is queued. -/
def Obligations.Claims : Prop :=
  (∀ (s : State) (d : Dev) (t : Nat) (a : Nat),
      d = s.at t → d.coreOn = true → d.team.joining = some a → a + d.get 0x2600 3 * usCycles < d.now →
      exec (.joinWindowExpiry t) s = .next (s.finish
        ({ d with
            team := { d.team with
                claimOut := true, degraded := true, joining := none, retry := none,
                claiming := some (d.now, false, d.team.role == .standby, true) } }))) ∧
  (∀ (s : State) (d : Dev) (t : Nat) (asserted : Bool) (a : Nat) (lastRow warm cold : Bool),
      d = s.at t → d.coreOn = true → d.team.claiming = some (a, lastRow, warm, cold) → a + 2 * usCycles ≤ d.now →
      asserted = false →
      exec (.claimSample t asserted) s = .next (s.finish
        (({ d with team := { d.team with claiming := none, claimIn := false } } : Dev).takeActive warm cold))) ∧
  (∀ (s : State) (d : Dev) (t : Nat) (a : Nat),
      d = s.at t → d.coreOn = true → d.team.retry = some a → a + 100 * usCycles ≤ d.now → d.team.claimIn = false →
      (d.team.role = .isolated → d.team.refused = false ∧ d.requestPending = false ∧ d.team.alive = false) →
      exec (.joinRetry t) s = .next (s.finish
        ({ d with
            team := { d.team with
                claimOut := true, degraded := true, joining := none, retry := none,
                claiming := some (d.now, false, d.team.role == .standby, true) } }))) ∧
  (∀ (s : State) (d : Dev) (t : Nat) (e : Dev),
      d = s.at t → d.coreOn = true → d.team.role ≠ .hold →
      e = ((d.mirrorEnd.clearShadow.setRole .hold).endSession).dropQueued →
      exec (.progressLost t) s = .next (s.finish
        (({ e with
            team := { e.team with claiming := none, retry := none, joining := none, change := none } } : Dev).outRelease)))

/-- Discrete outputs (R199). In every state and for all operands that meet a clause's conditions the command answers exactly
the state written. A write of State on a unit that leads starts a pulse on SET for 1 or CLR for 0 whether or not the value
changes and sets Confirmation to 0; a pulse ends after its length; a held pulse starts when the gap has passed. -/
def Obligations.DiscreteOutputs : Prop :=
  (∀ (s : State) (d : Dev) (t : Nat) (tr : Transport) (n : Fin 16) (v : Byte) (e : Dev),
      d = (s.at t).accessBegins tr → Accepted d tr (0x3300 + n.val) 1 v.toNat → (d.disc n.val).pulse = none → (d.disc n.val).held = none →
      d.leads = true → d.loops.any = false → e = (d.put (0x3300 + n.val) 1 v.toNat).put (0x3300 + n.val) 3 0 →
      exec (.discreteStateWrite t tr n v) s = .next (s.finish
        ((((e.setDisc n.val {
            pulse := some (v.toNat = 1, e.now + e.get (0x3300 + n.val) 2 * msCycles) }).count (0x3300 + n.val) 4).emit
          (.pulse n.val (v.toNat = 1))).mWritten))) ∧
  (∀ (s : State) (d : Dev) (t : Nat) (n : Fin 16) (b : Bool) (w : Nat),
      d = s.at t → d.coreOn = true → (d.disc n.val).pulse = some (b, w) → w ≤ d.now → (d.disc n.val).held = none →
      exec (.discretePulseEnd t n) s = .next (s.finish (d.setDisc n.val { d.disc n.val with pulse := none, ready := 0 }))) ∧
  (∀ (s : State) (d : Dev) (t : Nat) (n : Fin 16) (b : Bool) (e : Dev),
      d = s.at t → d.coreOn = true → (d.disc n.val).held = some b → (d.disc n.val).pulse = none →
      (d.disc n.val).ready ≤ d.now → d.leads = true → d.loops.any = false → e = d.setDisc n.val {} →
      exec (.heldPulseStart t n) s = .next (s.finish
        (((e.setDisc n.val {
            pulse := some (b, e.now + e.get (0x3300 + n.val) 2 * msCycles) }).count (0x3300 + n.val) 4).emit (.pulse n.val
          b))))

/-- Mode changes (R202, R203). In every state and for all operands that meet a clause's conditions the command answers
exactly the state written. An accepted team or domain request with a stamp on a leg boundary far enough ahead is pending
with the next epoch; a relay pends it on the standby and is acknowledged; the acknowledgement changes nothing. -/
def Obligations.ModeChanges : Prop :=
  (∀ (s : State) (d : Dev) (t : Nat) (tr : Transport) (target : Word64) (e : Dev),
      d = (s.at t).accessBegins tr → Accepted d tr 0x2020 4 target.toNat → d.get 0x2020 5 = 0 →
      e = d.clearAlert 0xA308 → e.get 0x2020 5 = 0 →
      e.leads = true → e.team.change = none → e.hasMode (e.get 0x2020 3) = true → target.toNat % e.legPu = 0 →
      e.leg + 2 * e.legPu ≤ target.toNat →
      exec (.teamModeChangeRequest t tr target) s = .next (s.finish
        (e.acceptMode {
            mode := e.get 0x2020 3, target := target.toNat, epoch := (e.get 0x2020 2 + 1) % 2 ^ 32, domain := false }))) ∧
  (∀ (s : State) (d : Dev) (t : Nat) (tr : Transport) (target : Word64) (e : Dev),
      d = (s.at t).accessBegins tr → Accepted d tr 0x2020 4 target.toNat → d.get 0x2020 5 = 1 →
      e = d.clearAlert 0xA308 → e.get 0x2020 5 = 1 →
      e.leads = true → e.isMaster = true → e.team.change = none → e.hasMode (e.get 0x2020 3) = true →
      target.toNat % e.legPu = 0 → e.pitch.num + 4 ≤ target.toNat / 2 ^ 24 →
      exec (.domainModeChangeRequest t tr target) s = .next (s.finish
        (e.acceptMode {
            mode := e.get 0x2020 3, target := target.toNat, epoch := (e.get 0x2020 2 + 1) % 2 ^ 32, domain := true }))) ∧
  (∀ (s : State) (d : Dev) (t : Nat) (f : RopeFrame) (b : List Byte) (n : Option Nat) (e : Dev) (m : ModeChange)
       (k g : Dev),
      d = s.at t → d.coreOn = true → d.ropeIn f = .take b n → frameType f = 0x40 → e = d.heard n → e.shadows = true →
      m = { mode := beAt b 0 1, target := beAt b 8 8, epoch := beAt b 4 4, domain := beAt b 1 1 ≠ 0 } →
      k = e.ropeSend 0x41 (relayBody m) →
      g = (if m.domain then { k with team := { k.team with lastDomain := some m } } else k) →
      g.get 0x2020 2 ≠ m.epoch → g.modeMissed m.target = false →
      exec (.modeRelayReceived t f) s = .next (s.finish
        (({ g with team := { g.team with change := some m } } : Dev).modeCatch m.target))) ∧
  (∀ (s : State) (d : Dev) (t : Nat) (f : RopeFrame) (b : List Byte) (n : Option Nat) (e : Dev),
      d = s.at t → d.coreOn = true → d.ropeIn f = .take b n → frameType f = 0x41 → e = d.heard n →
      exec (.modeAckReceived t f) s = .next (s.finish (e)))

/-- ADMIT frames (R211, R212, R213). In every state and for all operands that meet a clause's conditions the command answers
exactly the state written. When 60 records wait, or the first has waited 0.2 µs, up to 60 records of the oldest plan that has
any are sent and kept until acknowledged; records from the index expected on are taken and acknowledged, those taken before
are not taken again, and a frame past that index or for a plan not acknowledged is discarded; an acknowledgement forgets what
it covers and closes its holds in every plan; more than 5 µs without one every record of the plan not acknowledged is sent
again. -/
def Obligations.AdmitFrames : Prop :=
  (∀ (s : State) (d : Dev) (t : Nat) (w : WaitRec) (ws run : List WaitRec) (e : Dev),
      d = s.at t → d.coreOn = true → d.mirror.waiting = w :: ws →
      60 ≤ (w :: ws).length ∨ w.since + 160 ≤ d.now → run = ((w :: ws).takeWhile (fun x => x.leg = w.leg)).take 60 →
      e = (d.sendAdmit w.leg w.index (run.map (·.adm))).count 0x2603 1 run.length →
      exec (.admitSendTimer t) s = .next (s.finish
        (({ e with
            mirror := { e.mirror with
                waiting := e.mirror.waiting.drop run.length,
                unacked := e.mirror.unacked ++ run.map (fun x => (x.leg, x.index, x.adm)) } } : Dev).cairnLeave))) ∧
  (∀ (s : State) (d : Dev) (t : Nat) (f : RopeFrame) (b : List Byte) (n : Option Nat) (e : Dev) (l i m next : Nat)
       (fresh : List Nat) (g h : Dev),
      d = s.at t → d.coreOn = true → d.ropeIn f = .take b n → frameType f = 0x10 → e = d.heard n →
      e.acknowledges (beAt b 0 8) = true → l = beAt b 0 8 → i = beAt b 8 4 → m = beAt b 12 1 →
      next = SMap.get (fun _ => 0) e.mirror.expect l → i ≤ next → 1 ≤ m → m ≤ 60 → 16 + 24 * m ≤ b.length →
      fresh = (List.range m).drop (next - i) →
      g = fresh.foldl (fun d j => d.takeRecord l (i + j) (recordOf (slice b (16 + 24 * j) 24))) e →
      h = ({ g with
          mirror := { g.mirror with expect := SMap.set (fun _ => 0) g.mirror.expect l (max next (i + m)) } } : Dev).count
        0x2603 2 fresh.length →
      exec (.admitReceived t f) s = .next (s.finish
        ((h.ropeSend 0x11 (be 8 l ++ be 4 (max next (i + m)) ++ be 4 0)).resolveAll))) ∧
  (∀ (s : State) (d : Dev) (t : Nat) (f : RopeFrame) (b : List Byte) (n : Option Nat) (e : Dev),
      d = s.at t → d.coreOn = true → d.ropeIn f = .take b n → frameType f = 0x10 → e = d.heard n →
      e.acknowledges (beAt b 0 8) = false ∨ SMap.get (fun _ => 0) e.mirror.expect (beAt b 0 8) < beAt b 8 4 →
      exec (.admitReceived t f) s = .next (s.finish e)) ∧
  (∀ (s : State) (d : Dev) (t : Nat) (f : RopeFrame) (b : List Byte) (n : Option Nat) (e g : Dev) (l i : Nat),
      d = s.at t → d.coreOn = true → d.ropeIn f = .take b n → frameType f = 0x11 → e = d.heard n → e.team.role = .active →
      l = beAt b 0 8 → i = beAt b 8 4 →
      g = (e.mirror.admits.filter (fun a => a.1 = l ∧ a.2.1 < i)).foldl
        (fun d a => d.histAdd 24 ((d.now - a.2.2) * 5 / 4 / 100)) e →
      exec (.ackReceived t f) s = .next (s.finish
        ((({ g with
            mirror := { e.mirror with
                admits := e.mirror.admits.filter (fun a => !(a.1 = l ∧ a.2.1 < i)),
                unacked := e.mirror.unacked.filter (fun u => !(u.1 = l ∧ u.2.1 < i)) } } : Dev).mapPlans
          (closeHolds l i)).portsStart))) ∧
  (∀ (s : State) (d : Dev) (t : Nat) (f : RopeFrame) (b : List Byte) (n : Option Nat) (e : Dev),
      d = s.at t → d.coreOn = true → d.ropeIn f = .take b n → frameType f = 0x11 → e = d.heard n → e.team.role ≠ .active →
      exec (.ackReceived t f) s = .next (s.finish e)) ∧
  (∀ (s : State) (d : Dev) (t : Nat) (l x y i : Nat) (z : AdmRec) (rs : List (Nat × Nat × AdmRec)) (e : Dev),
      d = s.at t → d.coreOn = true →
      d.mirror.admits.find? (fun a => decide (a.2.2 + 5 * usCycles < d.now)) = some (l, x, y) →
      rs = d.mirror.unacked.filter (fun u => u.1 = l) → rs.head? = some (l, i, z) →
      e = { d with mirror := { d.mirror with admits := d.mirror.admits.filter (fun a => !(a.1 = l)) } } →
      exec (.admitAckTimeout t) s = .next (s.finish
        ((e.resendRecs l (rs.length + 1) i (rs.map (fun u => u.2.2))).count 0x2603 3)))

/-- Pending records, orphans, cairns (R214, R216, R219, R220, R221). In every state and for all operands that meet a
clause's conditions the command answers exactly the state written. A record whose copy has not come when 12 µs have
passed is unheld and counted, the first of a leg raises 0xA316 and those that follow renew its detail; a copy whose leg passed
more than 10 µs ago is an orphan; a cairn that agrees resets the missed count; one missing past the rinse and 50 µs counts and
raises 0xA311, also on a unit whose warm takeover awaits it. -/
def Obligations.RecordsOrphansAndCairns : Prop :=
  (∀ (s : State) (d : Dev) (t : Nat) (rs : List RecvRec) (e g : Dev) (k : Nat),
      d = s.at t → d.coreOn = true → d.shadows = true →
      rs = d.mirror.recv.filter (fun r => r.state = 0 ∧ r.leg ≤ d.leg ∧ r.arrived + 2400 < d.now) → rs ≠ [] →
      e = rs.foldl (fun d r => d.setRecv { r with state := 2 }) d → k = e.mirror.unheldLeg + rs.length →
      g = ({ e with mirror := { e.mirror with unheldLeg := k } } : Dev).count 0x2603 5 rs.length →
      exec (.recordPendingExpiry t) s = .next (s.finish
        (((if e.mirror.unheldLeg = 0 then g.raise 0xA316 1 (sat 0xFFFFFFFF k)
          else g.alertDetail 0xA316 (sat 0xFFFFFFFF k)).chargeShadows false).cairnSettle))) ∧
  (∀ (s : State) (d : Dev) (t : Nat) (due : Shadow → Bool),
      d = s.at t → d.coreOn = true → d.shadows = true →
      due = (fun (x : Shadow) => decide (x.leg + (x.prop.defer + 1) * d.legPu < d.leg) || (decide (x.leg + (x.prop.defer +
        1) * d.legPu = d.leg) && decide (d.legAt + 10 * usCycles < d.now))) →
      exec (.orphanJudge t) s = .next (s.finish
        ((d.mirror.shadow.filter due).foldl (fun d x => d.orphan 1 x) { d with
            mirror := { d.mirror with shadow := d.mirror.shadow.filter (fun x => !due x) } }))) ∧
  (∀ (s : State) (d : Dev) (t : Nat) (f : RopeFrame) (b : List Byte) (n : Option Nat) (e : Dev),
      d = s.at t → d.coreOn = true → d.ropeIn f = .take b n → frameType f = 0x18 → e = d.heard n →
      e.team.role = .standby → beAt b 0 8 = e.leg - e.legPu → e.cairnDiffers b = (false, false, false, false) →
      exec (.cairnReceived t f) s = .next (s.finish
        (((({ e with
            mirror := { e.mirror with
                cairnLeg := some (beAt b 0 8), cairnDeltas := some (beAt b 24 4), cairnsMissed := 0,
                hCairns := e.mirror.hCairns + 1, cairnCheck := some (beAt b 0 8 + e.legPu, beAt b 16 8, beAt b 0 8) } } :
          Dev).count 0x2603 6)).cairnSettle))) ∧
  (∀ (s : State) (d : Dev) (t : Nat),
      d = s.at t → d.coreOn = true → d.team.role = .standby ∨ d.mirror.cairnDue = some (d.leg - d.legPu) →
      d.mirror.cairnLeg ≠ some (d.leg - d.legPu) → d.mirror.missedLeg ≠ some (d.leg - d.legPu) →
      d.legAt + 50 * usCycles < d.now →
      exec (.cairnMissing t) s = .next (s.finish
        ((({ d with
            mirror := { d.mirror with cairnsMissed := d.mirror.cairnsMissed + 1, missedLeg := some (d.leg - d.legPu) } } :
          Dev).count 0x2603 8).raise 0xA311 1 (sat 0xFFFFFFFF (d.mirror.cairnsMissed + 1)))))

/-- Mirror deltas (R222). In every state and for all operands that meet a clause's conditions the command answers exactly
the state written. A single delta in order is applied and acknowledged; an acknowledgement drops the older deltas and
completes writes; more than 5 µs without one sends all again. -/
def Obligations.MirrorDeltas : Prop :=
  (∀ (s : State) (d : Dev) (t : Nat) (f : RopeFrame) (b : List Byte) (n : Option Nat) (e : Dev) (x : Delta),
      d = s.at t → d.coreOn = true → d.ropeIn f = .take b n → frameType f = 0x20 → e = d.heard n → e.shadows = true →
      e.team.claiming = none → x = deltaOf b → x.seq = e.mirror.deltaIn → x.cont = false →
      exec (.mirrorDeltaReceived t f) s = .next (s.finish
        ((({ e with
            mirror := { e.mirror with run := [], deltaIn := (e.mirror.deltaIn + 1) % 2 ^ 32 } } : Dev).applyRun
          [x]).deltaAck))) ∧
  (∀ (s : State) (d : Dev) (t : Nat) (f : RopeFrame) (b : List Byte) (n : Option Nat) (e : Dev),
      d = s.at t → d.coreOn = true → d.ropeIn f = .take b n → frameType f = 0x21 → e = d.heard n → e.team.role = .active →
      exec (.deltaAckReceived t f) s = .next (s.finish
        (({ e with
            mirror := { e.mirror with
                deltas := e.mirror.deltas.filter (fun x => decide ((x.seq + 2 ^ 32 - beAt b 0 4) % 2 ^ 32 < 2 ^ 31)) } } :
          Dev).completeWrites false))) ∧
  (∀ (s : State) (d : Dev) (t : Nat) (y : Delta) (ys ds : List Delta),
      d = s.at t → d.coreOn = true → d.mirror.deltas = y :: ys → y.sent + 5 * usCycles < d.now → d.mirrors = true →
      ds = (y :: ys).map (fun z => { z with sent := d.now }) →
      exec (.deltaAckTimeout t) s = .next (s.finish
        ((ds.foldl (fun (d : Dev) z => d.sendDelta z) { d with
            mirror := { d.mirror with deltas := ds } }).count 0x2603 3)))

/-- Audits, segment requests and darning (R223, R224). In every state and for all operands that meet a clause's conditions
the command answers exactly the state written. An audit with a newer version requests the segment; a request is served;
darning begins, takes segments whole, is acknowledged segment by segment, ends, restarts when late, and sends piece by
piece. -/
def Obligations.AuditsAndDarning : Prop :=
  (∀ (s : State) (d : Dev) (t : Nat) (f : RopeFrame) (b : List Byte) (n : Option Nat) (e : Dev),
      d = s.at t → d.coreOn = true → d.ropeIn f = .take b n → frameType f = 0x22 → e = d.heard n → e.shadows = true →
      e.segHeld (beAt b 0 4) = true → e.segVersion (beAt b 0 4) < beAt b 4 4 →
      exec (.auditFrameReceived t f) s = .next (s.finish (e.requestSegment (beAt b 0 4)))) ∧
  (∀ (s : State) (d : Dev) (t : Nat) (f : RopeFrame) (b : List Byte) (n : Option Nat) (e : Dev),
      d = s.at t → d.coreOn = true → d.ropeIn f = .take b n → frameType f = 0x34 → e = d.heard n → e.mirrors = true →
      exec (.segmentRequestReceived t f) s = .next (s.finish ((e.sendSegment (beAt b 0 4)).count 0x2603 9))) ∧
  (∀ (s : State) (d : Dev) (t : Nat) (f : RopeFrame) (b : List Byte) (n : Option Nat) (e : Dev) (g h : Dev),
      d = s.at t → d.coreOn = true → d.ropeIn f = .take b n → frameType f = 0x30 → e = d.heard n →
      e.team.role = .darning →
      g = ((e.put 0x2020 2 (beAt b 4 4)).put 0x2020 1 (beAt b 8 1)).adoptGeneration (beAt b 0 4) →
      h = { g with
          slots := (g.slots.map (fun x => (x.1, { x.2 with fromActive := false }))).filter (fun x => x.2 ≠ ({} : Slot)),
          team := { g.team with change := none },
          mirror := { g.mirror with
              held := [], versions := [], pieces := [], requested := [], run := [], darnStart := g.now, darnLegL := none,
              cairnCheck := none, cairnDeltas := none, ackFrom := some (g.mirror.ackFrom.getD (g.plan.leg + g.legPu)) } }
        →
      exec (.darnBeginReceived t f) s = .next (s.finish
        (((((h.put 0x2604 1 1).put 0x2604 2 (beAt b 20 4)).put 0x2604 3 0).count 0x2603 0x0A).raise 0xA313 1 (beAt b 20
          4)))) ∧
  (∀ (s : State) (d : Dev) (t : Nat) (f : RopeFrame) (b : List Byte) (n : Option Nat) (e : Dev) (x : Delta),
      d = s.at t → d.coreOn = true → d.ropeIn f = .take b n → frameType f = 0x31 → e = d.heard n → e.shadows = true →
      x = deltaOf b → x.seq = 0 → x.offset = 0 → x.data.length = segSize x.seg →
      exec (.darningSegmentReceived t f) s = .next (s.finish
        (({ e with
            mirror := { e.mirror with pieces := e.mirror.pieces.filter (fun p => !(p.1 = x.seg)) } } : Dev).segmentWhole
          x.seg x.version (patch (List.replicate (segSize x.seg) 0) 0 x.data)))) ∧
  (∀ (s : State) (d : Dev) (t : Nat) (f : RopeFrame) (b : List Byte) (n : Option Nat) (e : Dev) (g : Dev),
      d = s.at t → d.coreOn = true → d.ropeIn f = .take b n → frameType f = 0x32 → e = d.heard n → e.mirrors = true →
      e.mirror.darnWait.contains (beAt b 0 4) = true → e.mirror.darning = true →
      g = { e with
          mirror := { e.mirror with
              darnWait := e.mirror.darnWait.filter (· ≠ beAt b 0 4),
              peerHeld := if e.mirror.peerHeld.contains (beAt b 0 4) then e.mirror.peerHeld
                else e.mirror.peerHeld ++ [beAt b 0 4] } } →
      exec (.segmentAckReceived t f) s = .next (s.finish ((g.put 0x2604 3 (g.get 0x2604 3 + 1)).darnEnd))) ∧
  (∀ (s : State) (d : Dev) (t : Nat) (f : RopeFrame) (b : List Byte) (n : Option Nat) (e : Dev),
      d = s.at t → d.coreOn = true → d.ropeIn f = .take b n → frameType f = 0x33 → e = d.heard n →
      e.team.role = .darning → e.get 0x2604 1 = 1 →
      exec (.darnEndReceived t f) s = .next (s.finish
        (({ e with mirror := { e.mirror with darnLegL := some (beAt b 0 8) } } : Dev).put 0x2604 1 2))) ∧
  (∀ (s : State) (d : Dev) (t : Nat) (l : Nat),
      d = s.at t → d.coreOn = true → d.mirror.darnLegL = some l → d.mirrors = true → d.mirror.darning = true →
      d.team.partnerRole = .darning → l + d.legPu = d.leg → d.legAt + 70 * usCycles < d.now →
      exec (.darningCompletionTimeout t) s = .next (s.finish (d.startDarning))) ∧
  (∀ (s : State) (d : Dev) (t : Nat) (l v i : Nat) (x y : List Byte) (ys : List (List Byte)),
      d = s.at t → d.coreOn = true → d.mirror.darning = true → d.mirrors = true → d.mirror.darnNow = some (l, v, i) →
      d.mirror.darnPieces = x :: y :: ys →
      exec (.darningSegmentSend t) s = .next (s.finish
        (({ d with
            mirror := { d.mirror with darnPieces := y :: ys, darnNow := some (l, v, i + 1) } } : Dev).ropeSend 0x31
          (pieceBody i l v (1024 * i) false x))))

/-- Relayed items and pattern frames (R70, R229). In every state and for all operands that meet a clause's conditions the
command answers exactly the state written. A relayed item waits for its tag on a unit that leads; where no rope frame
has left for 10 µs the pattern generator sends 2,048 bits; the checker seeds from the first frame. -/
def Obligations.RelaysAndPatterns : Prop :=
  (∀ (s : State) (d : Dev) (t : Nat) (f : RopeFrame) (b : List Byte) (n : Option Nat) (e : Dev),
      d = s.at t → d.coreOn = true → d.ropeIn f = .take b n → frameType f = 0x50 → e = d.heard n → e.leads = true →
      exec (.relayedItemReceived t f) s = .next (s.finish
        ({ e with waitTag := e.waitTag ++ [e.internalItem 247 (beAt b 8 1) (beAt b 0 8) (b.drop 9) (crc64 (b.drop 9))] }))) ∧
  (∀ (s : State) (d : Dev) (t : Nat) (bs : List Bool) (x : Nat),
      d = s.at t → d.coreOn = true → bits d.loops.ports 14 12 = 0 → d.inTeam = true → d.ropeSends = true →
      d.team.lastSent + 10 * usCycles ≤ d.now → prbs 2048 d.mirror.prbsTx = (bs, x) →
      exec (.patternFrameTimer t) s = .next (s.finish
        (({ d with
            mirror := { d.mirror with prbsTx := x }, team := { d.team with lastSent := d.now } } : Dev).ropeSend 0x3F (bitBytes 256 bs)))) ∧
  (∀ (s : State) (d : Dev) (t : Nat) (f : RopeFrame) (b : List Byte) (n : Option Nat) (e : Dev),
      d = s.at t → d.coreOn = true → d.ropeIn f = .take b n → frameType f = 0x3F → e = d.heard n →
      e.mirror.prbsRx = none →
      exec (.patternFrameReceived t f) s = .next (s.finish
        ({ e with
            mirror := { e.mirror with prbsRx := some (beAt b 252 4 % 2 ^ 31), hPattern := e.mirror.hPattern + 0 } })))

/-- OD-access requests (R261). In every state and for all operands that meet a clause's conditions the command answers
exactly the state written. A served request with the right and an accepted access is answered with status 0 and its data,
one of an unknown type with 0x0504_0001, and a transfer idle for more than 1 s is dropped and answered with 0x0504_0000. -/
def Obligations.OdAccessRequests : Prop :=
  (∀ (s : State) (d : Dev) (t : Nat) (q : OdRequest) (peer : Nat) (r : OdRow) (e : Dev) (v : Nat),
      d = s.at t → Served d q peer → bit (d.get 0x1C02 (peer + 1)) 0 = true → d.enabled .od false = true →
      d.readCheck .od q.idx q.sub = none → dictFind q.idx q.sub = some r → r.ty ≠ .domain → q.len = r.ty.size →
      d.readEntry .od q.idx q.sub = (e, v) →
      exec (.odAccessRead t q) s = .next (s.finish (Dev.odAnswer ⟨e, 0, le r.ty.size v, none⟩ peer .read q))) ∧
  (∀ (s : State) (d : Dev) (t : Nat) (q : OdRequest) (x : Outside) (peer : Nat) (e : Dev),
      d = s.at t → Served d q peer → bit (d.get 0x1C02 (peer + 1)) 1 = true → d.enabled .od true = true →
      d.writeAccess s.otp .od q.idx q.sub (slotAddress q.idx q.sub) (some q.len) (ofLe (q.data.take q.len)) x = ⟨e, none,
        none⟩ →
      exec (.odAccessWrite t q x) s = .next (s.finish (Dev.odAnswer ⟨e, 0, [], none⟩ peer .write q))) ∧
  (∀ (s : State) (d : Dev) (t : Nat) (q : OdRequest) (peer : Nat) (e : Dev) (bs : List Byte),
      d = s.at t → Served d q peer → bit (d.get 0x1C02 (peer + 1)) 0 = true → d.enabled .od false = true →
      d.odDomainCheck peer q false 0 = none → d.domainRead .od q.idx q.sub q.offset (min 1024 q.len) = (e, bs) →
      exec (.odAccessDomainRead t q) s = .next (s.finish
        (Dev.odAnswer ⟨{ e with
            dom := e.dom.set .od { e.dom.get .od with last := e.now } }, 0, bs, none⟩ peer .domainRead q))) ∧
  (∀ (s : State) (d : Dev) (t : Nat) (q : OdRequest) (peer : Nat) (e : Dev) (bs : List Byte) (y : DomainPort),
      d = s.at t → Served d q peer → bit (d.get 0x1C02 (peer + 1)) 1 = true → d.enabled .od true = true →
      bs = (q.data.take q.len).take 1024 → d.odDomainCheck peer q true (q.offset + bs.length) = none →
      e = d.odTarget peer q → y = e.dom.get .od →
      exec (.odAccessDomainWrite t q) s = .next (s.finish
        (Dev.odAnswer ⟨{ e with
            dom := e.dom.set .od { y with
                written := (q.offset, bs) :: y.written, len := max y.len (q.offset + bs.length),
                offset := q.offset + bs.length, status := 1, last := e.now } }, 0, [], none⟩ peer .domainWrite q))) ∧
  (∀ (s : State) (d : Dev) (t : Nat) (q : OdRequest) (peer : Nat),
      d = s.at t → Served d q peer → bit (d.get 0x1C02 (peer + 1)) 1 = true → d.enabled .od true = true →
      d.odDomainCheck peer q true (d.dom.get .od).len = none → (d.dom.get .od).status = 1 →
      (d.dom.get .od).target = q.idx % 65536 * 256 + q.sub % 256 → ((d.domCommit .od).dom.get .od).status = 2 →
      exec (.odAccessDomainCommit t q) s = .next (s.finish
        (Dev.odAnswer ⟨d.domCommit .od, 0, [], none⟩ peer .domainCommit q))) ∧
  (∀ (s : State) (d : Dev) (t : Nat) (q : OdRequest) (peer : Nat),
      d = s.at t → Served d q peer → bit (d.get 0x1C02 (peer + 1)) 1 = true → d.enabled .od true = true →
      d.odDomainCheck peer q true 0 = none →
      exec (.odAccessDomainAbort t q) s = .next (s.finish
        (Dev.odAnswer ⟨{ d with
            dom := d.dom.set .od { d.dom.get .od with written := [], len := 0, status := 0 } }, 0, [], none⟩ peer
          .domainAbort q))) ∧
  (∀ (s : State) (d : Dev) (t : Nat) (q : OdRequest) (type : Byte) (peer : Nat),
      d = s.at t → Served d q peer → 6 < type.toNat →
      bit (d.get 0x1C02 (peer + 1)) 0 = true ∨ bit (d.get 0x1C02 (peer + 1)) 1 = true →
      d.enabled .od false = true ∨ d.enabled .od true = true →
      exec (.odAccessUnknownType t q type) s = .next (s.finish
        (Dev.odAnswer ⟨d, 0x05040001, [], none⟩ peer (.other type.toNat) q))) ∧
  (∀ (s : State) (d : Dev) (t : Nat) (peer : Nat) (q : OdRequest) (e : Dev),
      d = s.at t → d.coreOn = true → (d.dom.get .od).status = 1 → (d.dom.get .od).last + 1000 * msCycles < d.now →
      d.odOpen = some (peer, q) →
      e = { d with dom := d.dom.set .od { d.dom.get .od with written := [], len := 0, status := 0 }, odOpen := none } →
      exec (.odAccessDomainTimeout t) s = .next (s.finish
        (e.odReply q (odReplyBody q .domainWrite 0x05040000 []))))

/-- Serial reception and line stuck (R271, R273, R274, R288). In every state and for all operands that meet a clause's
conditions the command answers exactly the state written. The samples of the line are decided from the falling edge on: a
character of the outcome its Format gives is counted and delivered, to the parse context or FIFO on the PORT clock and to the
wake buffer on the keep-alive clock; a start decided high is counted as a false start; no edge leaves the line's level alone.
A line low for Stuck time ends its run and its item and is marked, counted and raised; one high for a character time is
free again, which clears the alert with the last and arms a watch channel of BIVOUAC. -/
def Obligations.SerialReception : Prop :=
  (∀ (s : State) (d : Dev) (t : Nat) (n : Fin 192) (samples : List Bool) (edge : Nat) (b : SerBits) (high : Bool)
       (ch : RxChar) (e : Dev),
      d = s.at t → (d.serCh n.val).stuck = false → d.serLoop n.val ≠ 1 → d.serLoop n.val ≠ 2 → d.serRuns n.val = true →
      (d.serCh n.val).ka = false → serSampled (d.serFormat n.val) (d.serCh n.val).high samples = some (b, high) →
      serOutcome (d.serFormat n.val) b = some ch → e = d.setSer n.val { d.serCh n.val with high := high } →
      (e.serCh n.val).rxPend = false → (e.serCh n.val).blind = false →
      exec (.serialCharDecided t n samples edge) s = .next (s.finish ((e.serCount n.val ch).serDeliver n.val ch edge))) ∧
  (∀ (s : State) (d : Dev) (t : Nat) (n : Fin 192) (samples : List Bool) (edge : Nat) (b : SerBits) (high : Bool)
       (ch : RxChar) (e : Dev),
      d = s.at t → (d.serCh n.val).stuck = false → d.serLoop n.val ≠ 1 → d.serLoop n.val ≠ 2 → d.serKa n.val = true →
      (d.serCh n.val).ka = true → serSampled (d.serFormat n.val) (d.serCh n.val).high samples = some (b, high) →
      serOutcome (d.serFormat n.val) b = some ch → e = d.setSer n.val { d.serCh n.val with high := high } →
      (e.serCh n.val).rxPend = false → (e.serCh n.val).blind = false →
      exec (.serialCharDecided t n samples edge) s = .next (s.finish ((e.serCount n.val ch).wakeChar n.val ch edge))) ∧
  (∀ (s : State) (d : Dev) (t : Nat) (n : Fin 192) (samples : List Bool) (edge : Nat) (b : SerBits) (high : Bool) (e : Dev),
      d = s.at t → (d.serCh n.val).stuck = false → d.serLoop n.val ≠ 1 → d.serLoop n.val ≠ 2 →
      d.serRuns n.val = true ∨ d.serKa n.val = true →
      serSampled (d.serFormat n.val) (d.serCh n.val).high samples = some (b, high) → b.start = true →
      e = d.setSer n.val { d.serCh n.val with high := high } → (e.serCh n.val).rxPend = false →
      (e.serCh n.val).blind = false →
      exec (.serialCharDecided t n samples edge) s = .next (s.finish (e.count (0x3000 + n.val) 0x25))) ∧
  (∀ (s : State) (d : Dev) (t : Nat) (n : Fin 192) (samples : List Bool) (edge : Nat),
      d = s.at t → (d.serCh n.val).stuck = false → d.serLoop n.val ≠ 1 → d.serLoop n.val ≠ 2 →
      d.serRuns n.val = true ∨ d.serKa n.val = true →
      serSampled (d.serFormat n.val) (d.serCh n.val).high samples = none →
      exec (.serialCharDecided t n samples edge) s = .next (s.finish
        (d.setSer n.val { d.serCh n.val with high := samples.getLastD (d.serCh n.val).high }))) ∧
  (∀ (s : State) (d : Dev) (t : Nat) (n : Fin 192) (edge : Nat) (e : Dev),
      d = s.at t → (d.serCh n.val).stuck = false → d.serRuns n.val = true → (d.serCh n.val).ka = false →
      edge + d.get (0x3000 + n.val) 6 * msCycles ≤ d.now →
      e = d.setSer n.val { d.serCh n.val with
          stuck := true, high := false,
          wakeBuf := if (d.serCh n.val).wakeHit.isSome then (d.serCh n.val).wakeBuf else [] } →
      exec (.lineStuckEntry t n edge) s = .next (s.finish
        (((((e.closeRun n.val).endItem n.val).serSticky n.val 2).count (0x3000 + n.val) 0x26).raiseKa 0xA420 2 n.val))) ∧
  (∀ (s : State) (d : Dev) (t : Nat) (n : Fin 192) (edge : Nat) (buf : List (RxChar × Nat)) (e : Dev),
      d = s.at t → (d.serCh n.val).stuck = false → d.serKa n.val = true → (d.serCh n.val).ka = true →
      edge + d.get (0x3000 + n.val) 6 * msCycles ≤ d.now →
      buf = (if (d.serCh n.val).wakeHit.isSome then (d.serCh n.val).wakeBuf else []) →
      e = d.setSer n.val { d.serCh n.val with
          stuck := true, high := false, wakeBuf := buf, wakeCuts := (d.serCh n.val).wakeCuts ++ [buf.length] } →
      exec (.lineStuckEntry t n edge) s = .next (s.finish
        ((((e.closeRun n.val).serSticky n.val 2).count (0x3000 + n.val) 0x26).raiseKa 0xA420 2 n.val))) ∧
  (∀ (s : State) (d : Dev) (t : Nat) (n : Fin 192) (edge : Nat) (e : Dev),
      d = s.at t → (d.serCh n.val).stuck = true → edge + d.rxTime n.val 1 ≤ d.now → d.pw.st ≠ .bivouac →
      e = d.setSer n.val { d.serCh n.val with stuck := false, high := true } →
      exec (.lineStuckExit t n edge) s = .next (s.finish
        (if e.coreOn = true ∧ e.ser.any (fun kv => kv.2.stuck) = false then e.clearAlert 0xA420 else e))) ∧
  (∀ (s : State) (d : Dev) (t : Nat) (n : Fin 192) (edge : Nat) (e : Dev),
      d = s.at t → (d.serCh n.val).stuck = true → edge + d.rxTime n.val 1 ≤ d.now → d.pw.st = .bivouac →
      d.pw.armed = true → n.val < 16 → (d.serCh n.val).ka = false → d.serWake n.val = 2 ∨ d.serWake n.val = 3 →
      d.serMode n.val ≠ 0 → e = d.setSer n.val { d.serCh n.val with stuck := false, high := true } →
      exec (.lineStuckExit t n edge) s = .next (s.finish (e.armReceiver n.val)))

/-- Serial wake and the wake buffer (R288, R289, R290). In every state and for all operands that meet a clause's conditions
the command answers exactly the state written. In BIVOUAC a start edge wakes a channel with Wake 1 that is not stuck; a
matched header or address gives its wake event once; the first event sets the wake cause and the stamp. At the handover in
SERVICE the receiver leaves the keep-alive clock and each character of its buffer passes the mute and goes on, in order, with
the item cut where the line became stuck: no character is lost. -/
def Obligations.SerialWake : Prop :=
  (∀ (s : State) (d : Dev) (t : Nat) (n : Fin 192) (e : Dev),
      d = s.at t → d.pw.st = .bivouac → d.pw.armed = true → d.serWake n.val = 1 → d.serMode n.val ≠ 0 →
      (d.serCh n.val).stuck = false → d.pw.wakeOut = false → d.pw.entryDone ≤ d.now →
      e = (d.put 0x2001 6 (2 ^ 31 + (0xFF * 256 + n.val) % 2 ^ 16)).put 0x2001 7 d.stamp →
      exec (.serialStartEdgeWake t n) s = .next (s.finish
        ({ e with pw := { e.pw with wakeOut := true, wakeAlert := some (0xA422, 0xFF * 256 + n.val) } }))) ∧
  (∀ (s : State) (d : Dev) (t : Nat) (n : Fin 192) (r : Nat),
      d = s.at t → d.pw.st = .bivouac → (d.serCh n.val).wakeHit = some r → (d.serCh n.val).ka = true →
      (d.serCh n.val).wakeTold = false → d.serWake n.val = 2 →
      exec (.serialHeaderWake t n) s = .next (s.finish
        ((d.setSer n.val { d.serCh n.val with wakeTold := true }).wakeEvent 0 0xA422 (r * 256 + n.val)))) ∧
  (∀ (s : State) (d : Dev) (t : Nat) (n : Fin 192) (r : Nat),
      d = s.at t → d.pw.st = .bivouac → (d.serCh n.val).wakeHit = some r → (d.serCh n.val).ka = true →
      (d.serCh n.val).wakeTold = false → d.serWake n.val = 3 →
      exec (.serialAddressWake t n) s = .next (s.finish
        ((d.setSer n.val { d.serCh n.val with wakeTold := true }).wakeEvent 0 0xA422 (r * 256 + n.val)))) ∧
  (∀ (s : State) (d : Dev) (t : Nat) (n : Fin 192) (x : SerCh) (e g : Dev) (feed : Dev → (RxChar × Nat) × Nat → Dev),
      d = s.at t → d.pw.st = .service → d.serCh n.val = x → x.ka = true →
      e = d.setSer n.val { x with ka := false, wakeBuf := [], wakeHit := none, wakeTold := false, wakeCuts := [] } →
      feed = (fun (d : Dev) (c : (RxChar × Nat) × Nat) =>
        match (if x.wakeCuts.contains c.2 then d.endItem n.val else d).serMute n.val c.1.1 with
        | (d, false) => d
        | (d, true) =>
          if d.serMode n.val = 1 then d.feedChar n.val c.1.1 (d.stampBack c.1.2) 2 d.now
          else if d.serMode n.val = 2 then d.serDeliver n.val c.1.1 c.1.2
          else d) →
      g = x.wakeBuf.zipIdx.foldl feed e →
      exec (.wakeBufferHandover t n) s = .next (s.finish
        (if x.wakeCuts.contains x.wakeBuf.length then g.endItem n.val else g)))

/-- Serial registers in RAW mode (R275, R279, R286). In every state and for all operands that meet a clause's conditions the
command answers exactly the state written. A Baud write takes the divisor, at once or after the character received; RX
status reads the FIFO and notes it; RX data pops the head; TX data joins the transmit FIFO. -/
def Obligations.SerialRegisters : Prop :=
  (∀ (s : State) (d : Dev) (t : Nat) (tr : Transport) (n : Fin 192) (v : Word32) (rxBusy : Bool),
      d = (s.at t).accessBegins tr → Accepted d tr (0x3000 + n.val) 2 v.toNat →
      exec (.baudWrite t tr n v rxBusy) s = .next (s.finish
        (((d.setSer n.val { d.serCh n.val with
            txPend := true, rxPend := rxBusy, rxDiv := if rxBusy then (d.serCh n.val).rxDiv else divisorOf v.toNat }).put
          (0x3000 + n.val) 2 v.toNat).pWritten (0x3000 + n.val) 2 v.toNat))) ∧
  (∀ (s : State) (d : Dev) (t : Nat) (tr : Transport) (n : Fin 192),
      d = (s.at t).accessBegins tr → d.reaches tr = true → d.readCheck tr (0x3000 + n.val) 0x10 = none →
      exec (.rxStatusRead t tr n) s = .next (s.finish
        ((d.setSer n.val { d.serCh n.val with
            statusRead := (d.serCh n.val).statusRead.set tr true }).valueTaken tr (d.rxStatus n.val)))) ∧
  (∀ (s : State) (d : Dev) (t : Nat) (tr : Transport) (n : Fin 192) (ch : RxChar) (rest : List RxChar) (e : Dev),
      d = (s.at t).accessBegins tr → d.reaches tr = true → d.readCheck tr (0x3000 + n.val) 0x11 = none → d.serMode n.val = 2 →
      (d.serCh n.val).rx = ch :: rest → (d.serCh n.val).statusRead.get tr = true →
      e = d.setSer n.val { d.serCh n.val with statusRead := (d.serCh n.val).statusRead.set tr false } →
      e.serMode n.val = 2 → (e.tunnelIn false n.val 0).isSome = false →
      exec (.rxDataRead t tr n) s = .next (s.finish
        (((e.setSer n.val { e.serCh n.val with
            rx := rest }).rtsUpdate n.val).valueTaken tr (2 ^ 15 + 256 * b2n (ch.addr && ((e.setSer n.val { e.serCh n.val with
            rx := rest }).rtsUpdate n.val).nineBit n.val) + ch.data.toNat)))) ∧
  (∀ (s : State) (d : Dev) (t : Nat) (tr : Transport) (n : Fin 192) (v : BitVec 16) (cts : Bool),
      d = (s.at t).accessBegins tr → Accepted d tr (0x3000 + n.val) 0x13 v.toNat → d.serMode n.val = 2 → (d.serCh n.val).tx.length < 64 →
      exec (.txDataWrite t tr n v cts) s = .next (s.finish
        (((d.setSer n.val { d.serCh n.val with
            tx := (d.serCh n.val).tx ++ [(BitVec.ofNat 8 v.toNat, bit v.toNat 8)] }).ctsTold n.val cts).serNext n.val)))

/-- Serial transmission (R281, R284, R285). In every state and for all operands that meet a clause's conditions the command
answers exactly the state written. A sent character is counted and driven and the next looked for; a collision withdraws it;
a retry, CTS and idle gap of a tunnel act at their instants; driver enable falls one bit time after the last stop bit. -/
def Obligations.SerialTransmission : Prop :=
  (∀ (s : State) (d : Dev) (t : Nat) (n : Fin 192) (cts : Bool) (ch : Byte × Bool) (e g : Dev),
      d = s.at t → d.coreOn = true → (d.serCh n.val).shift = some ch → (d.serCh n.val).shiftRaw = true →
      d.serLoop n.val = 0 →
      e = (d.setSer n.val { d.serCh n.val with shift := none, txEnd := d.now, quiet := d.now }).ctsTold n.val cts →
      e.serLive n.val = true → g = e.count (0x3000 + n.val) 0x28 → g.serDrives n.val = true →
      (g.emit (.serial n.val ch.1 ch.2)).serLoop n.val = 0 →
      exec (.serialCharSent t n cts) s = .next (s.finish ((g.emit (.serial n.val ch.1 ch.2)).serNext n.val))) ∧
  (∀ (s : State) (d : Dev) (t : Nat) (n : Fin 192),
      d = s.at t → d.coreOn = true → (d.serCh n.val).shift.isSome = true → d.serHdx n.val = true →
      (d.serCh n.val).shiftRaw = true →
      exec (.serialCollision t n) s = .next (s.finish
        ((((d.setSer n.val { d.serCh n.val with
            shift := none, de := false, txEnd := d.now, quiet := d.now, coll := (d.serCh n.val).coll + 1 }).serSticky
          n.val 3).count (0x3000 + n.val) 0x29).raiseFrom 0xA424 1 (decide (4 ≤ (d.serCh n.val).coll + 1)) (countDetail n.val)))) ∧
  (∀ (s : State) (d : Dev) (t : Nat) (n : Fin 192) (cts : Bool) (w : Nat),
      d = s.at t → d.coreOn = true → (d.serCh n.val).waitUntil = some w → w ≤ d.now →
      exec (.collisionRetryTimer t n cts) s = .next (s.finish
        (((d.setSer n.val { d.serCh n.val with waitUntil := none }).ctsTold n.val cts).serNext n.val))) ∧
  (∀ (s : State) (d : Dev) (t : Nat) (n : Fin 192) (k st q w : Nat) (row : List Word32) (bs : List Byte),
      d = s.at t → d.coreOn = true → d.tunnelIn false n.val 0 = some (k, row) →
      (d.serCh n.val).run = some (st, q, bs, w) → w + d.rxTime n.val (fieldOf row 1 15 8) < d.now →
      exec (.tunnelIdleGap t n) s = .next (s.finish
        ((d.setSer n.val { d.serCh n.val with run := none }).cutRun n.val k 0 st q bs))) ∧
  (∀ (s : State) (d : Dev) (t : Nat) (n : Fin 192),
      d = s.at t → d.coreOn = true →
      exec (.ctsAsserted t n) s = .next (s.finish ((d.ctsTold n.val true).serNext n.val))) ∧
  (∀ (s : State) (d : Dev) (t : Nat) (n : Fin 192),
      d = s.at t → d.coreOn = true → (d.serCh n.val).de = true → (d.serCh n.val).shift = none →
      (d.serCh n.val).txEnd + ceilDiv (d.serCh n.val).txDiv 4 ≤ d.now →
      exec (.deRelease t n) s = .next (s.finish (d.setSer n.val { d.serCh n.val with de := false })))

/-- CAN frames and errors (R297, R301, R304). In every state and for all operands that meet a clause's conditions the
command answers exactly the state written. A received frame is counted and becomes data, or reaches the SDO server; an
FD frame in CLASSIC is a protocol exception, after which the controller waits for bus idle; a sent frame is counted and the
next looked for; errors move the counters, bus-off above 255, and in selective listen are only counted; a dominant
timeout is bus-off; a stuck bus is marked and cleared; recovery ends bus-off; integration joins the bus. -/
def Obligations.CanBus : Prop :=
  (∀ (s : State) (d : Dev) (t : Nat) (n : Fin 16) (f : CanFrame) (sof : Nat) (x : Outside) (e : Dev),
      d = s.at t → d.coreOn = true → d.canOnBus n.val = true → f.fdf = true → d.canMode n.val = 2 → d.canLoop n.val ≠ 1 →
      e = (d.count (0x3100 + n.val) 0x28).sticky (0x3100 + n.val) 7 2 →
      exec (.canFrameReceived t n f ⟨sof, x⟩) s = .next (s.finish
        (e.setCan n.val { e.canCh n.val with sync := false, tx := none }))) ∧
  (∀ (s : State) (d : Dev) (t : Nat) (n : Fin 16) (f : CanFrame) (sof : Nat) (x : Outside) (e : Dev),
      d = s.at t → d.coreOn = true → d.canOnBus n.val = true → (f.fdf = true → d.canMode n.val ≠ 2) →
      e = ((d.count (0x3100 + n.val) 0x20).canRxGood n.val).canShadow n.val f → d.isSdo n.val f = false →
      e.isSdo n.val f = false → d.canLoop n.val ≠ 1 →
      exec (.canFrameReceived t n f ⟨sof, x⟩) s = .next (s.finish (e.canData n.val f sof))) ∧
  (∀ (s : State) (d : Dev) (t : Nat) (n : Fin 16) (f : CanFrame) (sof : Nat) (x : Outside) (e : Dev),
      d = s.at t → d.coreOn = true → d.canOnBus n.val = true → (f.fdf = true → d.canMode n.val ≠ 2) →
      e = ((d.count (0x3100 + n.val) 0x20).canRxGood n.val).canShadow n.val f → d.isSdo n.val f = true →
      e.isSdo n.val f = true → f.ident / 128 = 12 → d.canLoop n.val ≠ 1 →
      exec (.canFrameReceived t n f ⟨sof, x⟩) s = .next (s.finish (e.sdoTake s.otp f x))) ∧
  (∀ (s : State) (d : Dev) (t : Nat) (n : Fin 16) (f : CanFrame) (e g h : Dev),
      d = s.at t → d.coreOn = true → (d.canCh n.val).tx = some (.prio, f) → d.canLoop n.val = 0 →
      e = d.setCan n.val { d.canCh n.val with tx := none } →
      g = e.setCan n.val { e.canCh n.val with prio := (e.canCh n.val).prio.drop 1 } → g.canIdle n.val = false →
      h = ((g.count (0x3100 + n.val) 0x23).canDrive n.val f).canTxGood n.val →
      h.canLoop n.val = 0 →
      exec (.canFrameSent t n) s = .next (s.finish (h.canNext n.val))) ∧
  (∀ (s : State) (d : Dev) (t : Nat) (n : Fin 16) (asTx : Bool) (x : CanFault) (tec rec : Nat) (e : Dev),
      d = s.at t → d.coreOn = true → d.canOnBus n.val = true → (d.canCh n.val).sleep ≠ .agreed →
      faultCounts x asTx (d.canCh n.val).tx.isSome (d.canCh n.val).txErr (d.canCh n.val).rxErr = (tec, rec) → tec ≤ 255 →
      e = (if faultIsError x then d.count (0x3100 + n.val) 0x24 else d) →
      exec (.canError t n asTx x) s = .next (s.finish (e.canCounts n.val tec rec))) ∧
  (∀ (s : State) (d : Dev) (t : Nat) (n : Fin 16) (asTx : Bool) (x : CanFault) (tec rec : Nat) (e : Dev),
      d = s.at t → d.coreOn = true → d.canOnBus n.val = true → (d.canCh n.val).sleep ≠ .agreed →
      faultCounts x asTx (d.canCh n.val).tx.isSome (d.canCh n.val).txErr (d.canCh n.val).rxErr = (tec, rec) → 255 < tec →
      e = (if faultIsError x then d.count (0x3100 + n.val) 0x24 else d) →
      exec (.canError t n asTx x) s = .next (s.finish ((e.canCounts n.val tec rec).canBusOff n.val))) ∧
  (∀ (s : State) (d : Dev) (t : Nat) (n : Fin 16) (asTx : Bool) (x : CanFault),
      d = s.at t → d.coreOn = true → d.canOnBus n.val = true → (d.canCh n.val).sleep = .agreed → faultIsError x = true →
      exec (.canError t n asTx x) s = .next (s.finish (d.count (0x3100 + n.val) 0x2B))) ∧
  (∀ (s : State) (d : Dev) (t : Nat) (n : Fin 16),
      d = s.at t → d.coreOn = true → d.canOnBus n.val = true →
      exec (.txDominantTimeout t n) s = .next (s.finish
        ((((d.sticky (0x3100 + n.val) 7 0x20).count (0x3100 + n.val) 0x27).raise 0xA432 2 n.val).canBusOff n.val))) ∧
  (∀ (s : State) (d : Dev) (t : Nat) (n : Fin 16) (edge : Nat) (e : Dev) (k : Nat),
      d = s.at t → d.coreOn = true → (d.canCh n.val).stuck = false → d.canPowered n.val = true →
      edge + d.get (0x3100 + n.val) 5 * msCycles ≤ d.now → d.canCustodyLoss n.val = (e, k) →
      exec (.canStuckDominant t n edge) s = .next (s.finish
        ((((e.setCan n.val { e.canCh n.val with
            stuck := true, sync := false }).sticky (0x3100 + n.val) 7 0x10).count (0x3100 + n.val) 0x26).raise 0xA431 2
          (sat 0xFFFF k * 2 ^ 16 + n.val)))) ∧
  (∀ (s : State) (d : Dev) (t : Nat) (n : Fin 16) (edge : Nat) (e : Dev),
      d = s.at t → d.coreOn = true → (d.canCh n.val).stuck = true →
      edge * 1250 + 11 * bitPs (d.get (0x3100 + n.val) 2) ≤ d.ps →
      e = d.setCan n.val { d.canCh n.val with stuck := false } →
      (List.range 16).any (fun m => (e.canCh m).stuck) = false →
      exec (.canStuckClear t n edge) s = .next (s.finish (e.clearAlert 0xA431))) ∧
  (∀ (s : State) (d : Dev) (t : Nat) (tr : Transport) (n : Fin 16),
      d = (s.at t).accessBegins tr → Accepted d tr (0x3100 + n.val) 8 1 → (d.canCh n.val).busOff = true →
      bit (d.get (0x3100 + n.val) 4) 1 = false →
      exec (.recoveryRequest t tr n) s = .next (s.finish (d.setCan n.val { d.canCh n.val with recovering := true }))) ∧
  (∀ (s : State) (d : Dev) (t : Nat) (n : Fin 16) (e : Dev),
      d = s.at t → d.coreOn = true → (d.canCh n.val).busOff = true → (d.canCh n.val).recovering = true →
      e = (d.setCan n.val { d.canCh n.val with busOff := false, recovering := false, sync := true }).canCounts n.val 0 0 →
      (List.range 16).any (fun m => (e.canCh m).busOff) = false →
      exec (.busOffRecoveryComplete t n) s = .next (s.finish ((e.clearAlert 0xA430).canNext n.val))) ∧
  (∀ (s : State) (d : Dev) (t : Nat) (n : Fin 16),
      d = s.at t → d.coreOn = true → d.canRuns n.val = true → (d.canCh n.val).sync = false →
      (d.canCh n.val).busOff = false →
      exec (.canBusIntegration t n) s = .next (s.finish
        ((d.setCan n.val { d.canCh n.val with sync := true }).canNext n.val)))

/-- Edge-network sleep (R306, R307). In every state and for all operands that meet a clause's conditions the command answers
exactly the state written. Arm, disarm, wake request, agreement, report, commit, re-wake window, wake on a committed bus,
wake input and the end of T_valid each move the sleep state as R306 and R307 give. -/
def Obligations.EdgeSleep : Prop :=
  (∀ (s : State) (d : Dev) (t : Nat) (tr : Transport) (n : Fin 16) (e : Dev),
      d = (s.at t).accessBegins tr → Accepted d tr (0x2C10 + n.val) 1 1 → e = d.put (0x2C10 + n.val) 1 1 → (e.canCh n.val).sleep = .awake →
      exec (.armSleep t tr n) s = .next (s.finish
        (((e.setCan n.val { e.canCh n.val with
            sleep := .armed, armBy := e.inMs (e.nm n.val 7), seen := false, reported := false }).startReport n.val).mWritten))) ∧
  (∀ (s : State) (d : Dev) (t : Nat) (tr : Transport) (n : Fin 16) (e : Dev),
      d = (s.at t).accessBegins tr → Accepted d tr (0x2C10 + n.val) 1 0 → e = d.put (0x2C10 + n.val) 1 0 → (e.canCh n.val).sleep = .armed →
      exec (.disarmSleep t tr n) s = .next (s.finish ((e.setCan n.val { e.canCh n.val with sleep := .awake }).mWritten))) ∧
  (∀ (s : State) (d : Dev) (t : Nat) (tr : Transport) (n : Fin 16),
      d = (s.at t).accessBegins tr → Accepted d tr (0x2C10 + n.val) 2 1 → (d.canCh n.val).stuck = false → (d.canCh n.val).sleep = .asleep →
      exec (.wakeRequest t tr n) s = .next (s.finish
        (d.setCan n.val { d.canCh n.val with sleep := .waking, sync := false, validBy := d.inMs (d.nm n.val 9) }))) ∧
  (∀ (s : State) (d : Dev) (t : Nat) (n : Fin 16) (w : Nat),
      d = s.at t → d.coreOn = true → (d.canCh n.val).sleep = .armed → (d.canCh n.val).reqBy = some w → w < d.stamp →
      (d.canCh n.val).custody = [] →
      exec (.sleepAgreement t n) s = .next (s.finish
        ((d.setCan n.val { d.canCh n.val with
            sleep := .agreed, commitBy := d.inMs (d.nm n.val 8) }).count (0x2C10 + n.val) 0x20))) ∧
  (∀ (s : State) (d : Dev) (t : Nat) (n : Fin 16) (k : Nat),
      d = s.at t → d.coreOn = true → (d.canCh n.val).sleep = .armed → (d.canCh n.val).reported = false →
      (d.canCh n.val).reportBy ≤ d.stamp →
      k = b2n (bit (d.nm n.val 0x0C) 31) * 2 ^ 16 + d.nm n.val 0x0C % 256 * 256 + n.val →
      exec (.reportTimerExpiry t n) s = .next (s.finish
        (((((d.setCan n.val { d.canCh n.val with
            reported := true }).count (0x2C10 + n.val) 0x26).raise 0xA437 1 k).journal 0xA437 1 k)))) ∧
  (∀ (s : State) (d : Dev) (t : Nat) (n : Fin 16),
      d = s.at t → d.coreOn = true → (d.canCh n.val).sleep = .agreed → (d.canCh n.val).commitBy < d.stamp →
      exec (.commitDelayExpiry t n) s = .next (s.finish
        ((d.setCan n.val { d.canCh n.val with
            sleep := .committed, tx := none, sync := false, windowBy := d.inMs 1 }).count (0x2C10 + n.val) 0x21))) ∧
  (∀ (s : State) (d : Dev) (t : Nat) (n : Fin 16),
      d = s.at t → d.coreOn = true → (d.canCh n.val).sleep = .committed → (d.canCh n.val).windowBy < d.stamp →
      exec (.rewakeWindowEnd t n) s = .next (s.finish (d.setCan n.val { d.canCh n.val with sleep := .asleep }))) ∧
  (∀ (s : State) (d : Dev) (t : Nat) (n : Fin 16) (e : Dev),
      d = s.at t → d.coreOn = true → (d.canCh n.val).sleep = .committed → d.stamp ≤ (d.canCh n.val).windowBy →
      (d.canCh n.val).stuck = false → e = d.count (0x2C10 + n.val) 0x23 →
      exec (.committedBusWake t n) s = .next (s.finish
        (e.setCan n.val { e.canCh n.val with sleep := .waking, sync := false, validBy := e.inMs (e.nm n.val 9) }))) ∧
  (∀ (s : State) (d : Dev) (t : Nat) (n : Fin 16),
      d = s.at t → d.pw.st = .bivouac → d.nm n.val 0x0B ≠ 0 → d.pw.armed = true → (d.canCh n.val).stuckThen = false →
      exec (.canWakeInput t n) s = .next (s.finish
        ((d.setCan n.val { d.canCh n.val with woke := true }).wakeEvent 1 0xA435 n.val))) ∧
  (∀ (s : State) (d : Dev) (t : Nat) (n : Fin 16),
      d = s.at t → d.coreOn = true → (d.canCh n.val).sleep = .waking → (d.canCh n.val).validBy < d.stamp →
      d.armed n.val = true →
      exec (.tValidExpiry t n) s = .next (s.finish
        (((d.setCan n.val { d.canCh n.val with
            sleep := .asleep, tx := none, sync := false }).count (0x2C10 + n.val) 0x24).raise 0xA436 1 n.val)))

/-- Accesses over the HLB (R317, R319, R322, R323). In every state and for all operands that meet a clause's conditions the
command answers exactly the state written. Local reads and writes are performed; a delayed write completes and its slot
expires; remote reads and writes go through their windows; fetches, posted writes, the write log, locks and timeouts end as
their rules give. -/
def Obligations.HlbAccesses : Prop :=
  (∀ (s : State) (d : Dev) (t : Nat) (addr : Word32) (x : Outside) (k : Nat),
      d = s.at t → d.on = true → isRemote addr.toNat = false → bit d.clk.inReset 1 = false → addr.toNat < 0x20000000 →
      exec (.hlbLocalAccess t addr (.read k) x) s = .next (s.finish (d.hlbReads (beatAddrs (addr.toNat / 4 * 4) k)))) ∧
  (∀ (s : State) (d : Dev) (t : Nat) (addr : Word32) (x : Outside) (bs : List (Nat × Nat)) (ws : List (Nat × Nat × Nat)),
      d = s.at t → d.on = true → isRemote addr.toNat = false → bit d.clk.inReset 1 = false → addr.toNat < 0x20000000 →
      ws = ((beatAddrs (addr.toNat / 4 * 4) bs.length).zip bs).map (fun w => (w.1, w.2.1, w.2.2)) →
      d.bridge.slots.any (fun y => (y.st == .writing || y.st == .written) && y.addr = addr.toNat / 4 * 4 && y.data = bs) =
        false →
      ws.any (fun w => decide (w.1 < 0x02000000) && d.delays w.1 w.2.1 w.2.2) = false →
      exec (.hlbLocalAccess t addr (.write bs) x) s = .next (s.finish ((d.hlbWrites s.otp x ws).hlbOut .hlbDone))) ∧
  (∀ (s : State) (d : Dev) (t : Nat) (k : Fin 4) (y : BridgeSlot),
      d = s.at t → d.coreOn = true → d.bridge.slots[k.val]? = some y → y.st = .writing → d.mirrors = false →
      exec (.delayedWriteComplete t k) s = .next (s.finish (d.setSlot4 k.val { y with st := .written, since := d.now }))) ∧
  (∀ (s : State) (d : Dev) (t : Nat) (k : Fin 4) (y : BridgeSlot),
      d = s.at t → d.coreOn = true → d.bridge.slots[k.val]? = some y → y.st = .written → y.since + 10 * msCycles < d.now →
      exec (.delayedWriteSlotExpiry t k) s = .next (s.finish (d.setSlot4 k.val {}))) ∧
  (∀ (s : State) (d : Dev) (t : Nat) (addr : Word32) (beats : Nat) (lock : Bool),
      d = s.at t → d.on = true → d.hlbReady = true → isRemote addr.toNat = true → d.winEnabled (winOf addr.toNat) = true →
      d.bridge.sem = none → badBurst addr.toNat beats = false → lock = false →
      exec (.hlbRemoteRead t addr beats lock) s = .next (s.finish
        (Dev.replied ((d.clearSnaps (winOf addr.toNat)).readSlot addr.toNat beats beats)))) ∧
  (∀ (s : State) (d : Dev) (t : Nat) (k : Fin 4) (y : BridgeSlot) (v : Nat) (w : Option Nat),
      d = s.at t → d.coreOn = true → d.bridge.slots[k.val]? = some y → y.st = .fetching → y.prefetch = false →
      exec (.remoteFetchComplete t k (.ok v w)) s = .next (s.finish
        (d.setSlot4 k.val { y with st := .fetched, value := some v, since := d.now }))) ∧
  (∀ (s : State) (d : Dev) (t : Nat) (k : Fin 4) (y : BridgeSlot) (a : Nat),
      d = s.at t → d.coreOn = true → d.bridge.slots[k.val]? = some y → y.st = .fetching →
      exec (.remoteFetchComplete t k (.abort a)) s = .next (s.finish (d.fetchFailed k.val y a))) ∧
  (∀ (s : State) (d : Dev) (t : Nat) (k : Fin 4) (y : BridgeSlot) (v : Nat) (e : Dev),
      d = s.at t → d.coreOn = true → d.bridge.slots[k.val]? = some y → y.st = .fetched → y.since + 10 * msCycles < d.now →
      y.value = some v → e = (d.setSlot4 k.val {}).count 0x2740 2 → (e.window (winOf y.addr)).prefetch = none →
      exec (.delayedReadAbandon t k) s = .next (s.finish
        (e.discardSlots (winOf y.addr) [(slotOf (winOffset y.addr), v)]))) ∧
  (∀ (s : State) (d : Dev) (t : Nat) (addr : Word32) (beats : List (Nat × Nat)) (lock : Bool),
      d = s.at t → d.on = true → d.hlbReady = true → isRemote addr.toNat = true → d.winEnabled (winOf addr.toNat) = true →
      d.bridge.sem = none → badBurst addr.toNat beats.length = false → lock = false →
      exec (.hlbRemoteWrite t addr beats lock) s = .next (s.finish
        (Dev.replied ((d.clearSnaps 8).beatWrites (winOf addr.toNat) false addr.toNat beats)))) ∧
  (∀ (s : State) (d : Dev) (t : Nat) (w : Fin 8) (y : Posted) (v : Nat) (z : Option Nat),
      d = s.at t → d.coreOn = true → d.bridge.posted.find? (fun y => y.win = w.val) = some y → y.sent = true →
      exec (.postedWriteComplete t w (.ok v z)) s = .next (s.finish ((d.popWrite w.val).sendNext w.val 33))) ∧
  (∀ (s : State) (d : Dev) (t : Nat) (tr : Transport) (y : LogEntry) (rest : List LogEntry) (e : Dev),
      d = (s.at t).accessBegins tr → Accepted d tr 0x2730 2 1 → d.bridge.log = y :: rest →
      e = { d with bridge := { d.bridge with log := rest } } →
      exec (.postedWriteLogPop t tr) s = .next (s.finish
        (((((e.put 0x2730 3 y.addr).put 0x2730 4 (y.data % 2 ^ 32)).put 0x2730 5 (2 ^ 31 + y.node * 2 ^ 16 + y.code)).put
          0x2730 6 y.abort).put 0x2730 7 y.stamp))) ∧
  (∀ (s : State) (d : Dev) (t : Nat),
      d = s.at t → d.coreOn = true →
      exec (.lockSequenceEnd t) s = .next (s.finish
        ({ d with bridge := { d.bridge with sem := none, lockWrite := none } }))) ∧
  (∀ (s : State) (d : Dev) (t : Nat) (w y a : Nat) (e : Dev),
      d = s.at t → d.coreOn = true → d.bridge.sem = some (w, y, a) → a + 10 * msCycles < d.now →
      e = { d with bridge := { d.bridge with sem := none, lockWrite := none } } →
      exec (.lockTimeout t) s = .next (s.finish
        (((e.count 0x2740 8).cause 3).raise 0xA703 1 (0x10000000 + 0x02000000 * w + y)))) ∧
  (∀ (s : State) (d : Dev) (t : Nat) (k : Fin 4) (y : BridgeSlot),
      d = s.at t → d.coreOn = true → d.bridge.slots[k.val]? = some y → y.st = .fetching →
      y.since + d.winTimeout (winOf y.addr) < d.now → d.winAttempts (winOf y.addr) ≤ y.attempts →
      exec (.remoteRequestTimeout t (.slot k)) s = .next (s.finish
        ((((((d.setSlot4 k.val { y with
            st := .fetched, value := none, since := d.now }).put 0x2731 1 y.addr).put 0x2731 2 0).count 0x2740 3).cause
          2).raise 0xA700 1 y.addr))) ∧
  (∀ (s : State) (d : Dev) (t : Nat) (win : Fin 8) (y : Posted),
      d = s.at t → d.coreOn = true → d.bridge.posted.find? (fun p => p.win = win.val) = some y → y.sent = true →
      y.since + d.winTimeout win.val < d.now → d.winAttempts win.val ≤ y.attempts →
      exec (.remoteRequestTimeout t (.write win)) s = .next (s.finish
        (((d.writeFailed win.val y.addr y.data 1 0).popWrite win.val).sendNext win.val 33))) ∧
  (∀ (s : State) (d : Dev) (t : Nat),
      d = s.at t → d.coreOn = true → d.bridge.mailbox.status = 1 → d.bridge.mailbox.attempts ≠ 0 →
      d.bridge.mailbox.since + d.winTimeout d.bridge.mailbox.win < d.now →
      d.winAttempts d.bridge.mailbox.win ≤ d.bridge.mailbox.attempts →
      exec (.remoteRequestTimeout t .mailbox) s = .next (s.finish
        ((d.setMailbox { d.bridge.mailbox with status := 3, abort := 0, attempts := 0, behind := 0 }).cause 9)))

/-- BAR0 and the mailbox (R325, R326). In every state and for all operands that meet a clause's conditions the command
answers exactly the state written. Aligned 4-byte reads and writes of BAR0 are performed; a mailbox command waits behind
posted writes and starts; its completion reports the value and cause 9. -/
def Obligations.PcieAccesses : Prop :=
  (∀ (s : State) (d : Dev) (t : Nat) (addr : Word32) (x : Outside) (e : Dev) (v : Nat),
      d = s.at t → d.on = true → bit d.clk.inReset 0 = false → d.released = false → addr.toNat < 0x02000000 →
      addr.toNat % 4 = 0 → d.wordRead .pcie addr.toNat = (e, v) →
      exec (.pcieBar0Access t addr 4 none x) s = .next (s.finish (e.emit (.pcieData v)))) ∧
  (∀ (s : State) (d : Dev) (t : Nat) (addr : Word32) (x : Outside) (v : Word64) (be : Byte),
      d = s.at t → d.on = true → bit d.clk.inReset 0 = false → d.released = false → addr.toNat < 0x02000000 →
      addr.toNat % 4 = 0 →
      exec (.pcieBar0Access t addr 4 (some (v, be)) x) s = .next (s.finish
        (((d.wordWrite s.otp .pcie addr.toNat v.toNat be.toNat x).dev).emit .pcieDone))) ∧
  (∀ (s : State) (d : Dev) (t : Nat) (addr : Word32) (bytes : Nat) (x : Outside) (w : Option (Word64 × Byte)),
      d = s.at t → d.on = true → bit d.clk.inReset 0 = false → d.released = true →
      exec (.pcieBar0Access t addr bytes w x) s = .next (s.finish ((d.snapEnds .pcie).emit .pcieUnsupported))) ∧
  (∀ (s : State) (d : Dev) (t : Nat) (w : Fin 8) (slot : Word32) (m : Mailbox) (e : Dev),
      d = (s.at t).snapEnds .pcie → d.coreOn = true → d.barReady = true → d.bridge.mailbox.status ≠ 1 →
      m = {
          win := w.val, slot := slotOf (slot.toNat % 0x02000000),
          low := bits (d.bridge.mailbox.low + 2 ^ 32 * d.bridge.mailbox.high) 31 0,
          high := bits (d.bridge.mailbox.low + 2 ^ 32 * d.bridge.mailbox.high) 63 32, command := 1, status := 1 } →
      e = d.setMailbox m → e.winEnabled w.val = true → e.bridge.sem = none →
      exec (.mailboxRead t w slot) s = .next (s.finish
        (((e.readReaches w.val m.slot).setMailbox { m with behind := (e.postedTo w.val).length }).startMailbox))) ∧
  (∀ (s : State) (d : Dev) (t : Nat) (w : Fin 8) (slot : Word32) (v : Word64) (m : Mailbox) (e : Dev),
      d = (s.at t).snapEnds .pcie → d.coreOn = true → d.barReady = true → d.bridge.mailbox.status ≠ 1 →
      m = {
          win := w.val, slot := slotOf (slot.toNat % 0x02000000), low := bits v.toNat 31 0, high := bits v.toNat 63 32,
          command := 2, status := 1 } →
      e = d.setMailbox m → e.winEnabled w.val = true → e.bridge.sem = none →
      exec (.mailboxWrite t w slot v) s = .next (s.finish
        (((e.writeReaches w.val m.slot).setMailbox { m with behind := (e.postedTo w.val).length }).startMailbox))) ∧
  (∀ (s : State) (d : Dev) (t : Nat) (v : Nat) (z : Option Nat),
      d = s.at t → d.coreOn = true → d.bridge.mailbox.status = 1 → d.bridge.mailbox.attempts ≠ 0 →
      d.bridge.mailbox.command = 1 →
      exec (.mailboxComplete t (.ok v z)) s = .next (s.finish
        ((d.setMailbox { d.bridge.mailbox with
            status := 2, abort := 0, attempts := 0, behind := 0, low := bits v 31 0, high := bits v 63 32 }).cause 9)))

/-- DMA rings and MSI-X (R327, R330, R332). In every state and for all operands that meet a clause's conditions the command
answers exactly the state written. Control switches a ring on or off; Base and Size are written on a ring that is off; a
producer write moves the producer; a whole descriptor is parsed and reported; a held signal is sent at its holdoff;
unmasking sends what is pending. -/
def Obligations.DmaRings : Prop :=
  (∀ (s : State) (d : Dev) (t : Nat) (ring : Fin 64) (v : Word32),
      d = (s.at t).snapEnds .pcie → d.coreOn = true → d.barReady = true → bit v.toNat 0 = true →
      exec (.ringEnable t ring v) s = .next (s.finish
        (d.setRing ring.val { d.ring ring.val with
            enable := true, vector := bits v.toNat 12 8, holdoff := bits v.toNat 25 16 }))) ∧
  (∀ (s : State) (d : Dev) (t : Nat) (ring : Fin 64) (v : Word32),
      d = (s.at t).snapEnds .pcie → d.coreOn = true → d.barReady = true → bit v.toNat 0 = false → ring.val < 32 →
      (d.ring ring.val).enable = true →
      exec (.ringDisable t ring v) s = .next (s.finish
        ((d.setRing ring.val { d.ring ring.val with
            enable := false, vector := bits v.toNat 12 8, holdoff := bits v.toNat 25 16 }).ringDrop ring.val))) ∧
  (∀ (s : State) (d : Dev) (t : Nat) (ring : Fin 64) (offset : Fin 64) (v : Word32),
      d = (s.at t).snapEnds .pcie → d.coreOn = true → d.barReady = true → (d.ring ring.val).enable = false → offset.val = 0 →
      exec (.ringBaseSizeWrite t ring offset v) s = .next (s.finish
        (d.setRing ring.val { d.ring ring.val with base := (d.ring ring.val).base / 2 ^ 32 * 2 ^ 32 + v.toNat }))) ∧
  (∀ (s : State) (d : Dev) (t : Nat) (ring : Fin 64) (offset : Fin 64) (v : Word32),
      d = (s.at t).snapEnds .pcie → d.coreOn = true → d.barReady = true → (d.ring ring.val).enable = false → offset.val = 8 →
      exec (.ringBaseSizeWrite t ring offset v) s = .next (s.finish
        (d.setRing ring.val { d.ring ring.val with size := v.toNat }))) ∧
  (∀ (s : State) (d : Dev) (t : Nat) (ring : Fin 64) (v : BitVec 16) (sizes : List Nat),
      d = (s.at t).snapEnds .pcie → d.coreOn = true → d.barReady = true →
      exec (.ringProducerWrite t ring v sizes) s = .next (s.finish
        (d.setRing ring.val { d.ring ring.val with
            producer := v.toNat, buffers := if ring.val < 32 then (d.ring ring.val).buffers ++ sizes else [] }))) ∧
  (∀ (s : State) (d : Dev) (t : Nat) (ring : Fin 32) (desc : TxDesc) (st : Nat) (es : List PEvent) (y : Context),
      d = s.at t → d.inService = true → (d.ring (txRing ring.val)).avail ≠ 0 → d.itemsWaiting (212 + ring.val) < 2 →
      desc.readError = false → desc.tunnel = none → st = desc.stamp.getD d.stamp →
      hostEvents (d.options (212 + ring.val)) st d.quality desc.data = some es → es.getLast? = some (.sentence y) →
      exec (.hostTxDescriptorFetch t ring desc) s = .next (s.finish
        ((d.parseEvents (212 + ring.val) d.now es).txResult ring.val 0))) ∧
  (∀ (s : State) (d : Dev) (t : Nat) (ring : Fin 64) (a : Nat),
      d = s.at t → d.coreOn = true → (d.ring ring.val).signal = some a →
      a + (d.ring ring.val).holdoff * usCycles < d.now →
      exec (.msixHoldoffExpiry t ring) s = .next (s.finish
        ((d.setRing ring.val { d.ring ring.val with signal := none }).vectorSend (d.ring ring.val).vector))) ∧
  (∀ (s : State) (d : Dev) (t : Nat) (v : Fin 32),
      d = (s.at t).snapEnds .pcie → d.coreOn = true → d.barReady = true → d.msix.pending.getD v.val false = true →
      exec (.msixVectorUnmask t v) s = .next (s.finish
        (({ d with
            msix := { masked := d.msix.masked.set v.val false, pending := d.msix.pending.set v.val false } } : Dev).emit
          (.msix v.val))))

/-- Power requests, low-power entry, wake (R339, R340, R343, R344, R345, R347). In every state and for all operands that
meet a clause's conditions the command answers exactly the state written. Accepted requests for RUN and TRIM take effect two
legs on, those for BIVOUAC and SHELTER start the drain; the pins do the same; the drained unit takes its snapshot and
enters; a wake command resumes. -/
def Obligations.PowerRequestsAndWake : Prop :=
  (∀ (s : State) (d : Dev) (t : Nat) (tr : Transport),
      d = (s.at t).accessBegins tr → Accepted d tr 0x2001 1 1 → d.powerCheck 1 false = 0 → d.inService = true → d.pw.trim = true →
      exec (.powerRequestRun t tr) s = .next (s.finish
        (({ d with pw := { d.pw with change := some (false, d.leg + 2 * d.legPu) } } : Dev).put 0x2001 3 1))) ∧
  (∀ (s : State) (d : Dev) (t : Nat) (tr : Transport),
      d = (s.at t).accessBegins tr → Accepted d tr 0x2001 1 2 → d.powerCheck 2 false = 0 → d.inService = true → d.pw.trim = false →
      exec (.powerRequestTrim t tr) s = .next (s.finish
        (({ d with pw := { d.pw with change := some (true, d.leg + 2 * d.legPu) } } : Dev).put 0x2001 3 1))) ∧
  (∀ (s : State) (d : Dev) (t : Nat) (tr : Transport),
      d = (s.at t).accessBegins tr → Accepted d tr 0x2001 1 3 → d.powerCheck 3 false = 0 → d.inService = true →
      exec (.powerRequestBivouac t tr) s = .next (s.finish
        (({ d with pw := { d.pw with drain := some (.bivouac, 2), drained := false } } : Dev).put 0x2001 3 1))) ∧
  (∀ (s : State) (d : Dev) (t : Nat) (tr : Transport),
      d = (s.at t).accessBegins tr → Accepted d tr 0x2001 1 4 → d.powerCheck 4 false = 0 → d.inService = true →
      exec (.powerRequestShelter t tr) s = .next (s.finish
        (({ d with pw := { d.pw with drain := some (.shelter, 2), drained := false } } : Dev).put 0x2001 3 1))) ∧
  (∀ (s : State) (d : Dev) (t : Nat) (code : Fin 4) (e : Dev),
      d = s.at t → d.inService = true → d.get 0x2001 4 ≠ 0 → e = { d with pw := { d.pw with pwrPins := code.val } } →
      e.powerCheck 3 true = 0 → code.val = 2 →
      exec (.pwrReqPinRequest t code) s = .next (s.finish
        (({ e with pw := { e.pw with drain := some (.bivouac, 2), drained := false } } : Dev).put 0x2001 3 1))) ∧
  (∀ (s : State) (d : Dev) (t : Nat),
      d = s.at t → d.pw.st = .bivouac → d.get 0x2001 4 ≠ 0 →
      exec (.pinShelter t) s = .next (s.finish
        ({ d with pw := { d.pw with st := .shelter, armed := false, pwrPins := 3 } }))) ∧
  (∀ (s : State) (d : Dev) (t : Nat) (done : Nat) (n : Nat) (e f : Dev),
      d = s.at t → d.pw.st = .config → d.pw.drain = some (.shelter, n) → d.pw.drained = true → e = d.snapNow →
      f = (({ e with log := { e.log with accum := e.ledger.strings } } : Dev).coreIdle.put 0x2001 6 0).put 0x2001 7 0 →
      exec (.lowPowerEntry t done) s = .next (s.finish
        (({ f with
            pw := { f.pw with
                st := .shelter, drain := none, drained := false, armed := false, armedAt := f.now, entryDone := done,
                wakeDuring := none, wakeAlert := none, wakeOut := false, wakeAt := none } } : Dev).put 0x2001 3 0))) ∧
  (∀ (s : State) (d : Dev) (t : Nat) (done : Nat) (n : Nat) (e f : Dev),
      d = s.at t → d.inService = true → d.pw.drain = some (.bivouac, n) → d.pw.drained = true →
      e = d.configEnter.snapNow →
      f = (((({ e with
          log := { e.log with accum := e.ledger.strings } } : Dev).coreIdle.put 0x2001 6 0).put 0x2001 7
        0).armSerial).armCan d →
      exec (.lowPowerEntry t done) s = .next (s.finish
        (({ f with
            pw := { f.pw with
                st := .bivouac, drain := none, drained := false, armed := true, armedAt := f.now, entryDone := done,
                wakeDuring := none, wakeAlert := none, wakeOut := false, wakeAt := none } } : Dev).put 0x2001 3 0))) ∧
  (∀ (s : State) (d : Dev) (t : Nat) (code : Fin 4) (e : BootEnv),
      d = s.at t → d.pw.st = .bivouac → code.val < 2 →
      exec (.wakeCommand t code e) s = .next (s.finish
        (({ d with pw := { d.pw with pwrPins := code.val } } : Dev).resume e (max d.now d.pw.entryDone) (code.val = 1))))

/-- Temperature and thermal hold (R350, R352, R439). In every state and for all operands that meet a clause's conditions the
command answers exactly the state written. The thermal warning is raised and cleared; a trip journals and enters HOLD; a
sample is stored and the maximum follows it. -/
def Obligations.TemperatureAndHold : Prop :=
  (∀ (s : State) (d : Dev) (t : Nat) (tj : Int),
      d = s.at t → d.pw.st ≠ .off → d.coreOn = true → 125 ≤ tj →
      exec (.thermAssert t tj) s = .next (s.finish
        (({ d with pw := { d.pw with therm := true, tj := tj } } : Dev).raise 0xA600 2 (ofI32 tj)))) ∧
  (∀ (s : State) (d : Dev) (t : Nat) (tj : Int),
      d = s.at t → d.pw.st ≠ .off → d.coreOn = true → tj ≤ 120 →
      exec (.thermRelease t tj) s = .next (s.finish
        (({ d with pw := { d.pw with therm := false, tj := tj } } : Dev).clearAlert 0xA600))) ∧
  (∀ (s : State) (d : Dev) (t : Nat) (tj : Int),
      d = s.at t → d.pw.st = .service → d.pw.trip = none → 140 ≤ tj →
      exec (.thermalTrip t tj) s = .next (s.finish
        ((({ d with pw := { d.pw with trip := some tj, tj := tj } } : Dev).journalKa 0xA601 3 (ofI32 tj)).enterHold))) ∧
  (∀ (s : State) (d : Dev) (t : Nat) (tj : Int) (e : Dev),
      d = s.at t → d.pw.st ≠ .off → e = ({ d with pw := { d.pw with tj := tj } } : Dev).put 0x2007 1 (ofI32 tj) →
      toI32 (e.get 0x2007 2) < tj →
      exec (.temperatureSample t tj) s = .next (s.finish (e.put 0x2007 2 (ofI32 tj)))) ∧
  (∀ (s : State) (d : Dev) (t : Nat) (tj : Int) (e : Dev),
      d = s.at t → d.pw.st ≠ .off → e = ({ d with pw := { d.pw with tj := tj } } : Dev).put 0x2007 1 (ofI32 tj) →
      tj ≤ toI32 (e.get 0x2007 2) →
      exec (.temperatureSample t tj) s = .next (s.finish (e)))

/-- Resets of the whole device and supplies (R349, R351, R364, R433). In every state and for all operands that meet a clause's
conditions the command answers exactly the state written. PORST_N, SYSRST_N, brown-out and its recovery, the loss and return
of VDD_KA and the end of a thermal hold reset and boot the block as R364 gives: PAIR_POS, the keep-alive source and
the level of VDDIO_H are taken at the release of PORST_N. -/
def Obligations.WholeDeviceResets : Prop :=
  (∀ (s : State) (d : Dev) (t : Nat) (e : BootEnv),
      d = s.at t → d.pw.porst = true → d.pw.noKa = false →
      exec (.porstNRelease t e) s = .next (s.finish
        (({ d with
            pw := { d.pw with porst := false, hostIo18 := some e.hostIo18 }, clk := { d.clk with kaSrc := b2n e.kaClk },
            team := { d.team with posB := e.strapB } } : Dev).boot s.otp e))) ∧
  (∀ (s : State) (d : Dev) (t : Nat) (e : Dev),
      d = s.at t → d.pw.noKa = false → e = d.resetBy 2 →
      exec (.porstNLow t) s = .next (s.finish ({ e with pw := { e.pw with porst := true, brown := false }, tap := {} }))) ∧
  (∀ (s : State) (d : Dev) (t : Nat) (e : BootEnv),
      d = s.at t → d.pw.porst = false → d.pw.noKa = false → d.pw.brown = false →
      exec (.sysrstNLow t e) s = .next (s.finish ((d.resetBy 3).boot s.otp e))) ∧
  (∀ (s : State) (d : Dev) (t : Nat) (rails : Nat) (trip : Option Int) (e : Dev),
      d = s.at t → d.pw.st = .service → trip = none → rails % 8 ≠ 0 →
      e = ({ d with log := { d.log with gasp := some (d.gaspTake (rails % 8)) } } : Dev).resetBy 4 →
      exec (.brownOut t rails trip) s = .next (s.finish ({ e with pw := { e.pw with brown := true } }))) ∧
  (∀ (s : State) (d : Dev) (t : Nat) (e : BootEnv),
      d = s.at t → d.pw.brown = true → d.pw.porst = false → d.pw.noKa = false →
      exec (.brownOutRecovery t e) s = .next (s.finish
        (({ d with pw := { d.pw with brown := false } } : Dev).boot s.otp e))) ∧
  (∀ (s : State) (d : Dev) (t : Nat) (e : Dev),
      d = s.at t → e = d.coreReset →
      exec (.vddKaLoss t) s = .next (s.finish
        ({ e with
            pw := { noKa := true, porst := e.pw.porst, tj := e.pw.tj }, clk := { rtcRuns := false, rtcMark := true },
            tap := {}, vault := { e.vault with latch := 0, stamp := 0, coldAlarm := false, owed := false } }))) ∧
  (∀ (s : State) (d : Dev) (t : Nat) (e : BootEnv),
      d = s.at t → d.pw.noKa = true → d.pw.porst = true →
      exec (.vddKaRestore t e) s = .next (s.finish
        ({ d with
            pw := { d.pw with noKa := false, causes := setBit d.pw.causes 1 true },
            clk := { rtcRuns := true, rtcMark := true, rtcBase := 0, rtcFrom := d.now } }))) ∧
  (∀ (s : State) (d : Dev) (t : Nat) (tj : Int) (e : BootEnv),
      d = s.at t → d.pw.heldBoot = true → tj < 125 →
      exec (.bootThermalHoldEnd t tj e) s = .next (s.finish
        (({ d with pw := { d.pw with tj := tj } } : Dev).boot s.otp e)))

/-- Resets of one side, PLL lock, keep-alive clock, RTC (R355, R356, R357, R366, R367, R369). In every state and for all
operands that meet a clause's conditions the command answers exactly the state written. Each side is reset and released
alone; a lost PLL raises 0xA610 and stops what it clocks, and its return clears it; the keep-alive clock falls back to the
RC oscillator, whose trim is noted; the RTC stops and restarts. -/
def Obligations.SideResetsAndClocks : Prop :=
  (∀ (s : State) (d : Dev) (t : Nat) (e f : Dev),
      d = s.at t → d.coreOn = true → bit d.clk.inReset 0 = false → e = ((d.sideReset .pcie).freeBlocks .pcie).ringsOff →
      f = e.setMailbox { e.bridge.mailbox with status := 0, command := 0 } →
      exec (.pcieDomainReset t) s = .next (s.finish ({ f with msix := {}, words := f.words.set .pcie {} }))) ∧
  (∀ (s : State) (d : Dev) (t : Nat) (e : Dev),
      d = s.at t → d.coreOn = true → bit d.clk.inReset 1 = false → e = (d.sideReset .hlb).lockEnd →
      exec (.hlbClockLoss t) s = .next (s.finish e.hlbAbandon)) ∧
  (∀ (s : State) (d : Dev) (t : Nat) (p : Fin 5) (receiving : Bool) (h : p.val < 4),
      d = s.at t → d.coreOn = true →
      exec (.lanePcsLockLoss t p receiving) s = .next (s.finish (d.laneReset (.port ⟨p.val, h⟩) receiving))) ∧
  (∀ (s : State) (d : Dev) (t : Nat) (receiving : Bool),
      d = s.at t → d.coreOn = true →
      exec (.lanePcsLockLoss t 4 receiving) s = .next (s.finish (d.laneReset .rope receiving))) ∧
  (∀ (s : State) (d : Dev) (t : Nat) (p : Fin 4) (e : Dev),
      d = s.at t → d.coreOn = true →
      e = { d with clk := { d.clk with inReset := setBit d.clk.inReset (Domain.port p).bit false } } →
      exec (.domainResetRelease t (.port p)) s = .next (s.finish (e.setPort p { e.port p with inReset := false }))) ∧
  (∀ (s : State) (d : Dev) (t : Nat) (domain : Domain),
      d = s.at t → d.coreOn = true → (∀ p, domain ≠ .port p) →
      exec (.domainResetRelease t domain) s = .next (s.finish
        ({ d with clk := { d.clk with inReset := setBit d.clk.inReset domain.bit false } }))) ∧
  (∀ (s : State) (d : Dev) (t : Nat) (mask : Nat) (e f x : Dev),
      d = s.at t → d.pw.st ≠ .off → d.pw.st ≠ .shelter → bit mask 0 = false → bit mask 1 = false →
      e = ({ d with
          clk := { d.clk with pll := d.clk.pll &&& (mask % 32 ^^^ 31) } } : Dev).raiseKa 0xA610 3 (31 - (d.clk.pll &&&
        (mask % 32 ^^^ 31))) →
      f = (if bit mask 2 then (List.range 4).foldl (fun (d : Dev) p => d.linkChange p false 0) e else e) →
      x = (if bit mask 3 then f.ropeLost true else f) →
      exec (.pllLockLoss t mask) s = .next (s.finish (if bit mask 4 then x.pcieReset else x))) ∧
  (∀ (s : State) (d : Dev) (t : Nat) (mask : Nat),
      d = s.at t → d.pw.st = .service → bit mask 0 = true → bit mask 2 = false → bit mask 3 = false → bit mask 4 = false →
      exec (.pllLockLoss t mask) s = .next (s.finish
        ((({ d with
            clk := { d.clk with pll := d.clk.pll &&& (mask % 32 ^^^ 31) } } : Dev).raiseKa 0xA610 3 (31 - (d.clk.pll &&&
          (mask % 32 ^^^ 31)))).progressLost))) ∧
  (∀ (s : State) (d : Dev) (t : Nat) (mask : Nat),
      d = s.at t → d.coreOn = true → d.pw.st ≠ .off → d.pw.st ≠ .shelter → d.clk.pll ||| mask % 32 = 31 →
      exec (.pllLockRegain t mask) s = .next (s.finish
        (({ d with clk := { d.clk with pll := 31 } } : Dev).clearAlert 0xA610))) ∧
  (∀ (s : State) (d : Dev) (t : Nat) (mask : Nat),
      d = s.at t → d.pw.st ≠ .off → d.pw.st ≠ .shelter → d.clk.pll ||| mask % 32 ≠ 31 →
      exec (.pllLockRegain t mask) s = .next (s.finish ({ d with clk := { d.clk with pll := d.clk.pll ||| mask % 32 } }))) ∧
  (∀ (s : State) (d : Dev) (t : Nat) (ppm : Int),
      d = s.at t → d.pw.noKa = false → d.clk.kaSrc = 1 →
      exec (.kaClockLoss t ppm) s = .next (s.finish
        ((({ d with clk := { d.clk with kaSrc := 2 } } : Dev).put 0x2005 3 (ofI32 ppm)).raiseKa 0xA612 2 (ofI32 ppm)))) ∧
  (∀ (s : State) (d : Dev) (t : Nat) (ppm : Int),
      d = s.at t → d.pw.st ≠ .off → d.clk.kaSrc ≠ 1 → -5000 ≤ ppm → ppm ≤ 5000 →
      exec (.rcTrim t ppm) s = .next (s.finish (d.put 0x2005 3 (ofI32 ppm)))) ∧
  (∀ (s : State) (d : Dev) (t : Nat) (ppm : Int),
      d = s.at t → d.pw.st ≠ .off → d.clk.kaSrc ≠ 1 → 5000 < ppm →
      exec (.rcTrim t ppm) s = .next (s.finish ((d.put 0x2005 3 (ofI32 ppm)).raiseKa 0xA612 2 (ofI32 ppm)))) ∧
  (∀ (s : State) (d : Dev) (t : Nat),
      d = s.at t → d.pw.noKa = false → d.clk.rtcRuns = true → d.pw.st ≠ .off →
      exec (.rtcStopDetect t) s = .next (s.finish
        (({ d with clk := { d.clk with rtcBase := d.rtcCycles - msCycles, rtcRuns := false, rtcMark := true } } : Dev).raiseKa 0xA613 1 0))) ∧
  (∀ (s : State) (d : Dev) (t : Nat),
      d = s.at t → d.coreOn = true → d.pw.noKa = false → d.clk.rtcRuns = false →
      exec (.rtcRestart t) s = .next (s.finish
        (({ d with clk := { d.clk with rtcFrom := d.now, rtcRuns := true } } : Dev).clearAlert 0xA613)))

/-- Keys, challenge, tamper, life cycle (R371, R373, R379, R381, R383, R385, R388). In every state and for all operands that
meet a clause's conditions the command answers exactly the state written. An import ends with its result; an erase empties
both copies of a slot; a challenge starts and is answered; a tamper alarm latches, stamps and seals the vault; the latch
clears; a transition burns the new state and boots, or spends a row. -/
def Obligations.KeysTamperAndLife : Prop :=
  (∀ (s : State) (d : Dev) (t : Nat) (pkg : List Byte) (key : Option (List Byte)) (r : Nat) (z : Option KeyCopy),
      d = s.at t → d.coreOn = true → d.vault.importing = some (pkg, key) → d.importResult pkg key = (r, z) →
      exec (.keyImportComplete t) s = .next (s.finish (d.importEnd r (beAt pkg 6 1) z))) ∧
  (∀ (s : State) (d : Dev) (t : Nat) (tr : Transport) (v : Byte),
      d = (s.at t).accessBegins tr → Accepted d tr 0x2811 1 v.toNat →
      exec (.slotErase t tr v) s = .next (s.finish ((d.setKeySlot v.toNat {}).ropeKeyCheck))) ∧
  (∀ (s : State) (d : Dev) (t : Nat) (tr : Transport) (e : Dev) (k x : List Byte),
      d = (s.at t).accessBegins tr → Accepted d tr 0x2830 3 1 → d.get 0x2830 4 ≠ 1 → d.vault.st = 1 →
      e = ({ d with vault := { d.vault with response := [] } } : Dev) → d.keyOf (d.get 0x2830 2) 3 = some k →
      x = SMap.get (fun _ => ([] : List Byte)) d.domains (odKey 0x2830 1) → x.length = 16 →
      exec (.challengeStart t tr) s = .next (s.finish
        ({ e.put 0x2830 4 1 with
            vault := { e.vault with
                challenge := some (x ++ be 8 Config.serial.toNat ++ be 1 d.lifeCode ++ padTo 32 d.ledger.head, k) } }))) ∧
  (∀ (s : State) (d : Dev) (t : Nat) (msg k : List Byte),
      d = s.at t → d.coreOn = true → d.vault.challenge = some (msg, k) →
      exec (.challengeComplete t) s = .next (s.finish
        (({ d.put 0x2830 4 2 with
            vault := { d.vault with challenge := none, response := (be 32 (Config.hmac (keyBits k) msg).toNat).take 16 } }
          : Dev).count 0x2840 6))) ∧
  (∀ (s : State) (d : Dev) (t : Nat) (source : Fin 8) (copyA : Bool) (fused : Bool) (e : Dev),
      d = s.at t → d.pw.noKa = false → d.tamperOn source.val = true → d.inService = true → d.vault.latch = 0 →
      d.vault.st = 1 →
      e = (({ d with
          vault := { d.vault with latch := setBit 0 source.val true, stamp := d.stamp } } : Dev).count 0x2840 1).raise
        0xA500 3 (setBit 0 source.val true) →
      e.vault.st = 1 →
      exec (.tamperAlarm t source copyA fused) s = .next (s.finish (((e.abortAll copyA fused).keyless 2).ropeKeyCheck))) ∧
  (∀ (s : State) (d : Dev) (t : Nat) (source : Fin 8) (copyA : Bool) (fused : Bool) (e f : Dev),
      d = s.at t → d.pw.noKa = false → d.tamperOn source.val = true → d.pw.st = .shelter →
      e = ({ d with
          vault := { d.vault with
              latch := setBit d.vault.latch source.val true,
              stamp := if d.vault.latch = 0 then d.stamp else d.vault.stamp } } : Dev).count 0x2840 1 →
      f = e.journalKa 0xA500 3 e.vault.latch →
      exec (.tamperAlarm t source copyA fused) s = .next (s.finish
        ({ f with vault := { f.vault with coldAlarm := true, owed := true } }))) ∧
  (∀ (s : State) (d : Dev) (t : Nat) (tr : Transport) (v : Byte) (alarming : Nat),
      d = (s.at t).accessBegins tr → Accepted d tr 0x2820 4 v.toNat → d.vault.latch = 1 → bit v.toNat 0 = true → bit alarming 0 = false →
      exec (.tamperLatchClear t tr v alarming) s = .next (s.finish
        (({ d with vault := { d.vault with latch := 0, owed := false } } : Dev).clearAlert 0xA500))) ∧
  (∀ (s : State) (d : Dev) (t : Nat) (salt : Nat) (e : BootEnv) (x : Transition),
      d = s.at t → d.coreOn = true → d.vault.transition = some x →
      exec (.transitionComplete t true salt e) s = .next (({ s with otp := { s.otp with spare := s.otp.spare - 1 } } : State).finish
        ((d.transitionFail 9).put 0x2800 7 (s.otp.spare - 1)))) ∧
  (∀ (s : State) (d : Dev) (t : Nat) (salt : Nat) (e : BootEnv) (x : Transition) (o : Otp),
      d = s.at t → d.coreOn = true → d.vault.transition = some x → s.otp.life.permits x.target = true →
      o = { life := x.target, spare := 3, verify := x.verify, salt := salt } →
      exec (.transitionComplete t false salt e) s = .next (({ s with otp := o } : State).finish
        (((d.transitionDone x).rebootPrepare.resetBy 5).boot o e)))

/-- Ledger, snapshots, histograms, scrub (R396, R398, R407, R408, R416). In every state and for all operands that meet a
clause's conditions the command answers exactly the state written. An interval closes for the strings it covers; a record is
signed and chained; a snapshot is taken, held or completed; a histogram is copied; an export is taken; a scrub pass and a
dwell second are counted. -/
def Obligations.LedgerAndLogbook : Prop :=
  (∀ (s : State) (d : Dev) (t : Nat) (b : Nat),
      d = s.at t → d.coreOn = true → d.ledger.closing = some b → d.leads = true → b + d.legPu ≤ d.stamp →
      exec (.ledgerIntervalClose t) s = .next (s.finish
        ({ d with
            ledger := { d.ledger with
                closing := none, lastEnd := b,
                pending := (List.range 64).filter (fun n => ledValid (d.row .ledger n) && decide ((d.ledger.string
                  n).start < b)) } }))) ∧
  (∀ (s : State) (d : Dev) (t : Nat) (n : Nat) (rest : List Nat) (k hd : List Byte) (e : Dev),
      d = s.at t → d.coreOn = true → d.ledger.pending = n :: rest → d.leads = true → d.keyOf (d.get 0x2900 2) 2 = some k →
      d.get 0x2910 6 ≠ 0 →
      hd = d.ledHeader n (0 ||| (d.ledger.string n).flags ||| 32 * b2n d.ledger.restart ||| 64 * b2n d.ledger.stateChange)
        (d.ledger.string n) d.ledger.lastEnd →
      e = (d.setString n ((d.ledger.string n).closed d.ledger.lastEnd)).put 0x2910 3 ((d.get 0x2910 3 + 1) % 2 ^ 32) →
      exec (.ledgerRecordSigned t) s = .next (s.finish
        ((({ e with
            ledger := { e.ledger with
                pending := rest, head := shaBytes hd, stateChange := false, restart := false,
                owed := e.ledger.owed ++ [{
                    string := n, number := d.get 0x2910 3,
                    bytes := hd ++ be 64 (Config.ecdsaSign (keyBits k) hd).toNat ++ (d.ledger.string n).binBytes,
                    finish := d.ledger.lastEnd, waits := d.nextDelta }] } } : Dev).count 0x2920 6).ledFlush))) ∧
  (∀ (s : State) (d : Dev) (t : Nat),
      d = s.at t → d.on = true → d.log.since + d.get 0x2A00 1 * secCycles ≤ d.now →
      exec (.snapshotIntervalExpiry t) s = .next (s.finish (d.snapTrigger))) ∧
  (∀ (s : State) (d : Dev) (t : Nat) (tr : Transport),
      d = (s.at t).accessBegins tr → Accepted d tr 0x2A00 2 1 → d.log.running = none →
      exec (.snapshotRequest t tr) s = .next (s.finish
        ({ d with log := { d.log with running := some d.snapTake, since := d.now } }))) ∧
  (∀ (s : State) (d : Dev) (t : Nat) (tr : Transport) (x : Snap),
      d = (s.at t).accessBegins tr → Accepted d tr 0x2A00 2 1 → d.log.running = some x →
      exec (.snapshotRequest t tr) s = .next (s.finish ({ d with log := { d.log with heldTrigger := true } }))) ∧
  (∀ (s : State) (d : Dev) (t : Nat) (x : Snap) (e : Dev),
      d = s.at t → d.coreOn = true → d.log.running = some x → d.log.heldTrigger = false →
      e = ({ d with
          log := { d.log.store (some x) with accum := x.strings, heldTrigger := false },
          clk := { d.clk with rtcMark := d.clk.rtcMark && !d.clk.rtcRuns } } : Dev) →
      exec (.snapshotComplete t none) s = .next (s.finish ((e.put 0x2A00 3 x.stamp).put 0x2A00 4 x.seq))) ∧
  (∀ (s : State) (d : Dev) (t : Nat) (x : Snap) (a : Nat) (e : Dev),
      d = s.at t → d.coreOn = true → d.log.running = some x → d.log.heldTrigger = false →
      e = ({ d with log := d.log.store none } : Dev).raise 0xA622 2 a →
      exec (.snapshotComplete t (some a)) s = .next (s.finish ({ e with log := { e.log with heldTrigger := false } }))) ∧
  (∀ (s : State) (d : Dev) (t : Nat) (tr : Transport) (v : Byte),
      d = (s.at t).accessBegins tr → Accepted d tr 0x2A02 1 v.toNat →
      exec (.histogramSelect t tr v) s = .next (s.finish
        ({ d.put 0x2A02 1 v.toNat with
            log := { d.log with histCopy := (List.range 32).map (fun b => d.hist v.toNat b) } }))) ∧
  (∀ (s : State) (d : Dev) (t : Nat) (tr : Transport),
      d = (s.at t).accessBegins tr → d.reaches tr = true → d.readCheck tr 0x2A10 1 = none →
      exec (.exportSnapshot t tr) s = .next (s.finish
        ({ d with dom := d.dom.set tr { d.dom.get tr with copy := d.exportBytes } }))) ∧
  (∀ (s : State) (d : Dev) (t : Nat) (corrected : Nat) (bad : List (Nat × ScrubAt)) (e : Dev),
      d = s.at t → d.on = true →
      e = ({ d.count 0x2A20 1 corrected with mirror := { d.mirror with hScrub := d.mirror.hScrub + corrected } } : Dev) →
      exec (.scrubPass t corrected bad) s = .next (s.finish
        ((bad.foldl (fun d b => d.scrubBad b.1 b.2) e).count 0x2A20 3))) ∧
  (∀ (s : State) (d : Dev) (t : Nat) (core : Nat) (sram : Nat),
      d = s.at t → d.pw.st = .service →
      exec (.dwellSecond t core sram) s = .next (s.finish
        (((d.histAdd 0 (dwellBin d.pw.tj)).histAdd 1 (supplyBin 720 core)).histAdd 2 (supplyBin 770 sram))))

/-- Boundary scan (R425, R426, R427). In every state and for all operands that meet a clause's conditions the command
answers exactly the state written. Each instruction is loaded and its capture shifted out; those that drive or hold pins put
the unit in HOLD first and journal it. -/
def Obligations.BoundaryScan : Prop :=
  (∀ (s : State) (d : Dev) (t : Nat),
      d = s.at t →
      exec (.tapReset t) s = .next (s.finish
        ({ d with tap := { d.tap with instr := .idcode, dr := 0, drives := false } }))) ∧
  (∀ (s : State) (d : Dev) (t : Nat),
      d = s.at t → d.pw.porst = false → d.pw.noKa = false →
      exec (.bypass t) s = .next (s.finish
        (({ d with tap := { d.tap with instr := .bypass, dr := 0, drives := false } } : Dev).emit (.tdo 0)))) ∧
  (∀ (s : State) (d : Dev) (t : Nat),
      d = s.at t → d.pw.porst = false → d.pw.noKa = false →
      exec (.idcode t) s = .next (s.finish
        (({ d with
            tap := { d.tap with instr := .idcode, dr := idcode, drives := false } } : Dev).emit (.tdo Machine.idcode)))) ∧
  (∀ (s : State) (d : Dev) (t : Nat) (pins : List Bool) (cells : List Bool) (e : Dev),
      d = s.at t → d.pw.porst = false → d.pw.noKa = false →
      e = ({ d with
          tap := { d.tap with instr := .samplePreload, dr := pinsValue pins, drives := false } } : Dev).emit (.tdo
        (pinsValue pins)) →
      exec (.samplePreload t pins cells) s = .next (s.finish ({ e with tap := { e.tap with cells := cells } }))) ∧
  (∀ (s : State) (d : Dev) (t : Nat) (pins : List Bool) (e : Dev),
      d = s.at t → d.pw.porst = false → d.pw.noKa = false →
      e = (if d.pw.st = .hold then d else d.enterHold.journalKa 0xA631 1 0) →
      exec (.extest t pins) s = .next (s.finish
        (({ e with
            tap := { e.tap with instr := .extest, dr := pinsValue pins, drives := true } } : Dev).emit (.tdo (pinsValue
          pins))))) ∧
  (∀ (s : State) (d : Dev) (t : Nat) (e : Dev),
      d = s.at t → d.pw.porst = false → d.pw.noKa = false →
      e = (if d.pw.st = .hold then d else d.enterHold.journalKa 0xA631 1 0) →
      exec (.clamp t) s = .next (s.finish
        (({ e with tap := { e.tap with instr := .clamp, dr := 0, drives := true } } : Dev).emit (.tdo (0))))) ∧
  (∀ (s : State) (d : Dev) (t : Nat) (pins : List Bool) (e : Dev),
      d = s.at t → d.pw.porst = false → d.pw.noKa = false →
      e = (if d.pw.st = .hold then d else d.enterHold.journalKa 0xA631 1 0) →
      exec (.extestPulse t pins) s = .next (s.finish
        (({ e with
            tap := { e.tap with instr := .extestPulse, dr := pinsValue pins, drives := true } } : Dev).emit (.tdo
          (pinsValue pins))))) ∧
  (∀ (s : State) (d : Dev) (t : Nat) (pins : List Bool) (e : Dev),
      d = s.at t → d.pw.porst = false → d.pw.noKa = false →
      e = (if d.pw.st = .hold then d else d.enterHold.journalKa 0xA631 1 0) →
      exec (.extestTrain t pins) s = .next (s.finish
        (({ e with
            tap := { e.tap with instr := .extestTrain, dr := pinsValue pins, drives := true } } : Dev).emit (.tdo
          (pinsValue pins))))) ∧
  (∀ (s : State) (d : Dev) (t : Nat) (e : Dev),
      d = s.at t → d.pw.porst = false → d.pw.noKa = false →
      e = (if d.pw.st = .hold then d else d.enterHold.journalKa 0xA631 1 0) →
      exec (.highz t) s = .next (s.finish
        (({ e with tap := { e.tap with instr := .highz, dr := 0, drives := false } } : Dev).emit (.tdo (0)))))

end
end

