-- ==== Sys2Proof/Laws/Run.lean ====
section
/-! SUPPORT. What the form of a command gives: `State.run` and `State.core` at the block of its instant. -/

namespace Sys2Proof.Laws

open Sys2Proof.Machine Sys2Proof.Safety

/-- A command that reaches the keep-alive domain answers the state that its effect leaves. -/
theorem run_next {s : State} {t : Nat} {d e : Dev} {f : Dev → Dev} (hd : d = s.at t) (h : f d = e) :
    s.run t f = .next (s.finish e) := by
  subst hd h
  rfl

/-- A command of the core answers the state that its effect leaves, while the core is on. -/
theorem core_next {s : State} {t : Nat} {d e : Dev} {f : Dev → Dev} (hd : d = s.at t) (hc : d.coreOn = true) (h : f d = e) :
    s.core t f = .next (s.finish e) :=
  run_next hd (by simp [hc, h])

/-- With the core off, a command of the core lets time alone pass. -/
theorem core_off {s : State} {t : Nat} {f : Dev → Dev} (hc : (s.at t).coreOn = false) :
    s.core t f = .next (s.finish (s.at t)) :=
  run_next rfl (by simp [hc])

/-- A command of the core answers some next state, whatever the state. -/
theorem core_completes (s : State) (t : Nat) (f : Dev → Dev) : ∃ u, s.core t f = .next u := ⟨_, rfl⟩

/-- The core is on wherever the object dictionary is reachable. -/
theorem coreOn_of_on {d : Dev} (h : d.on = true) : d.coreOn = true := by simp [Dev.coreOn, h]

/-- The core is on wherever a transport reaches the dictionary. -/
theorem coreOn_of_reaches {d : Dev} {tr : Transport} (h : d.reaches tr = true) : d.coreOn = true :=
  coreOn_of_on (Bool.and_eq_true_iff.mp h).1

/-- The core is on in SERVICE. -/
theorem coreOn_of_service {d : Dev} (h : d.inService = true) : d.coreOn = true := by
  simp only [Dev.inService] at h
  simp [Dev.coreOn, Dev.on, h]

end Sys2Proof.Laws
end

