-- ==== Sys2Proof/Laws/Access.lean ====
section
/-! SUPPORT. What the checked accesses to the object dictionary do. -/

namespace Sys2Proof.Laws

open Sys2Proof.Machine Sys2Proof.Safety

/-- What an access ends has no part in the checks of a write. -/
@[simp] theorem accessBegins_writeCheck (d : Dev) (tr : Transport) : (d.accessBegins tr).writeCheck = d.writeCheck := by
  cases tr <;> rfl

/-! ### What ends an initiator's snapshots keeps the rest (R28) -/

@[simp] theorem snapEnds_now (d : Dev) (tr : Transport) : (d.snapEnds tr).now = d.now := rfl
@[simp] theorem snapEnds_out (d : Dev) (tr : Transport) : (d.snapEnds tr).out = d.out := rfl
@[simp] theorem snapEnds_od (d : Dev) (tr : Transport) : (d.snapEnds tr).od = d.od := rfl
@[simp] theorem snapEnds_pw (d : Dev) (tr : Transport) : (d.snapEnds tr).pw = d.pw := rfl
@[simp] theorem snapEnds_tap (d : Dev) (tr : Transport) : (d.snapEnds tr).tap = d.tap := rfl
@[simp] theorem snapEnds_clk (d : Dev) (tr : Transport) : (d.snapEnds tr).clk = d.clk := rfl
@[simp] theorem snapEnds_vault (d : Dev) (tr : Transport) : (d.snapEnds tr).vault = d.vault := rfl
@[simp] theorem snapEnds_ledger (d : Dev) (tr : Transport) : (d.snapEnds tr).ledger = d.ledger := rfl
@[simp] theorem snapEnds_log (d : Dev) (tr : Transport) : (d.snapEnds tr).log = d.log := rfl
@[simp] theorem snapEnds_loops (d : Dev) (tr : Transport) : (d.snapEnds tr).loops = d.loops := rfl
@[simp] theorem snapEnds_pitch (d : Dev) (tr : Transport) : (d.snapEnds tr).pitch = d.pitch := rfl
@[simp] theorem snapEnds_team (d : Dev) (tr : Transport) : (d.snapEnds tr).team = d.team := rfl
@[simp] theorem snapEnds_mirror (d : Dev) (tr : Transport) : (d.snapEnds tr).mirror = d.mirror := rfl
@[simp] theorem snapEnds_discrete (d : Dev) (tr : Transport) : (d.snapEnds tr).discrete = d.discrete := rfl
@[simp] theorem snapEnds_dom (d : Dev) (tr : Transport) : (d.snapEnds tr).dom = d.dom := rfl
@[simp] theorem snapEnds_blocks (d : Dev) (tr : Transport) : (d.snapEnds tr).blocks = d.blocks := rfl
@[simp] theorem snapEnds_alerts (d : Dev) (tr : Transport) : (d.snapEnds tr).alerts = d.alerts := rfl
@[simp] theorem snapEnds_rows (d : Dev) (tr : Transport) : (d.snapEnds tr).rows = d.rows := rfl
@[simp] theorem snapEnds_staged (d : Dev) (tr : Transport) : (d.snapEnds tr).staged = d.staged := rfl
@[simp] theorem snapEnds_commit (d : Dev) (tr : Transport) : (d.snapEnds tr).commit = d.commit := rfl
@[simp] theorem snapEnds_plan (d : Dev) (tr : Transport) : (d.snapEnds tr).plan = d.plan := rfl
@[simp] theorem snapEnds_ports (d : Dev) (tr : Transport) : (d.snapEnds tr).ports = d.ports := rfl
@[simp] theorem snapEnds_ser (d : Dev) (tr : Transport) : (d.snapEnds tr).ser = d.ser := rfl
@[simp] theorem snapEnds_can (d : Dev) (tr : Transport) : (d.snapEnds tr).can = d.can := rfl
@[simp] theorem snapEnds_bridge (d : Dev) (tr : Transport) : (d.snapEnds tr).bridge = d.bridge := rfl
@[simp] theorem snapEnds_rings (d : Dev) (tr : Transport) : (d.snapEnds tr).rings = d.rings := rfl
@[simp] theorem snapEnds_msix (d : Dev) (tr : Transport) : (d.snapEnds tr).msix = d.msix := rfl
@[simp] theorem snapEnds_coreOn (d : Dev) (tr : Transport) : (d.snapEnds tr).coreOn = d.coreOn := rfl
@[simp] theorem snapEnds_inService (d : Dev) (tr : Transport) : (d.snapEnds tr).inService = d.inService := rfl
@[simp] theorem snapEnds_on (d : Dev) (tr : Transport) : (d.snapEnds tr).on = d.on := rfl
@[simp] theorem snapEnds_released (d : Dev) (tr : Transport) : (d.snapEnds tr).released = d.released := rfl
@[simp] theorem snapEnds_barReady (d : Dev) (tr : Transport) : (d.snapEnds tr).barReady = d.barReady := rfl
@[simp] theorem snapEnds_get (d : Dev) (tr : Transport) : (d.snapEnds tr).get = d.get := rfl
@[simp] theorem snapEnds_reaches (d : Dev) (tr : Transport) : (d.snapEnds tr).reaches = d.reaches := rfl
@[simp] theorem accessBegins_now (d : Dev) (tr : Transport) : (d.accessBegins tr).now = d.now := by cases tr <;> rfl
@[simp] theorem accessBegins_out (d : Dev) (tr : Transport) : (d.accessBegins tr).out = d.out := by cases tr <;> rfl
@[simp] theorem accessBegins_od (d : Dev) (tr : Transport) : (d.accessBegins tr).od = d.od := by cases tr <;> rfl
@[simp] theorem accessBegins_pw (d : Dev) (tr : Transport) : (d.accessBegins tr).pw = d.pw := by cases tr <;> rfl
@[simp] theorem accessBegins_tap (d : Dev) (tr : Transport) : (d.accessBegins tr).tap = d.tap := by cases tr <;> rfl
@[simp] theorem accessBegins_clk (d : Dev) (tr : Transport) : (d.accessBegins tr).clk = d.clk := by cases tr <;> rfl
@[simp] theorem accessBegins_vault (d : Dev) (tr : Transport) : (d.accessBegins tr).vault = d.vault := by cases tr <;> rfl
@[simp] theorem accessBegins_ledger (d : Dev) (tr : Transport) : (d.accessBegins tr).ledger = d.ledger := by cases tr <;> rfl
@[simp] theorem accessBegins_log (d : Dev) (tr : Transport) : (d.accessBegins tr).log = d.log := by cases tr <;> rfl
@[simp] theorem accessBegins_loops (d : Dev) (tr : Transport) : (d.accessBegins tr).loops = d.loops := by cases tr <;> rfl
@[simp] theorem accessBegins_pitch (d : Dev) (tr : Transport) : (d.accessBegins tr).pitch = d.pitch := by cases tr <;> rfl
@[simp] theorem accessBegins_team (d : Dev) (tr : Transport) : (d.accessBegins tr).team = d.team := by cases tr <;> rfl
@[simp] theorem accessBegins_mirror (d : Dev) (tr : Transport) : (d.accessBegins tr).mirror = d.mirror := by cases tr <;> rfl
@[simp] theorem accessBegins_discrete (d : Dev) (tr : Transport) : (d.accessBegins tr).discrete = d.discrete := by cases tr <;> rfl
@[simp] theorem accessBegins_dom (d : Dev) (tr : Transport) : (d.accessBegins tr).dom = d.dom := by cases tr <;> rfl
@[simp] theorem accessBegins_blocks (d : Dev) (tr : Transport) : (d.accessBegins tr).blocks = d.blocks := by cases tr <;> rfl
@[simp] theorem accessBegins_alerts (d : Dev) (tr : Transport) : (d.accessBegins tr).alerts = d.alerts := by cases tr <;> rfl
@[simp] theorem accessBegins_programming (d : Dev) (tr : Transport) : (d.accessBegins tr).programming = d.programming := by cases tr <;> rfl
@[simp] theorem accessBegins_noRack (d : Dev) (tr : Transport) : (d.accessBegins tr).noRack = d.noRack := by cases tr <;> rfl
@[simp] theorem accessBegins_rows (d : Dev) (tr : Transport) : (d.accessBegins tr).rows = d.rows := by cases tr <;> rfl
@[simp] theorem accessBegins_staged (d : Dev) (tr : Transport) : (d.accessBegins tr).staged = d.staged := by cases tr <;> rfl
@[simp] theorem accessBegins_commit (d : Dev) (tr : Transport) : (d.accessBegins tr).commit = d.commit := by cases tr <;> rfl
@[simp] theorem accessBegins_plan (d : Dev) (tr : Transport) : (d.accessBegins tr).plan = d.plan := by cases tr <;> rfl
@[simp] theorem accessBegins_ports (d : Dev) (tr : Transport) : (d.accessBegins tr).ports = d.ports := by cases tr <;> rfl
@[simp] theorem accessBegins_ser (d : Dev) (tr : Transport) : (d.accessBegins tr).ser = d.ser := by cases tr <;> rfl
@[simp] theorem accessBegins_can (d : Dev) (tr : Transport) : (d.accessBegins tr).can = d.can := by cases tr <;> rfl
@[simp] theorem accessBegins_rings (d : Dev) (tr : Transport) : (d.accessBegins tr).rings = d.rings := by cases tr <;> rfl
@[simp] theorem accessBegins_coreOn (d : Dev) (tr : Transport) : (d.accessBegins tr).coreOn = d.coreOn := by cases tr <;> rfl
@[simp] theorem accessBegins_inService (d : Dev) (tr : Transport) : (d.accessBegins tr).inService = d.inService := by cases tr <;> rfl
@[simp] theorem accessBegins_on (d : Dev) (tr : Transport) : (d.accessBegins tr).on = d.on := by cases tr <;> rfl
@[simp] theorem accessBegins_released (d : Dev) (tr : Transport) : (d.accessBegins tr).released = d.released := by cases tr <;> rfl
@[simp] theorem accessBegins_get (d : Dev) (tr : Transport) : (d.accessBegins tr).get = d.get := by cases tr <;> rfl
@[simp] theorem accessBegins_reaches (d : Dev) (tr : Transport) : (d.accessBegins tr).reaches = d.reaches := by cases tr <;> rfl
@[simp] theorem accessBegins_block (d : Dev) (tr : Transport) : (d.accessBegins tr).block = d.block := by cases tr <;> rfl
@[simp] theorem accessBegins_readCheck (d : Dev) (tr : Transport) : (d.accessBegins tr).readCheck = d.readCheck := by cases tr <;> rfl

/-- A write that no check stops has the effect of its entry. -/
theorem writeOd_accepted {d : Dev} {o : Otp} {tr : Transport} {idx sub v : Nat} {size : Option Nat} {x : Outside} {r : OdRow}
    (hon : d.reaches tr = true) (hc : d.writeCheck tr idx sub size v = none) (hr : dictFind idx sub = some r) :
    d.writeOd o tr idx sub size v x = (d.accessBegins tr).writeEntry o tr r idx sub v x := by
  simp [Dev.writeOd, Dev.writeAccess, hon, hc, hr]

/-- A write that a check stops is rejected. -/
theorem writeOd_rejected {d : Dev} {o : Otp} {tr : Transport} {idx sub v : Nat} {size : Option Nat} {x : Outside} {a : Abort}
    {b : Bool} (hon : d.reaches tr = true) (hc : d.writeCheck tr idx sub size v = some (a, b)) :
    d.writeOd o tr idx sub size v x = ((d.accessBegins tr).touch tr idx).rejectAlert tr idx sub (slotAddress idx sub) b := by
  simp [Dev.writeOd, Dev.writeAccess, hon, hc]

/-- With the dictionary out of reach nothing is written. -/
theorem writeOd_off {d : Dev} {o : Otp} {tr : Transport} {idx sub v : Nat} {size : Option Nat} {x : Outside} (hon : d.reaches tr = false) :
    d.writeOd o tr idx sub size v x = d := by
  simp [Dev.writeOd, hon]

/-- An accepted write names an entry that is there. -/
theorem present_of_writeCheck {d : Dev} {tr : Transport} {idx sub v : Nat} {size : Option Nat}
    (h : d.writeCheck tr idx sub size v = none) : ∃ r, dictFind idx sub = some r := by
  unfold Dev.writeCheck Dev.absent at h
  cases hr : dictFind idx sub with
  | some r => exact ⟨r, rfl⟩
  | none =>
    rw [hr] at h
    by_cases he : d.enabled tr true = true <;> by_cases hi : dictHasIndex idx = true <;> simp [he, hi] at h

/-- An accepted write is to no read-only entry. -/
theorem writable_of_writeCheck {d : Dev} {tr : Transport} {idx sub v : Nat} {size : Option Nat} {r : OdRow}
    (h : d.writeCheck tr idx sub size v = none) (hr : dictFind idx sub = some r) : r.acc ≠ .ro ∧ r.acc ≠ .const := by
  unfold Dev.writeCheck at h
  split at h
  · cases h
  · simp only [hr] at h
    by_cases hc : r.acc = .ro ∨ r.acc = .const
    · simp [hc] at h
    · exact not_or.mp hc

/-- The rows of an access block are neither persistent nor mirrored, but for its constants. -/
theorem dictRows_tbl (tbl : Tbl) :
    ∀ r ∈ dictRows tbl.index, r.ilo ≤ tbl.index → tbl.index ≤ r.ihi → r.keep ≠ .P ∧ r.keep ≠ .M ∨ r.acc = .const := by
  cases tbl <;> decide

/-- An index finds the block of a table and no other. -/
theorem ofIndex_index (tbl : Tbl) : Tbl.ofIndex tbl.index = some tbl := by cases tbl <;> decide

/-- No bit of a written value is reserved in an access block. -/
theorem keptMask_tbl (tbl : Tbl) (sub v : Nat) : keptMask tbl.index sub v = v := by
  cases tbl <;> simp [keptMask, Tbl.index]

/-- A row that is found covers the entry. -/
theorem covers_of_dictFind {idx sub : Nat} {r : OdRow} (h : dictFind idx sub = some r) :
    r ∈ dictRows idx ∧ r.ilo ≤ idx ∧ idx ≤ r.ihi := by
  have hc := List.find?_some h
  simp only [OdRow.covers, Bool.and_eq_true, decide_eq_true_eq] at hc
  exact ⟨List.mem_of_find?_eq_some h, hc.1.1.1, hc.1.1.2⟩

/-- An accepted write to an access block has the effect of the block's entry and no other. -/
theorem writeOd_tbl {d : Dev} {o : Otp} {tr : Transport} {tbl : Tbl} {sub v : Nat} {size : Option Nat} {x : Outside}
    (hon : d.reaches tr = true) (hc : d.writeCheck tr tbl.index sub size v = none) :
    d.writeOd o tr tbl.index sub size v x = (d.accessBegins tr).blockWrite tr tbl sub v := by
  obtain ⟨r, hr⟩ := present_of_writeCheck hc
  have hcov := covers_of_dictFind hr
  have hk : r.keep ≠ .P ∧ r.keep ≠ .M := by
    rcases dictRows_tbl tbl r hcov.1 hcov.2.1 hcov.2.2 with h | h
    · exact h
    · exact absurd h (writable_of_writeCheck hc hr).2
  have hp : tbl.index ≠ 0x2100 := by cases tbl <;> simp [Tbl.index]
  have hi : ¬ (tbl.index = 0x2502 ∨ tbl.index = 0x2100 ∨ (0x3200 ≤ tbl.index ∧ tbl.index ≤ 0x3203 ∧ sub = 1)) := by
    cases tbl <;> simp [Tbl.index]
  rw [writeOd_accepted hon hc hr]
  simp only [Dev.writeEntry, Dev.writeEffect, ofIndex_index, keptMask_tbl, if_neg hk.1, if_neg hk.2, if_neg hp, if_neg hi]

end Sys2Proof.Laws
end

