-- ==== Sys2Proof/Laws/Maps.lean ====
section
/-! SUPPORT. Sparse lists: a read after a write, and that a write keeps the canonical form. -/

namespace Sys2Proof.Laws

/-- A key below which a canonical list holds nothing. -/
theorem get_below {α : Type} [DecidableEq α] {dflt : Nat → α} {m : SMap α} {lo k : Nat}
    (h : SMap.wfFrom dflt (some lo) m = true) (hk : k ≤ lo) : SMap.get dflt m k = dflt k := by
  induction m generalizing lo with
  | nil => rfl
  | cons p r ih =>
    obtain ⟨k', v⟩ := p
    simp only [SMap.wfFrom, Bool.and_eq_true, decide_eq_true_eq] at h
    have hl : lo < k' := h.1.1
    rw [SMap.get, if_neg (by omega), ih h.2 (by omega)]

/-- A read after a write in a canonical list. -/
theorem get_set {α : Type} [DecidableEq α] {dflt : Nat → α} {m : SMap α} {lo : Option Nat} (k : Nat) (v : α) (j : Nat)
    (h : SMap.wfFrom dflt lo m = true) :
    SMap.get dflt (SMap.set dflt m k v) j = if j = k then v else SMap.get dflt m j := by
  induction m generalizing lo with
  | nil =>
    by_cases hv : v = dflt k <;> by_cases hj : j = k <;> simp [SMap.set, SMap.get, hv, hj]
  | cons p r ih =>
    obtain ⟨k', v'⟩ := p
    simp only [SMap.wfFrom, Bool.and_eq_true, decide_eq_true_eq] at h
    simp only [SMap.set]
    split
    · rename_i hlt
      by_cases hv : v = dflt k
      · rw [if_pos hv]
        by_cases hj : j = k
        · subst hj
          rw [SMap.get, if_neg (by omega), get_below h.2 (by omega), if_pos rfl, hv]
        · rw [if_neg hj]
      · rw [if_neg hv]
        rfl
    · split
      · rename_i _ he
        subst he
        by_cases hv : v = dflt k
        · rw [if_pos hv]
          by_cases hj : j = k
          · subst hj
            rw [get_below h.2 (by omega), if_pos rfl, hv]
          · simp [SMap.get, hj]
        · rw [if_neg hv]
          by_cases hj : j = k <;> simp [SMap.get, hj]
      · rename_i _ hne
        rw [SMap.get, SMap.get, ih h.2]
        by_cases hj : j = k'
        · rw [if_pos hj, if_neg (by omega), if_pos hj]
        · rw [if_neg hj, if_neg hj]

/-- A write keeps the canonical form. -/
theorem wfFrom_set {α : Type} [DecidableEq α] {dflt : Nat → α} {m : SMap α} {lo : Option Nat} {k : Nat} (v : α)
    (h : SMap.wfFrom dflt lo m = true) (hk : ∀ l, lo = some l → l < k) : SMap.wfFrom dflt lo (SMap.set dflt m k v) = true := by
  induction m generalizing lo with
  | nil =>
    by_cases hv : v = dflt k
    · simp [SMap.set, hv, SMap.wfFrom]
    · cases lo <;> simp_all [SMap.set, SMap.wfFrom]
  | cons p r ih =>
    obtain ⟨k', v'⟩ := p
    have h' := h
    simp only [SMap.wfFrom, Bool.and_eq_true, decide_eq_true_eq] at h
    simp only [SMap.set]
    split
    · by_cases hv : v = dflt k
      · rw [if_pos hv]
        exact h'
      · rw [if_neg hv]
        cases lo <;> simp_all [SMap.wfFrom]
    · split
      · rename_i _ he
        subst he
        by_cases hv : v = dflt k
        · rw [if_pos hv]
          cases r with
          | nil => rfl
          | cons q r =>
            obtain ⟨k2, v2⟩ := q
            have h2 := h.2
            simp only [SMap.wfFrom, Bool.and_eq_true, decide_eq_true_eq] at h2 ⊢
            refine ⟨⟨?_, h2.1.2⟩, h2.2⟩
            cases lo with
            | none => rfl
            | some l =>
              have := hk l rfl
              simp only [decide_eq_true_eq]
              omega
        · rw [if_neg hv]
          cases lo <;> simp_all [SMap.wfFrom]
      · have := ih (lo := some k') h.2 (by intro l hl; cases hl; omega)
        simp only [SMap.wfFrom, Bool.and_eq_true, decide_eq_true_eq]
        exact ⟨h.1, this⟩

/-- A write keeps the canonical form of a whole list. -/
theorem wf_set {α : Type} [DecidableEq α] {dflt : Nat → α} {m : SMap α} (k : Nat) (v : α) (h : SMap.wf dflt m = true) :
    SMap.wf dflt (SMap.set dflt m k v) = true :=
  wfFrom_set v h (fun _ hl => nomatch hl)

end Sys2Proof.Laws
end

