-- ==== Sys2Proof/Laws/Rope.lean ====
section
/-! SUPPORT. What a rope frame that is heard does. -/

namespace Sys2Proof.Laws

open Sys2Proof.Machine Sys2Proof.Safety

/-- A frame that the receiver takes, of the command's type, has the effect of its body. -/
theorem onRope_take {d : Dev} {f : RopeFrame} {ty : Nat} {foreign : Dev → Dev} {k : Dev → List Byte → Dev} {b : List Byte}
    {n : Option Nat} (h : d.ropeIn f = .take b n) (ht : frameType f = ty) : d.onRope f [ty] foreign k = k (d.heard n) b := by
  simp [Dev.onRope, h, ht]

/-- A frame that the receiver does not hear at all changes nothing. -/
theorem onRope_ignore {d : Dev} {f : RopeFrame} {types : List Nat} {foreign : Dev → Dev} {k : Dev → List Byte → Dev}
    (h : d.ropeIn f = .ignore) : d.onRope f types foreign k = d := by
  simp [Dev.onRope, h]

/-- Hearing a frame leaves the role and everything outside the team. -/
theorem heard_role (d : Dev) (n : Option Nat) : (d.heard n).team.role = d.team.role := by
  cases n <;> rfl

theorem heard_mirror (d : Dev) (n : Option Nat) : (d.heard n).mirror = d.mirror := by
  cases n <;> rfl

theorem heard_od (d : Dev) (n : Option Nat) : (d.heard n).od = d.od := by
  cases n <;> rfl

end Sys2Proof.Laws
end

