-- ==== Sys2Proof/Laws/Serve.lean ====
section
/-! SUPPORT. What an OD-access request that is served answers. -/

namespace Sys2Proof.Laws

open Sys2Proof.Machine Sys2Proof.Safety

/-- A request of a peer that has the right is executed and answered. -/
theorem odRequest_served {d : Dev} {o : Otp} {ty : OdOp} {q : OdRequest} {x : Outside} {peer : Nat} (h : Served d q peer)
    (hty : ∀ c, ty ≠ .other c) (hr : bit (d.get 0x1C02 (peer + 1)) (b2n ty.writes) = true) (he : d.enabled .od ty.writes = true) :
    d.odRequest o ty q x = Dev.odAnswer (d.odExecute o peer ty q x) peer ty q := by
  obtain ⟨h1, h2, h3, h4, h5, h6⟩ := h
  cases ty with
  | other c => exact absurd rfl (hty c)
  | _ =>
    simp only [OdOp.writes, b2n, if_true, Bool.false_eq_true, if_false] at hr he
    have hg : ¬ ((!d.on) = true ∨ (!d.portRuns q.port) = true ∨ (!d.linkUp q.port) = true ∨ q.node ≠ d.node) := by
      simp [h1, h2, h3, h4]
    simp only [Dev.odRequest, if_neg hg, h5, h6, OdOp.writes, hr, he, Bool.and_self, if_true, Bool.false_eq_true, if_false]

end Sys2Proof.Laws
end

