-- ==== Sys2Proof/Laws/State.lean ====
section
/-! SUPPORT. What each update of the state keeps and sets, one lemma a field, so that no proof unfolds an update. -/

namespace Sys2Proof.Laws

open Sys2Proof Sys2Proof.Machine

/-! ### The state at an instant, and after a command -/

@[simp] theorem finish_pending (s : State) (d : Dev) : (s.finish d).pending = s.pending := rfl
@[simp] theorem finish_otp (s : State) (d : Dev) : (s.finish d).otp = s.otp := rfl
@[simp] theorem finish_dev (s : State) (d : Dev) : (s.finish d).dev = Dev.settle s.otp s.dev d := rfl
@[simp] theorem after_pending (s : State) (t : Nat) (f : Dev → Dev) : (s.after t f).pending = s.pending := rfl
@[simp] theorem after_otp (s : State) (t : Nat) (f : Dev → Dev) : (s.after t f).otp = s.otp := rfl
@[simp] theorem at_now (s : State) (t : Nat) : (s.at t).now = max t s.dev.now := rfl
@[simp] theorem at_out (s : State) (t : Nat) : (s.at t).out = s.dev.out := rfl
@[simp] theorem at_od (s : State) (t : Nat) : (s.at t).od = s.dev.od := rfl
@[simp] theorem at_pw (s : State) (t : Nat) : (s.at t).pw = s.dev.pw := rfl
@[simp] theorem at_tap (s : State) (t : Nat) : (s.at t).tap = s.dev.tap := rfl
@[simp] theorem at_clk (s : State) (t : Nat) : (s.at t).clk = s.dev.clk := rfl
@[simp] theorem at_vault (s : State) (t : Nat) : (s.at t).vault = s.dev.vault := rfl
@[simp] theorem at_ledger (s : State) (t : Nat) : (s.at t).ledger = s.dev.ledger := rfl
@[simp] theorem at_log (s : State) (t : Nat) : (s.at t).log = s.dev.log := rfl
@[simp] theorem at_loops (s : State) (t : Nat) : (s.at t).loops = s.dev.loops := rfl
@[simp] theorem at_pitch (s : State) (t : Nat) : (s.at t).pitch = s.dev.pitch := rfl
@[simp] theorem at_team (s : State) (t : Nat) : (s.at t).team = s.dev.team := rfl
@[simp] theorem at_mirror (s : State) (t : Nat) : (s.at t).mirror = s.dev.mirror := rfl
@[simp] theorem at_discrete (s : State) (t : Nat) : (s.at t).discrete = s.dev.discrete := rfl
@[simp] theorem at_words (s : State) (t : Nat) : (s.at t).words = s.dev.words := rfl
@[simp] theorem at_dom (s : State) (t : Nat) : (s.at t).dom = s.dev.dom := rfl
@[simp] theorem at_blocks (s : State) (t : Nat) : (s.at t).blocks = s.dev.blocks := rfl
@[simp] theorem at_rows (s : State) (t : Nat) : (s.at t).rows = s.dev.rows := rfl
@[simp] theorem at_looped (s : State) (t : Nat) : (s.at t).looped = s.dev.looped := rfl
@[simp] theorem at_plan (s : State) (t : Nat) : (s.at t).plan = s.dev.plan := rfl
@[simp] theorem at_ports (s : State) (t : Nat) : (s.at t).ports = s.dev.ports := rfl
@[simp] theorem at_ser (s : State) (t : Nat) : (s.at t).ser = s.dev.ser := rfl
@[simp] theorem at_can (s : State) (t : Nat) : (s.at t).can = s.dev.can := rfl
@[simp] theorem at_bridge (s : State) (t : Nat) : (s.at t).bridge = s.dev.bridge := rfl
@[simp] theorem at_rings (s : State) (t : Nat) : (s.at t).rings = s.dev.rings := rfl
@[simp] theorem at_stuckAt (s : State) (t : Nat) : (s.at t).stuckAt = s.dev.stuckAt := rfl
@[simp] theorem at_stuckBits (s : State) (t : Nat) : (s.at t).stuckBits = s.dev.stuckBits := rfl
@[simp] theorem at_lanes (s : State) (t : Nat) : (s.at t).lanes = s.dev.lanes := rfl
@[simp] theorem at_laneQueue (s : State) (t : Nat) : (s.at t).laneQueue = s.dev.laneQueue := rfl
@[simp] theorem at_framesCut (s : State) (t : Nat) : (s.at t).framesCut = s.dev.framesCut := rfl
@[simp] theorem at_entered (s : State) (t : Nat) : (s.at t).entered = s.dev.entered := rfl
@[simp] theorem at_waitTag (s : State) (t : Nat) : (s.at t).waitTag = s.dev.waitTag := rfl
@[simp] theorem at_tagged (s : State) (t : Nat) : (s.at t).tagged = s.dev.tagged := rfl
@[simp] theorem at_sending (s : State) (t : Nat) : (s.at t).sending = s.dev.sending := rfl
@[simp] theorem at_previous (s : State) (t : Nat) : (s.at t).previous = s.dev.previous := rfl
@[simp] theorem at_older (s : State) (t : Nat) : (s.at t).older = s.dev.older := rfl
@[simp] theorem at_odOpen (s : State) (t : Nat) : (s.at t).odOpen = s.dev.odOpen := rfl
@[simp] theorem at_kept (s : State) (t : Nat) : (s.at t).kept = s.dev.kept := rfl

/-! ### `Dev.put` -/

@[simp] theorem put_now (d : Dev) (i j v : Nat) : (d.put i j v).now = d.now := rfl
@[simp] theorem put_out (d : Dev) (i j v : Nat) : (d.put i j v).out = d.out := rfl
@[simp] theorem put_pw (d : Dev) (i j v : Nat) : (d.put i j v).pw = d.pw := rfl
@[simp] theorem put_tap (d : Dev) (i j v : Nat) : (d.put i j v).tap = d.tap := rfl
@[simp] theorem put_clk (d : Dev) (i j v : Nat) : (d.put i j v).clk = d.clk := rfl
@[simp] theorem put_vault (d : Dev) (i j v : Nat) : (d.put i j v).vault = d.vault := rfl
@[simp] theorem put_ledger (d : Dev) (i j v : Nat) : (d.put i j v).ledger = d.ledger := rfl
@[simp] theorem put_log (d : Dev) (i j v : Nat) : (d.put i j v).log = d.log := rfl
@[simp] theorem put_loops (d : Dev) (i j v : Nat) : (d.put i j v).loops = d.loops := rfl
@[simp] theorem put_pitch (d : Dev) (i j v : Nat) : (d.put i j v).pitch = d.pitch := rfl
@[simp] theorem put_team (d : Dev) (i j v : Nat) : (d.put i j v).team = d.team := rfl
@[simp] theorem put_mirror (d : Dev) (i j v : Nat) : (d.put i j v).mirror = d.mirror := rfl
@[simp] theorem put_discrete (d : Dev) (i j v : Nat) : (d.put i j v).discrete = d.discrete := rfl
@[simp] theorem put_words (d : Dev) (i j v : Nat) : (d.put i j v).words = d.words := rfl
@[simp] theorem put_dom (d : Dev) (i j v : Nat) : (d.put i j v).dom = d.dom := rfl
@[simp] theorem put_blocks (d : Dev) (i j v : Nat) : (d.put i j v).blocks = d.blocks := rfl
@[simp] theorem put_rows (d : Dev) (i j v : Nat) : (d.put i j v).rows = d.rows := rfl
@[simp] theorem put_looped (d : Dev) (i j v : Nat) : (d.put i j v).looped = d.looped := rfl
@[simp] theorem put_plan (d : Dev) (i j v : Nat) : (d.put i j v).plan = d.plan := rfl
@[simp] theorem put_ports (d : Dev) (i j v : Nat) : (d.put i j v).ports = d.ports := rfl
@[simp] theorem put_ser (d : Dev) (i j v : Nat) : (d.put i j v).ser = d.ser := rfl
@[simp] theorem put_can (d : Dev) (i j v : Nat) : (d.put i j v).can = d.can := rfl
@[simp] theorem put_bridge (d : Dev) (i j v : Nat) : (d.put i j v).bridge = d.bridge := rfl
@[simp] theorem put_rings (d : Dev) (i j v : Nat) : (d.put i j v).rings = d.rings := rfl
@[simp] theorem put_stuckAt (d : Dev) (i j v : Nat) : (d.put i j v).stuckAt = d.stuckAt := rfl
@[simp] theorem put_stuckBits (d : Dev) (i j v : Nat) : (d.put i j v).stuckBits = d.stuckBits := rfl
@[simp] theorem put_lanes (d : Dev) (i j v : Nat) : (d.put i j v).lanes = d.lanes := rfl
@[simp] theorem put_laneQueue (d : Dev) (i j v : Nat) : (d.put i j v).laneQueue = d.laneQueue := rfl
@[simp] theorem put_framesCut (d : Dev) (i j v : Nat) : (d.put i j v).framesCut = d.framesCut := rfl
@[simp] theorem put_entered (d : Dev) (i j v : Nat) : (d.put i j v).entered = d.entered := rfl
@[simp] theorem put_waitTag (d : Dev) (i j v : Nat) : (d.put i j v).waitTag = d.waitTag := rfl
@[simp] theorem put_tagged (d : Dev) (i j v : Nat) : (d.put i j v).tagged = d.tagged := rfl
@[simp] theorem put_sending (d : Dev) (i j v : Nat) : (d.put i j v).sending = d.sending := rfl
@[simp] theorem put_previous (d : Dev) (i j v : Nat) : (d.put i j v).previous = d.previous := rfl
@[simp] theorem put_older (d : Dev) (i j v : Nat) : (d.put i j v).older = d.older := rfl
@[simp] theorem put_odOpen (d : Dev) (i j v : Nat) : (d.put i j v).odOpen = d.odOpen := rfl
@[simp] theorem put_kept (d : Dev) (i j v : Nat) : (d.put i j v).kept = d.kept := rfl

/-! ### `Dev.emit` -/

@[simp] theorem emit_now (d : Dev) (o : Out) : (d.emit o).now = d.now := rfl
@[simp] theorem emit_od (d : Dev) (o : Out) : (d.emit o).od = d.od := rfl
@[simp] theorem emit_pw (d : Dev) (o : Out) : (d.emit o).pw = d.pw := rfl
@[simp] theorem emit_tap (d : Dev) (o : Out) : (d.emit o).tap = d.tap := rfl
@[simp] theorem emit_clk (d : Dev) (o : Out) : (d.emit o).clk = d.clk := rfl
@[simp] theorem emit_vault (d : Dev) (o : Out) : (d.emit o).vault = d.vault := rfl
@[simp] theorem emit_ledger (d : Dev) (o : Out) : (d.emit o).ledger = d.ledger := rfl
@[simp] theorem emit_log (d : Dev) (o : Out) : (d.emit o).log = d.log := rfl
@[simp] theorem emit_loops (d : Dev) (o : Out) : (d.emit o).loops = d.loops := rfl
@[simp] theorem emit_pitch (d : Dev) (o : Out) : (d.emit o).pitch = d.pitch := rfl
@[simp] theorem emit_team (d : Dev) (o : Out) : (d.emit o).team = d.team := rfl
@[simp] theorem emit_mirror (d : Dev) (o : Out) : (d.emit o).mirror = d.mirror := rfl
@[simp] theorem emit_discrete (d : Dev) (o : Out) : (d.emit o).discrete = d.discrete := rfl
@[simp] theorem emit_words (d : Dev) (o : Out) : (d.emit o).words = d.words := rfl
@[simp] theorem emit_dom (d : Dev) (o : Out) : (d.emit o).dom = d.dom := rfl
@[simp] theorem emit_blocks (d : Dev) (o : Out) : (d.emit o).blocks = d.blocks := rfl
@[simp] theorem emit_rows (d : Dev) (o : Out) : (d.emit o).rows = d.rows := rfl
@[simp] theorem emit_looped (d : Dev) (o : Out) : (d.emit o).looped = d.looped := rfl
@[simp] theorem emit_plan (d : Dev) (o : Out) : (d.emit o).plan = d.plan := rfl
@[simp] theorem emit_ports (d : Dev) (o : Out) : (d.emit o).ports = d.ports := rfl
@[simp] theorem emit_ser (d : Dev) (o : Out) : (d.emit o).ser = d.ser := rfl
@[simp] theorem emit_can (d : Dev) (o : Out) : (d.emit o).can = d.can := rfl
@[simp] theorem emit_bridge (d : Dev) (o : Out) : (d.emit o).bridge = d.bridge := rfl
@[simp] theorem emit_rings (d : Dev) (o : Out) : (d.emit o).rings = d.rings := rfl
@[simp] theorem emit_stuckAt (d : Dev) (o : Out) : (d.emit o).stuckAt = d.stuckAt := rfl
@[simp] theorem emit_stuckBits (d : Dev) (o : Out) : (d.emit o).stuckBits = d.stuckBits := rfl
@[simp] theorem emit_lanes (d : Dev) (o : Out) : (d.emit o).lanes = d.lanes := rfl
@[simp] theorem emit_laneQueue (d : Dev) (o : Out) : (d.emit o).laneQueue = d.laneQueue := rfl
@[simp] theorem emit_framesCut (d : Dev) (o : Out) : (d.emit o).framesCut = d.framesCut := rfl
@[simp] theorem emit_entered (d : Dev) (o : Out) : (d.emit o).entered = d.entered := rfl
@[simp] theorem emit_waitTag (d : Dev) (o : Out) : (d.emit o).waitTag = d.waitTag := rfl
@[simp] theorem emit_tagged (d : Dev) (o : Out) : (d.emit o).tagged = d.tagged := rfl
@[simp] theorem emit_sending (d : Dev) (o : Out) : (d.emit o).sending = d.sending := rfl
@[simp] theorem emit_previous (d : Dev) (o : Out) : (d.emit o).previous = d.previous := rfl
@[simp] theorem emit_older (d : Dev) (o : Out) : (d.emit o).older = d.older := rfl
@[simp] theorem emit_odOpen (d : Dev) (o : Out) : (d.emit o).odOpen = d.odOpen := rfl
@[simp] theorem emit_kept (d : Dev) (o : Out) : (d.emit o).kept = d.kept := rfl

/-! ### `Dev.setSer` -/

@[simp] theorem setSer_now (d : Dev) (n : Nat) (x : SerCh) : (d.setSer n x).now = d.now := rfl
@[simp] theorem setSer_out (d : Dev) (n : Nat) (x : SerCh) : (d.setSer n x).out = d.out := rfl
@[simp] theorem setSer_od (d : Dev) (n : Nat) (x : SerCh) : (d.setSer n x).od = d.od := rfl
@[simp] theorem setSer_pw (d : Dev) (n : Nat) (x : SerCh) : (d.setSer n x).pw = d.pw := rfl
@[simp] theorem setSer_tap (d : Dev) (n : Nat) (x : SerCh) : (d.setSer n x).tap = d.tap := rfl
@[simp] theorem setSer_clk (d : Dev) (n : Nat) (x : SerCh) : (d.setSer n x).clk = d.clk := rfl
@[simp] theorem setSer_vault (d : Dev) (n : Nat) (x : SerCh) : (d.setSer n x).vault = d.vault := rfl
@[simp] theorem setSer_ledger (d : Dev) (n : Nat) (x : SerCh) : (d.setSer n x).ledger = d.ledger := rfl
@[simp] theorem setSer_log (d : Dev) (n : Nat) (x : SerCh) : (d.setSer n x).log = d.log := rfl
@[simp] theorem setSer_loops (d : Dev) (n : Nat) (x : SerCh) : (d.setSer n x).loops = d.loops := rfl
@[simp] theorem setSer_pitch (d : Dev) (n : Nat) (x : SerCh) : (d.setSer n x).pitch = d.pitch := rfl
@[simp] theorem setSer_team (d : Dev) (n : Nat) (x : SerCh) : (d.setSer n x).team = d.team := rfl
@[simp] theorem setSer_mirror (d : Dev) (n : Nat) (x : SerCh) : (d.setSer n x).mirror = d.mirror := rfl
@[simp] theorem setSer_discrete (d : Dev) (n : Nat) (x : SerCh) : (d.setSer n x).discrete = d.discrete := rfl
@[simp] theorem setSer_words (d : Dev) (n : Nat) (x : SerCh) : (d.setSer n x).words = d.words := rfl
@[simp] theorem setSer_dom (d : Dev) (n : Nat) (x : SerCh) : (d.setSer n x).dom = d.dom := rfl
@[simp] theorem setSer_blocks (d : Dev) (n : Nat) (x : SerCh) : (d.setSer n x).blocks = d.blocks := rfl
@[simp] theorem setSer_rows (d : Dev) (n : Nat) (x : SerCh) : (d.setSer n x).rows = d.rows := rfl
@[simp] theorem setSer_looped (d : Dev) (n : Nat) (x : SerCh) : (d.setSer n x).looped = d.looped := rfl
@[simp] theorem setSer_plan (d : Dev) (n : Nat) (x : SerCh) : (d.setSer n x).plan = d.plan := rfl
@[simp] theorem setSer_ports (d : Dev) (n : Nat) (x : SerCh) : (d.setSer n x).ports = d.ports := rfl
@[simp] theorem setSer_can (d : Dev) (n : Nat) (x : SerCh) : (d.setSer n x).can = d.can := rfl
@[simp] theorem setSer_bridge (d : Dev) (n : Nat) (x : SerCh) : (d.setSer n x).bridge = d.bridge := rfl
@[simp] theorem setSer_rings (d : Dev) (n : Nat) (x : SerCh) : (d.setSer n x).rings = d.rings := rfl
@[simp] theorem setSer_stuckAt (d : Dev) (n : Nat) (x : SerCh) : (d.setSer n x).stuckAt = d.stuckAt := rfl
@[simp] theorem setSer_stuckBits (d : Dev) (n : Nat) (x : SerCh) : (d.setSer n x).stuckBits = d.stuckBits := rfl
@[simp] theorem setSer_lanes (d : Dev) (n : Nat) (x : SerCh) : (d.setSer n x).lanes = d.lanes := rfl
@[simp] theorem setSer_laneQueue (d : Dev) (n : Nat) (x : SerCh) : (d.setSer n x).laneQueue = d.laneQueue := rfl
@[simp] theorem setSer_framesCut (d : Dev) (n : Nat) (x : SerCh) : (d.setSer n x).framesCut = d.framesCut := rfl
@[simp] theorem setSer_entered (d : Dev) (n : Nat) (x : SerCh) : (d.setSer n x).entered = d.entered := rfl
@[simp] theorem setSer_waitTag (d : Dev) (n : Nat) (x : SerCh) : (d.setSer n x).waitTag = d.waitTag := rfl
@[simp] theorem setSer_tagged (d : Dev) (n : Nat) (x : SerCh) : (d.setSer n x).tagged = d.tagged := rfl
@[simp] theorem setSer_sending (d : Dev) (n : Nat) (x : SerCh) : (d.setSer n x).sending = d.sending := rfl
@[simp] theorem setSer_previous (d : Dev) (n : Nat) (x : SerCh) : (d.setSer n x).previous = d.previous := rfl
@[simp] theorem setSer_older (d : Dev) (n : Nat) (x : SerCh) : (d.setSer n x).older = d.older := rfl
@[simp] theorem setSer_odOpen (d : Dev) (n : Nat) (x : SerCh) : (d.setSer n x).odOpen = d.odOpen := rfl
@[simp] theorem setSer_kept (d : Dev) (n : Nat) (x : SerCh) : (d.setSer n x).kept = d.kept := rfl

/-! ### `Dev.setCan` -/

@[simp] theorem setCan_now (d : Dev) (n : Nat) (x : CanCh) : (d.setCan n x).now = d.now := rfl
@[simp] theorem setCan_out (d : Dev) (n : Nat) (x : CanCh) : (d.setCan n x).out = d.out := rfl
@[simp] theorem setCan_od (d : Dev) (n : Nat) (x : CanCh) : (d.setCan n x).od = d.od := rfl
@[simp] theorem setCan_pw (d : Dev) (n : Nat) (x : CanCh) : (d.setCan n x).pw = d.pw := rfl
@[simp] theorem setCan_tap (d : Dev) (n : Nat) (x : CanCh) : (d.setCan n x).tap = d.tap := rfl
@[simp] theorem setCan_clk (d : Dev) (n : Nat) (x : CanCh) : (d.setCan n x).clk = d.clk := rfl
@[simp] theorem setCan_vault (d : Dev) (n : Nat) (x : CanCh) : (d.setCan n x).vault = d.vault := rfl
@[simp] theorem setCan_ledger (d : Dev) (n : Nat) (x : CanCh) : (d.setCan n x).ledger = d.ledger := rfl
@[simp] theorem setCan_log (d : Dev) (n : Nat) (x : CanCh) : (d.setCan n x).log = d.log := rfl
@[simp] theorem setCan_loops (d : Dev) (n : Nat) (x : CanCh) : (d.setCan n x).loops = d.loops := rfl
@[simp] theorem setCan_pitch (d : Dev) (n : Nat) (x : CanCh) : (d.setCan n x).pitch = d.pitch := rfl
@[simp] theorem setCan_team (d : Dev) (n : Nat) (x : CanCh) : (d.setCan n x).team = d.team := rfl
@[simp] theorem setCan_mirror (d : Dev) (n : Nat) (x : CanCh) : (d.setCan n x).mirror = d.mirror := rfl
@[simp] theorem setCan_discrete (d : Dev) (n : Nat) (x : CanCh) : (d.setCan n x).discrete = d.discrete := rfl
@[simp] theorem setCan_words (d : Dev) (n : Nat) (x : CanCh) : (d.setCan n x).words = d.words := rfl
@[simp] theorem setCan_dom (d : Dev) (n : Nat) (x : CanCh) : (d.setCan n x).dom = d.dom := rfl
@[simp] theorem setCan_blocks (d : Dev) (n : Nat) (x : CanCh) : (d.setCan n x).blocks = d.blocks := rfl
@[simp] theorem setCan_rows (d : Dev) (n : Nat) (x : CanCh) : (d.setCan n x).rows = d.rows := rfl
@[simp] theorem setCan_looped (d : Dev) (n : Nat) (x : CanCh) : (d.setCan n x).looped = d.looped := rfl
@[simp] theorem setCan_plan (d : Dev) (n : Nat) (x : CanCh) : (d.setCan n x).plan = d.plan := rfl
@[simp] theorem setCan_ports (d : Dev) (n : Nat) (x : CanCh) : (d.setCan n x).ports = d.ports := rfl
@[simp] theorem setCan_ser (d : Dev) (n : Nat) (x : CanCh) : (d.setCan n x).ser = d.ser := rfl
@[simp] theorem setCan_bridge (d : Dev) (n : Nat) (x : CanCh) : (d.setCan n x).bridge = d.bridge := rfl
@[simp] theorem setCan_rings (d : Dev) (n : Nat) (x : CanCh) : (d.setCan n x).rings = d.rings := rfl
@[simp] theorem setCan_stuckAt (d : Dev) (n : Nat) (x : CanCh) : (d.setCan n x).stuckAt = d.stuckAt := rfl
@[simp] theorem setCan_stuckBits (d : Dev) (n : Nat) (x : CanCh) : (d.setCan n x).stuckBits = d.stuckBits := rfl
@[simp] theorem setCan_lanes (d : Dev) (n : Nat) (x : CanCh) : (d.setCan n x).lanes = d.lanes := rfl
@[simp] theorem setCan_laneQueue (d : Dev) (n : Nat) (x : CanCh) : (d.setCan n x).laneQueue = d.laneQueue := rfl
@[simp] theorem setCan_framesCut (d : Dev) (n : Nat) (x : CanCh) : (d.setCan n x).framesCut = d.framesCut := rfl
@[simp] theorem setCan_entered (d : Dev) (n : Nat) (x : CanCh) : (d.setCan n x).entered = d.entered := rfl
@[simp] theorem setCan_waitTag (d : Dev) (n : Nat) (x : CanCh) : (d.setCan n x).waitTag = d.waitTag := rfl
@[simp] theorem setCan_tagged (d : Dev) (n : Nat) (x : CanCh) : (d.setCan n x).tagged = d.tagged := rfl
@[simp] theorem setCan_sending (d : Dev) (n : Nat) (x : CanCh) : (d.setCan n x).sending = d.sending := rfl
@[simp] theorem setCan_previous (d : Dev) (n : Nat) (x : CanCh) : (d.setCan n x).previous = d.previous := rfl
@[simp] theorem setCan_older (d : Dev) (n : Nat) (x : CanCh) : (d.setCan n x).older = d.older := rfl
@[simp] theorem setCan_odOpen (d : Dev) (n : Nat) (x : CanCh) : (d.setCan n x).odOpen = d.odOpen := rfl
@[simp] theorem setCan_kept (d : Dev) (n : Nat) (x : CanCh) : (d.setCan n x).kept = d.kept := rfl

/-! ### `Dev.setPort` -/

@[simp] theorem setPort_now (d : Dev) (n : Nat) (x : Port) : (d.setPort n x).now = d.now := rfl
@[simp] theorem setPort_out (d : Dev) (n : Nat) (x : Port) : (d.setPort n x).out = d.out := rfl
@[simp] theorem setPort_od (d : Dev) (n : Nat) (x : Port) : (d.setPort n x).od = d.od := rfl
@[simp] theorem setPort_pw (d : Dev) (n : Nat) (x : Port) : (d.setPort n x).pw = d.pw := rfl
@[simp] theorem setPort_tap (d : Dev) (n : Nat) (x : Port) : (d.setPort n x).tap = d.tap := rfl
@[simp] theorem setPort_clk (d : Dev) (n : Nat) (x : Port) : (d.setPort n x).clk = d.clk := rfl
@[simp] theorem setPort_vault (d : Dev) (n : Nat) (x : Port) : (d.setPort n x).vault = d.vault := rfl
@[simp] theorem setPort_ledger (d : Dev) (n : Nat) (x : Port) : (d.setPort n x).ledger = d.ledger := rfl
@[simp] theorem setPort_log (d : Dev) (n : Nat) (x : Port) : (d.setPort n x).log = d.log := rfl
@[simp] theorem setPort_loops (d : Dev) (n : Nat) (x : Port) : (d.setPort n x).loops = d.loops := rfl
@[simp] theorem setPort_pitch (d : Dev) (n : Nat) (x : Port) : (d.setPort n x).pitch = d.pitch := rfl
@[simp] theorem setPort_team (d : Dev) (n : Nat) (x : Port) : (d.setPort n x).team = d.team := rfl
@[simp] theorem setPort_mirror (d : Dev) (n : Nat) (x : Port) : (d.setPort n x).mirror = d.mirror := rfl
@[simp] theorem setPort_discrete (d : Dev) (n : Nat) (x : Port) : (d.setPort n x).discrete = d.discrete := rfl
@[simp] theorem setPort_words (d : Dev) (n : Nat) (x : Port) : (d.setPort n x).words = d.words := rfl
@[simp] theorem setPort_dom (d : Dev) (n : Nat) (x : Port) : (d.setPort n x).dom = d.dom := rfl
@[simp] theorem setPort_blocks (d : Dev) (n : Nat) (x : Port) : (d.setPort n x).blocks = d.blocks := rfl
@[simp] theorem setPort_rows (d : Dev) (n : Nat) (x : Port) : (d.setPort n x).rows = d.rows := rfl
@[simp] theorem setPort_looped (d : Dev) (n : Nat) (x : Port) : (d.setPort n x).looped = d.looped := rfl
@[simp] theorem setPort_plan (d : Dev) (n : Nat) (x : Port) : (d.setPort n x).plan = d.plan := rfl
@[simp] theorem setPort_ser (d : Dev) (n : Nat) (x : Port) : (d.setPort n x).ser = d.ser := rfl
@[simp] theorem setPort_can (d : Dev) (n : Nat) (x : Port) : (d.setPort n x).can = d.can := rfl
@[simp] theorem setPort_bridge (d : Dev) (n : Nat) (x : Port) : (d.setPort n x).bridge = d.bridge := rfl
@[simp] theorem setPort_rings (d : Dev) (n : Nat) (x : Port) : (d.setPort n x).rings = d.rings := rfl
@[simp] theorem setPort_stuckAt (d : Dev) (n : Nat) (x : Port) : (d.setPort n x).stuckAt = d.stuckAt := rfl
@[simp] theorem setPort_stuckBits (d : Dev) (n : Nat) (x : Port) : (d.setPort n x).stuckBits = d.stuckBits := rfl
@[simp] theorem setPort_lanes (d : Dev) (n : Nat) (x : Port) : (d.setPort n x).lanes = d.lanes := rfl
@[simp] theorem setPort_laneQueue (d : Dev) (n : Nat) (x : Port) : (d.setPort n x).laneQueue = d.laneQueue := rfl
@[simp] theorem setPort_framesCut (d : Dev) (n : Nat) (x : Port) : (d.setPort n x).framesCut = d.framesCut := rfl
@[simp] theorem setPort_entered (d : Dev) (n : Nat) (x : Port) : (d.setPort n x).entered = d.entered := rfl
@[simp] theorem setPort_waitTag (d : Dev) (n : Nat) (x : Port) : (d.setPort n x).waitTag = d.waitTag := rfl
@[simp] theorem setPort_tagged (d : Dev) (n : Nat) (x : Port) : (d.setPort n x).tagged = d.tagged := rfl
@[simp] theorem setPort_sending (d : Dev) (n : Nat) (x : Port) : (d.setPort n x).sending = d.sending := rfl
@[simp] theorem setPort_previous (d : Dev) (n : Nat) (x : Port) : (d.setPort n x).previous = d.previous := rfl
@[simp] theorem setPort_older (d : Dev) (n : Nat) (x : Port) : (d.setPort n x).older = d.older := rfl
@[simp] theorem setPort_odOpen (d : Dev) (n : Nat) (x : Port) : (d.setPort n x).odOpen = d.odOpen := rfl
@[simp] theorem setPort_kept (d : Dev) (n : Nat) (x : Port) : (d.setPort n x).kept = d.kept := rfl

/-! ### `Dev.setRing` -/

@[simp] theorem setRing_now (d : Dev) (n : Nat) (x : Ring) : (d.setRing n x).now = d.now := rfl
@[simp] theorem setRing_out (d : Dev) (n : Nat) (x : Ring) : (d.setRing n x).out = d.out := rfl
@[simp] theorem setRing_od (d : Dev) (n : Nat) (x : Ring) : (d.setRing n x).od = d.od := rfl
@[simp] theorem setRing_pw (d : Dev) (n : Nat) (x : Ring) : (d.setRing n x).pw = d.pw := rfl
@[simp] theorem setRing_tap (d : Dev) (n : Nat) (x : Ring) : (d.setRing n x).tap = d.tap := rfl
@[simp] theorem setRing_clk (d : Dev) (n : Nat) (x : Ring) : (d.setRing n x).clk = d.clk := rfl
@[simp] theorem setRing_vault (d : Dev) (n : Nat) (x : Ring) : (d.setRing n x).vault = d.vault := rfl
@[simp] theorem setRing_ledger (d : Dev) (n : Nat) (x : Ring) : (d.setRing n x).ledger = d.ledger := rfl
@[simp] theorem setRing_log (d : Dev) (n : Nat) (x : Ring) : (d.setRing n x).log = d.log := rfl
@[simp] theorem setRing_loops (d : Dev) (n : Nat) (x : Ring) : (d.setRing n x).loops = d.loops := rfl
@[simp] theorem setRing_pitch (d : Dev) (n : Nat) (x : Ring) : (d.setRing n x).pitch = d.pitch := rfl
@[simp] theorem setRing_team (d : Dev) (n : Nat) (x : Ring) : (d.setRing n x).team = d.team := rfl
@[simp] theorem setRing_mirror (d : Dev) (n : Nat) (x : Ring) : (d.setRing n x).mirror = d.mirror := rfl
@[simp] theorem setRing_discrete (d : Dev) (n : Nat) (x : Ring) : (d.setRing n x).discrete = d.discrete := rfl
@[simp] theorem setRing_words (d : Dev) (n : Nat) (x : Ring) : (d.setRing n x).words = d.words := rfl
@[simp] theorem setRing_dom (d : Dev) (n : Nat) (x : Ring) : (d.setRing n x).dom = d.dom := rfl
@[simp] theorem setRing_blocks (d : Dev) (n : Nat) (x : Ring) : (d.setRing n x).blocks = d.blocks := rfl
@[simp] theorem setRing_rows (d : Dev) (n : Nat) (x : Ring) : (d.setRing n x).rows = d.rows := rfl
@[simp] theorem setRing_looped (d : Dev) (n : Nat) (x : Ring) : (d.setRing n x).looped = d.looped := rfl
@[simp] theorem setRing_plan (d : Dev) (n : Nat) (x : Ring) : (d.setRing n x).plan = d.plan := rfl
@[simp] theorem setRing_ports (d : Dev) (n : Nat) (x : Ring) : (d.setRing n x).ports = d.ports := rfl
@[simp] theorem setRing_ser (d : Dev) (n : Nat) (x : Ring) : (d.setRing n x).ser = d.ser := rfl
@[simp] theorem setRing_can (d : Dev) (n : Nat) (x : Ring) : (d.setRing n x).can = d.can := rfl
@[simp] theorem setRing_bridge (d : Dev) (n : Nat) (x : Ring) : (d.setRing n x).bridge = d.bridge := rfl
@[simp] theorem setRing_stuckAt (d : Dev) (n : Nat) (x : Ring) : (d.setRing n x).stuckAt = d.stuckAt := rfl
@[simp] theorem setRing_stuckBits (d : Dev) (n : Nat) (x : Ring) : (d.setRing n x).stuckBits = d.stuckBits := rfl
@[simp] theorem setRing_lanes (d : Dev) (n : Nat) (x : Ring) : (d.setRing n x).lanes = d.lanes := rfl
@[simp] theorem setRing_laneQueue (d : Dev) (n : Nat) (x : Ring) : (d.setRing n x).laneQueue = d.laneQueue := rfl
@[simp] theorem setRing_framesCut (d : Dev) (n : Nat) (x : Ring) : (d.setRing n x).framesCut = d.framesCut := rfl
@[simp] theorem setRing_entered (d : Dev) (n : Nat) (x : Ring) : (d.setRing n x).entered = d.entered := rfl
@[simp] theorem setRing_waitTag (d : Dev) (n : Nat) (x : Ring) : (d.setRing n x).waitTag = d.waitTag := rfl
@[simp] theorem setRing_tagged (d : Dev) (n : Nat) (x : Ring) : (d.setRing n x).tagged = d.tagged := rfl
@[simp] theorem setRing_sending (d : Dev) (n : Nat) (x : Ring) : (d.setRing n x).sending = d.sending := rfl
@[simp] theorem setRing_previous (d : Dev) (n : Nat) (x : Ring) : (d.setRing n x).previous = d.previous := rfl
@[simp] theorem setRing_older (d : Dev) (n : Nat) (x : Ring) : (d.setRing n x).older = d.older := rfl
@[simp] theorem setRing_odOpen (d : Dev) (n : Nat) (x : Ring) : (d.setRing n x).odOpen = d.odOpen := rfl
@[simp] theorem setRing_kept (d : Dev) (n : Nat) (x : Ring) : (d.setRing n x).kept = d.kept := rfl

/-! ### `Dev.setWords` -/

@[simp] theorem setWords_now (d : Dev) (tr : Transport) (x : WordPair) : (d.setWords tr x).now = d.now := rfl
@[simp] theorem setWords_out (d : Dev) (tr : Transport) (x : WordPair) : (d.setWords tr x).out = d.out := rfl
@[simp] theorem setWords_od (d : Dev) (tr : Transport) (x : WordPair) : (d.setWords tr x).od = d.od := rfl
@[simp] theorem setWords_pw (d : Dev) (tr : Transport) (x : WordPair) : (d.setWords tr x).pw = d.pw := rfl
@[simp] theorem setWords_tap (d : Dev) (tr : Transport) (x : WordPair) : (d.setWords tr x).tap = d.tap := rfl
@[simp] theorem setWords_clk (d : Dev) (tr : Transport) (x : WordPair) : (d.setWords tr x).clk = d.clk := rfl
@[simp] theorem setWords_vault (d : Dev) (tr : Transport) (x : WordPair) : (d.setWords tr x).vault = d.vault := rfl
@[simp] theorem setWords_ledger (d : Dev) (tr : Transport) (x : WordPair) : (d.setWords tr x).ledger = d.ledger := rfl
@[simp] theorem setWords_log (d : Dev) (tr : Transport) (x : WordPair) : (d.setWords tr x).log = d.log := rfl
@[simp] theorem setWords_loops (d : Dev) (tr : Transport) (x : WordPair) : (d.setWords tr x).loops = d.loops := rfl
@[simp] theorem setWords_pitch (d : Dev) (tr : Transport) (x : WordPair) : (d.setWords tr x).pitch = d.pitch := rfl
@[simp] theorem setWords_team (d : Dev) (tr : Transport) (x : WordPair) : (d.setWords tr x).team = d.team := rfl
@[simp] theorem setWords_mirror (d : Dev) (tr : Transport) (x : WordPair) : (d.setWords tr x).mirror = d.mirror := rfl
@[simp] theorem setWords_discrete (d : Dev) (tr : Transport) (x : WordPair) : (d.setWords tr x).discrete = d.discrete := rfl
@[simp] theorem setWords_dom (d : Dev) (tr : Transport) (x : WordPair) : (d.setWords tr x).dom = d.dom := rfl
@[simp] theorem setWords_blocks (d : Dev) (tr : Transport) (x : WordPair) : (d.setWords tr x).blocks = d.blocks := rfl
@[simp] theorem setWords_rows (d : Dev) (tr : Transport) (x : WordPair) : (d.setWords tr x).rows = d.rows := rfl
@[simp] theorem setWords_looped (d : Dev) (tr : Transport) (x : WordPair) : (d.setWords tr x).looped = d.looped := rfl
@[simp] theorem setWords_plan (d : Dev) (tr : Transport) (x : WordPair) : (d.setWords tr x).plan = d.plan := rfl
@[simp] theorem setWords_ports (d : Dev) (tr : Transport) (x : WordPair) : (d.setWords tr x).ports = d.ports := rfl
@[simp] theorem setWords_ser (d : Dev) (tr : Transport) (x : WordPair) : (d.setWords tr x).ser = d.ser := rfl
@[simp] theorem setWords_can (d : Dev) (tr : Transport) (x : WordPair) : (d.setWords tr x).can = d.can := rfl
@[simp] theorem setWords_bridge (d : Dev) (tr : Transport) (x : WordPair) : (d.setWords tr x).bridge = d.bridge := rfl
@[simp] theorem setWords_rings (d : Dev) (tr : Transport) (x : WordPair) : (d.setWords tr x).rings = d.rings := rfl
@[simp] theorem setWords_stuckAt (d : Dev) (tr : Transport) (x : WordPair) : (d.setWords tr x).stuckAt = d.stuckAt := rfl
@[simp] theorem setWords_stuckBits (d : Dev) (tr : Transport) (x : WordPair) : (d.setWords tr x).stuckBits = d.stuckBits := rfl
@[simp] theorem setWords_lanes (d : Dev) (tr : Transport) (x : WordPair) : (d.setWords tr x).lanes = d.lanes := rfl
@[simp] theorem setWords_laneQueue (d : Dev) (tr : Transport) (x : WordPair) : (d.setWords tr x).laneQueue = d.laneQueue := rfl
@[simp] theorem setWords_framesCut (d : Dev) (tr : Transport) (x : WordPair) : (d.setWords tr x).framesCut = d.framesCut := rfl
@[simp] theorem setWords_entered (d : Dev) (tr : Transport) (x : WordPair) : (d.setWords tr x).entered = d.entered := rfl
@[simp] theorem setWords_waitTag (d : Dev) (tr : Transport) (x : WordPair) : (d.setWords tr x).waitTag = d.waitTag := rfl
@[simp] theorem setWords_tagged (d : Dev) (tr : Transport) (x : WordPair) : (d.setWords tr x).tagged = d.tagged := rfl
@[simp] theorem setWords_sending (d : Dev) (tr : Transport) (x : WordPair) : (d.setWords tr x).sending = d.sending := rfl
@[simp] theorem setWords_previous (d : Dev) (tr : Transport) (x : WordPair) : (d.setWords tr x).previous = d.previous := rfl
@[simp] theorem setWords_older (d : Dev) (tr : Transport) (x : WordPair) : (d.setWords tr x).older = d.older := rfl
@[simp] theorem setWords_odOpen (d : Dev) (tr : Transport) (x : WordPair) : (d.setWords tr x).odOpen = d.odOpen := rfl
@[simp] theorem setWords_kept (d : Dev) (tr : Transport) (x : WordPair) : (d.setWords tr x).kept = d.kept := rfl

/-! ### `Dev.setPortal` -/

@[simp] theorem setPortal_now (d : Dev) (tr : Transport) (x : DomainPort) : (d.setPortal tr x).now = d.now := rfl
@[simp] theorem setPortal_out (d : Dev) (tr : Transport) (x : DomainPort) : (d.setPortal tr x).out = d.out := rfl
@[simp] theorem setPortal_od (d : Dev) (tr : Transport) (x : DomainPort) : (d.setPortal tr x).od = d.od := rfl
@[simp] theorem setPortal_pw (d : Dev) (tr : Transport) (x : DomainPort) : (d.setPortal tr x).pw = d.pw := rfl
@[simp] theorem setPortal_tap (d : Dev) (tr : Transport) (x : DomainPort) : (d.setPortal tr x).tap = d.tap := rfl
@[simp] theorem setPortal_clk (d : Dev) (tr : Transport) (x : DomainPort) : (d.setPortal tr x).clk = d.clk := rfl
@[simp] theorem setPortal_vault (d : Dev) (tr : Transport) (x : DomainPort) : (d.setPortal tr x).vault = d.vault := rfl
@[simp] theorem setPortal_ledger (d : Dev) (tr : Transport) (x : DomainPort) : (d.setPortal tr x).ledger = d.ledger := rfl
@[simp] theorem setPortal_log (d : Dev) (tr : Transport) (x : DomainPort) : (d.setPortal tr x).log = d.log := rfl
@[simp] theorem setPortal_loops (d : Dev) (tr : Transport) (x : DomainPort) : (d.setPortal tr x).loops = d.loops := rfl
@[simp] theorem setPortal_pitch (d : Dev) (tr : Transport) (x : DomainPort) : (d.setPortal tr x).pitch = d.pitch := rfl
@[simp] theorem setPortal_team (d : Dev) (tr : Transport) (x : DomainPort) : (d.setPortal tr x).team = d.team := rfl
@[simp] theorem setPortal_mirror (d : Dev) (tr : Transport) (x : DomainPort) : (d.setPortal tr x).mirror = d.mirror := rfl
@[simp] theorem setPortal_discrete (d : Dev) (tr : Transport) (x : DomainPort) : (d.setPortal tr x).discrete = d.discrete := rfl
@[simp] theorem setPortal_words (d : Dev) (tr : Transport) (x : DomainPort) : (d.setPortal tr x).words = d.words := rfl
@[simp] theorem setPortal_blocks (d : Dev) (tr : Transport) (x : DomainPort) : (d.setPortal tr x).blocks = d.blocks := rfl
@[simp] theorem setPortal_rows (d : Dev) (tr : Transport) (x : DomainPort) : (d.setPortal tr x).rows = d.rows := rfl
@[simp] theorem setPortal_looped (d : Dev) (tr : Transport) (x : DomainPort) : (d.setPortal tr x).looped = d.looped := rfl
@[simp] theorem setPortal_plan (d : Dev) (tr : Transport) (x : DomainPort) : (d.setPortal tr x).plan = d.plan := rfl
@[simp] theorem setPortal_ports (d : Dev) (tr : Transport) (x : DomainPort) : (d.setPortal tr x).ports = d.ports := rfl
@[simp] theorem setPortal_ser (d : Dev) (tr : Transport) (x : DomainPort) : (d.setPortal tr x).ser = d.ser := rfl
@[simp] theorem setPortal_can (d : Dev) (tr : Transport) (x : DomainPort) : (d.setPortal tr x).can = d.can := rfl
@[simp] theorem setPortal_bridge (d : Dev) (tr : Transport) (x : DomainPort) : (d.setPortal tr x).bridge = d.bridge := rfl
@[simp] theorem setPortal_rings (d : Dev) (tr : Transport) (x : DomainPort) : (d.setPortal tr x).rings = d.rings := rfl
@[simp] theorem setPortal_stuckAt (d : Dev) (tr : Transport) (x : DomainPort) : (d.setPortal tr x).stuckAt = d.stuckAt := rfl
@[simp] theorem setPortal_stuckBits (d : Dev) (tr : Transport) (x : DomainPort) : (d.setPortal tr x).stuckBits = d.stuckBits := rfl
@[simp] theorem setPortal_lanes (d : Dev) (tr : Transport) (x : DomainPort) : (d.setPortal tr x).lanes = d.lanes := rfl
@[simp] theorem setPortal_laneQueue (d : Dev) (tr : Transport) (x : DomainPort) : (d.setPortal tr x).laneQueue = d.laneQueue := rfl
@[simp] theorem setPortal_framesCut (d : Dev) (tr : Transport) (x : DomainPort) : (d.setPortal tr x).framesCut = d.framesCut := rfl
@[simp] theorem setPortal_entered (d : Dev) (tr : Transport) (x : DomainPort) : (d.setPortal tr x).entered = d.entered := rfl
@[simp] theorem setPortal_waitTag (d : Dev) (tr : Transport) (x : DomainPort) : (d.setPortal tr x).waitTag = d.waitTag := rfl
@[simp] theorem setPortal_tagged (d : Dev) (tr : Transport) (x : DomainPort) : (d.setPortal tr x).tagged = d.tagged := rfl
@[simp] theorem setPortal_sending (d : Dev) (tr : Transport) (x : DomainPort) : (d.setPortal tr x).sending = d.sending := rfl
@[simp] theorem setPortal_previous (d : Dev) (tr : Transport) (x : DomainPort) : (d.setPortal tr x).previous = d.previous := rfl
@[simp] theorem setPortal_older (d : Dev) (tr : Transport) (x : DomainPort) : (d.setPortal tr x).older = d.older := rfl
@[simp] theorem setPortal_odOpen (d : Dev) (tr : Transport) (x : DomainPort) : (d.setPortal tr x).odOpen = d.odOpen := rfl
@[simp] theorem setPortal_kept (d : Dev) (tr : Transport) (x : DomainPort) : (d.setPortal tr x).kept = d.kept := rfl

/-! ### `Dev.setBlock` -/

@[simp] theorem setBlock_now (d : Dev) (n : Tbl) (x : Block) : (d.setBlock n x).now = d.now := rfl
@[simp] theorem setBlock_out (d : Dev) (n : Tbl) (x : Block) : (d.setBlock n x).out = d.out := rfl
@[simp] theorem setBlock_od (d : Dev) (n : Tbl) (x : Block) : (d.setBlock n x).od = d.od := rfl
@[simp] theorem setBlock_pw (d : Dev) (n : Tbl) (x : Block) : (d.setBlock n x).pw = d.pw := rfl
@[simp] theorem setBlock_tap (d : Dev) (n : Tbl) (x : Block) : (d.setBlock n x).tap = d.tap := rfl
@[simp] theorem setBlock_clk (d : Dev) (n : Tbl) (x : Block) : (d.setBlock n x).clk = d.clk := rfl
@[simp] theorem setBlock_vault (d : Dev) (n : Tbl) (x : Block) : (d.setBlock n x).vault = d.vault := rfl
@[simp] theorem setBlock_ledger (d : Dev) (n : Tbl) (x : Block) : (d.setBlock n x).ledger = d.ledger := rfl
@[simp] theorem setBlock_log (d : Dev) (n : Tbl) (x : Block) : (d.setBlock n x).log = d.log := rfl
@[simp] theorem setBlock_loops (d : Dev) (n : Tbl) (x : Block) : (d.setBlock n x).loops = d.loops := rfl
@[simp] theorem setBlock_pitch (d : Dev) (n : Tbl) (x : Block) : (d.setBlock n x).pitch = d.pitch := rfl
@[simp] theorem setBlock_team (d : Dev) (n : Tbl) (x : Block) : (d.setBlock n x).team = d.team := rfl
@[simp] theorem setBlock_mirror (d : Dev) (n : Tbl) (x : Block) : (d.setBlock n x).mirror = d.mirror := rfl
@[simp] theorem setBlock_discrete (d : Dev) (n : Tbl) (x : Block) : (d.setBlock n x).discrete = d.discrete := rfl
@[simp] theorem setBlock_words (d : Dev) (n : Tbl) (x : Block) : (d.setBlock n x).words = d.words := rfl
@[simp] theorem setBlock_dom (d : Dev) (n : Tbl) (x : Block) : (d.setBlock n x).dom = d.dom := rfl
@[simp] theorem setBlock_rows (d : Dev) (n : Tbl) (x : Block) : (d.setBlock n x).rows = d.rows := rfl
@[simp] theorem setBlock_looped (d : Dev) (n : Tbl) (x : Block) : (d.setBlock n x).looped = d.looped := rfl
@[simp] theorem setBlock_plan (d : Dev) (n : Tbl) (x : Block) : (d.setBlock n x).plan = d.plan := rfl
@[simp] theorem setBlock_ports (d : Dev) (n : Tbl) (x : Block) : (d.setBlock n x).ports = d.ports := rfl
@[simp] theorem setBlock_ser (d : Dev) (n : Tbl) (x : Block) : (d.setBlock n x).ser = d.ser := rfl
@[simp] theorem setBlock_can (d : Dev) (n : Tbl) (x : Block) : (d.setBlock n x).can = d.can := rfl
@[simp] theorem setBlock_bridge (d : Dev) (n : Tbl) (x : Block) : (d.setBlock n x).bridge = d.bridge := rfl
@[simp] theorem setBlock_rings (d : Dev) (n : Tbl) (x : Block) : (d.setBlock n x).rings = d.rings := rfl
@[simp] theorem setBlock_stuckAt (d : Dev) (n : Tbl) (x : Block) : (d.setBlock n x).stuckAt = d.stuckAt := rfl
@[simp] theorem setBlock_stuckBits (d : Dev) (n : Tbl) (x : Block) : (d.setBlock n x).stuckBits = d.stuckBits := rfl
@[simp] theorem setBlock_lanes (d : Dev) (n : Tbl) (x : Block) : (d.setBlock n x).lanes = d.lanes := rfl
@[simp] theorem setBlock_laneQueue (d : Dev) (n : Tbl) (x : Block) : (d.setBlock n x).laneQueue = d.laneQueue := rfl
@[simp] theorem setBlock_framesCut (d : Dev) (n : Tbl) (x : Block) : (d.setBlock n x).framesCut = d.framesCut := rfl
@[simp] theorem setBlock_entered (d : Dev) (n : Tbl) (x : Block) : (d.setBlock n x).entered = d.entered := rfl
@[simp] theorem setBlock_waitTag (d : Dev) (n : Tbl) (x : Block) : (d.setBlock n x).waitTag = d.waitTag := rfl
@[simp] theorem setBlock_tagged (d : Dev) (n : Tbl) (x : Block) : (d.setBlock n x).tagged = d.tagged := rfl
@[simp] theorem setBlock_sending (d : Dev) (n : Tbl) (x : Block) : (d.setBlock n x).sending = d.sending := rfl
@[simp] theorem setBlock_previous (d : Dev) (n : Tbl) (x : Block) : (d.setBlock n x).previous = d.previous := rfl
@[simp] theorem setBlock_older (d : Dev) (n : Tbl) (x : Block) : (d.setBlock n x).older = d.older := rfl
@[simp] theorem setBlock_odOpen (d : Dev) (n : Tbl) (x : Block) : (d.setBlock n x).odOpen = d.odOpen := rfl
@[simp] theorem setBlock_kept (d : Dev) (n : Tbl) (x : Block) : (d.setBlock n x).kept = d.kept := rfl

/-! ### `Dev.setMailbox` -/

@[simp] theorem setMailbox_now (d : Dev) (x : Mailbox) : (d.setMailbox x).now = d.now := rfl
@[simp] theorem setMailbox_out (d : Dev) (x : Mailbox) : (d.setMailbox x).out = d.out := rfl
@[simp] theorem setMailbox_od (d : Dev) (x : Mailbox) : (d.setMailbox x).od = d.od := rfl
@[simp] theorem setMailbox_pw (d : Dev) (x : Mailbox) : (d.setMailbox x).pw = d.pw := rfl
@[simp] theorem setMailbox_tap (d : Dev) (x : Mailbox) : (d.setMailbox x).tap = d.tap := rfl
@[simp] theorem setMailbox_clk (d : Dev) (x : Mailbox) : (d.setMailbox x).clk = d.clk := rfl
@[simp] theorem setMailbox_vault (d : Dev) (x : Mailbox) : (d.setMailbox x).vault = d.vault := rfl
@[simp] theorem setMailbox_ledger (d : Dev) (x : Mailbox) : (d.setMailbox x).ledger = d.ledger := rfl
@[simp] theorem setMailbox_log (d : Dev) (x : Mailbox) : (d.setMailbox x).log = d.log := rfl
@[simp] theorem setMailbox_loops (d : Dev) (x : Mailbox) : (d.setMailbox x).loops = d.loops := rfl
@[simp] theorem setMailbox_pitch (d : Dev) (x : Mailbox) : (d.setMailbox x).pitch = d.pitch := rfl
@[simp] theorem setMailbox_team (d : Dev) (x : Mailbox) : (d.setMailbox x).team = d.team := rfl
@[simp] theorem setMailbox_mirror (d : Dev) (x : Mailbox) : (d.setMailbox x).mirror = d.mirror := rfl
@[simp] theorem setMailbox_discrete (d : Dev) (x : Mailbox) : (d.setMailbox x).discrete = d.discrete := rfl
@[simp] theorem setMailbox_words (d : Dev) (x : Mailbox) : (d.setMailbox x).words = d.words := rfl
@[simp] theorem setMailbox_dom (d : Dev) (x : Mailbox) : (d.setMailbox x).dom = d.dom := rfl
@[simp] theorem setMailbox_blocks (d : Dev) (x : Mailbox) : (d.setMailbox x).blocks = d.blocks := rfl
@[simp] theorem setMailbox_rows (d : Dev) (x : Mailbox) : (d.setMailbox x).rows = d.rows := rfl
@[simp] theorem setMailbox_looped (d : Dev) (x : Mailbox) : (d.setMailbox x).looped = d.looped := rfl
@[simp] theorem setMailbox_plan (d : Dev) (x : Mailbox) : (d.setMailbox x).plan = d.plan := rfl
@[simp] theorem setMailbox_ports (d : Dev) (x : Mailbox) : (d.setMailbox x).ports = d.ports := rfl
@[simp] theorem setMailbox_ser (d : Dev) (x : Mailbox) : (d.setMailbox x).ser = d.ser := rfl
@[simp] theorem setMailbox_can (d : Dev) (x : Mailbox) : (d.setMailbox x).can = d.can := rfl
@[simp] theorem setMailbox_rings (d : Dev) (x : Mailbox) : (d.setMailbox x).rings = d.rings := rfl
@[simp] theorem setMailbox_stuckAt (d : Dev) (x : Mailbox) : (d.setMailbox x).stuckAt = d.stuckAt := rfl
@[simp] theorem setMailbox_stuckBits (d : Dev) (x : Mailbox) : (d.setMailbox x).stuckBits = d.stuckBits := rfl
@[simp] theorem setMailbox_lanes (d : Dev) (x : Mailbox) : (d.setMailbox x).lanes = d.lanes := rfl
@[simp] theorem setMailbox_laneQueue (d : Dev) (x : Mailbox) : (d.setMailbox x).laneQueue = d.laneQueue := rfl
@[simp] theorem setMailbox_framesCut (d : Dev) (x : Mailbox) : (d.setMailbox x).framesCut = d.framesCut := rfl
@[simp] theorem setMailbox_entered (d : Dev) (x : Mailbox) : (d.setMailbox x).entered = d.entered := rfl
@[simp] theorem setMailbox_waitTag (d : Dev) (x : Mailbox) : (d.setMailbox x).waitTag = d.waitTag := rfl
@[simp] theorem setMailbox_tagged (d : Dev) (x : Mailbox) : (d.setMailbox x).tagged = d.tagged := rfl
@[simp] theorem setMailbox_sending (d : Dev) (x : Mailbox) : (d.setMailbox x).sending = d.sending := rfl
@[simp] theorem setMailbox_previous (d : Dev) (x : Mailbox) : (d.setMailbox x).previous = d.previous := rfl
@[simp] theorem setMailbox_older (d : Dev) (x : Mailbox) : (d.setMailbox x).older = d.older := rfl
@[simp] theorem setMailbox_odOpen (d : Dev) (x : Mailbox) : (d.setMailbox x).odOpen = d.odOpen := rfl
@[simp] theorem setMailbox_kept (d : Dev) (x : Mailbox) : (d.setMailbox x).kept = d.kept := rfl

end Sys2Proof.Laws
end

