-- ==== Sys2Proof/Laws/Words.lean ====
section
/-! SUPPORT. Bytes in big-endian order: what `be` writes, `ofBe` and `beAt` read. -/

namespace Sys2Proof.Laws

open Sys2Proof

/-- `be` writes as many bytes as it is told. -/
@[simp] theorem be_length (n v : Nat) : (be n v).length = n := by
  induction n generalizing v with
  | zero => rfl
  | succ n ih => simp [be, ih]

/-- Reading bytes onto a value already read. -/
theorem ofBe_foldl (ys : List Byte) (a : Nat) :
    ys.foldl (fun a b => a * 256 + b.toNat) a = a * 256 ^ ys.length + ofBe ys := by
  induction ys generalizing a with
  | nil => simp [ofBe]
  | cons y ys ih =>
    have h : ofBe (y :: ys) = (0 * 256 + y.toNat) * 256 ^ ys.length + ofBe ys := ih _
    rw [List.foldl_cons, ih, h, List.length_cons, Nat.pow_succ', Nat.add_mul, Nat.add_mul]
    simp [Nat.mul_assoc, Nat.add_assoc]

/-- Bytes read in two parts. -/
theorem ofBe_append (xs ys : List Byte) : ofBe (xs ++ ys) = ofBe xs * 256 ^ ys.length + ofBe ys := by
  rw [ofBe, List.foldl_append, ofBe_foldl]
  rfl

/-- `be` and `ofBe` agree on what the bytes hold. -/
theorem ofBe_be (n v : Nat) : ofBe (be n v) = v % 256 ^ n := by
  induction n generalizing v with
  | zero => simp [be, ofBe, Nat.mod_one]
  | succ n ih =>
    have h : be (n + 1) v = [BitVec.ofNat 8 (v / 256 ^ n)] ++ be n v := rfl
    have h1 : ofBe [BitVec.ofNat 8 (v / 256 ^ n)] = v / 256 ^ n % 256 := Nat.zero_add _
    rw [h, ofBe_append, ih, be_length, h1, Nat.pow_succ, Nat.mod_mul, Nat.mul_comm, Nat.add_comm]

/-- A field that `be` wrote, read back behind any bytes and before any. -/
theorem beAt_append (xs ys : List Byte) (n v off : Nat) (h : xs.length = off) :
    beAt (xs ++ (be n v ++ ys)) off n = v % 256 ^ n := by
  subst h
  simp [beAt, slice, be_length, ofBe_be]

/-- Bytes read back behind any bytes and before any. -/
theorem slice_append (xs ys zs : List Byte) (off n : Nat) (h : xs.length = off) (hn : ys.length = n) :
    slice (xs ++ (ys ++ zs)) off n = ys := by
  subst h; subst hn
  simp [slice]

end Sys2Proof.Laws
end

