-- ==== Sys2Proof/Machine/Pins.lean ====
section
/-! DEFINITION. Levels of the output pins as they follow from the state (R190, R199, R277, R283, R295, R331, R346,
R350, R352); PITCH_OUT stands in Machine/Pitch.lean. -/

namespace Sys2Proof.Machine

/-- What an output pin shows: high-impedance, low or high (R352). -/
inductive Level where
  | released | low | high
  deriving DecidableEq, Repr

/-- A driven level. -/
def Level.driven (b : Bool) : Level := if b then .high else .low

/-- An open-drain output, asserted by pulling low. -/
def Level.openDrain (asserted : Bool) : Level := if asserted then .low else .released

/-- Without supply, or in reset: the first two columns of the table of R352. -/
def Dev.inResetPins (d : Dev) : Bool := d.pw.noKa || d.pw.porst || d.pw.brown || d.pw.st == .off

/-- One of the columns of R352 stands, and not normal operation. -/
def Dev.cannotAct (d : Dev) : Bool :=
  d.inResetPins || d.pw.st == .hold || d.pw.st == .bivouac || d.pw.st == .shelter

/-- The outputs that R190 drives are released in every column of R352 and in roles NONE and HOLD. -/
def Dev.rolePins (d : Dev) : Bool := !d.cannotAct && !(d.team.role == .none || d.team.role == .hold)

/-- A driven output of R190. -/
def Dev.roleLevel (d : Dev) (b : Bool) : Level := if d.rolePins then .driven b else .released

/-- INT_N: low while an enabled cause is set (R331). -/
def Dev.intN (d : Dev) : Level := .openDrain (!d.cannotAct && d.get 0x2720 0x01 &&& d.get 0x2720 0x02 ≠ 0)

/-- ALIVE_OUT, SER_OWN and CLAIM_OUT_N (R186, R190, R419). -/
def Dev.aliveOutPin (d : Dev) : Level := d.roleLevel d.team.aliveOut
def Dev.serOwnPin (d : Dev) : Level := d.roleLevel d.team.serOwn
def Dev.claimOutN (d : Dev) : Level := .openDrain (d.rolePins && d.team.claimOut)

/-- D_SET (true) and D_CLR of a discrete output: high for the width of a pulse (R199). -/
def Dev.discretePin (d : Dev) (n : Nat) (set : Bool) : Level :=
  d.roleLevel (match (d.disc n).pulse with | some (v, _) => v == set | none => false)

/-- DE and RTS_N of a serial channel (R277, R283): RTS_N is asserted low. -/
def Dev.serDePin (d : Dev) (n : Nat) : Level := d.roleLevel ((d.serCh n).de && d.serDeEn n)
def Dev.serRtsN (d : Dev) (n : Nat) : Level := if d.cannotAct then .released else .driven (!d.serRts n)

/-- C_STB_N: high while the transceiver is normal; low, released and held by the board, otherwise (R295, R307, R309). -/
def Dev.canStbN (d : Dev) (n : Nat) : Level := if d.rolePins && d.stbN n then .high else .released

/-- WAKE_OUT: released while PORST_N is low; low in reset and in HOLD; high from a wake event to SERVICE (R346, R352). -/
def Dev.wakeOutPin (d : Dev) : Level :=
  if d.pw.noKa || d.pw.porst then .released else .driven (d.pw.wakeOut && !d.inResetPins && d.pw.st != .hold)

/-- THERM_N (R350). -/
def Dev.thermN (d : Dev) : Level := .openDrain (!d.pw.noKa && d.pw.therm)

/-- MESH_OUT carries its pattern in every state with supply, except while PORST_N is low (R352, R426). -/
def Dev.meshDriven (d : Dev) : Bool := !d.pw.noKa && !d.pw.porst

end Sys2Proof.Machine
end

