-- ==== Sys2Proof/WellFormed.lean ====
section
/-! DEFINITION. Which terms of `Instr` are commands: operands within the ranges that their rules give. -/

namespace Sys2Proof

/-- A data length that an entry can have (R23). -/
def sizeOk (size : Option Nat) : Bool := match size with | none => true | some n => n = 1 || n = 2 || n = 4 || n = 8

/-- A rope frame: a 48-bit address and at most 1,514 bytes (R182, R247). -/
def RopeFrame.wf (f : RopeFrame) : Bool := decide (f.dst < 2 ^ 48) && decide (8 ≤ f.bytes.length) && decide (f.bytes.length ≤ 1514)

/-- Data lengths of a CAN FD frame above 8 bytes (ISO 11898-1). -/
def fdLength (n : Nat) : Bool := [12, 16, 20, 24, 32, 48, 64].contains n

/-- A CAN frame: the identifier fits its format, remote frames and classic frames carry what they may (R115, R300). -/
def CanFrame.wf (f : CanFrame) : Bool :=
  decide (f.ident < (if f.ide then 2 ^ 29 else 2 ^ 11))
    && (if f.fdf then !f.rtr && (decide (f.data.length ≤ 8) || fdLength f.data.length)
        else decide (f.data.length ≤ 8) && !f.brs && !f.esi && (!f.rtr || f.data.isEmpty))

/-- An announced pitch: a 64-bit stamp, a 32-bit period other than 0, a source-quality code (R148, R183). -/
def Announced.wf (a : Announced) : Bool :=
  decide (a.stamp < 2 ^ 64) && decide (0 < a.period) && decide (a.period < 2 ^ 32) && decide (a.quality < 4)

/-- What a boot finds: announcements that can have been made. -/
def BootEnv.wf (e : BootEnv) : Bool := (e.hello.map Announced.wf).getD true && (e.beacon.map Announced.wf).getD true

/-- The outside of a write. -/
def Outside.wf (x : Outside) : Bool := x.boot.wf && decide (x.alarming < 2 ^ 8)

/-- An OD-access request: fields of the widths of R261 and at most 1,024 data bytes. -/
def OdRequest.wf (q : OdRequest) : Bool :=
  decide (q.srcMac < 2 ^ 48) && decide (q.srcIp < 2 ^ 32) && decide (q.srcPort < 2 ^ 16) && decide (q.id < 2 ^ 32)
    && decide (q.node < 2 ^ 16) && decide (q.idx < 2 ^ 16) && decide (q.sub < 2 ^ 8) && decide (q.len ≤ 1024)
    && decide (q.offset < 2 ^ 32) && decide (q.data.length ≤ q.len)

/-- Beats of an HLB write: 32 bits and four byte enables each, at least one (R315). -/
def beatsOk (bs : List (Nat × Nat)) : Bool := !bs.isEmpty && bs.all (fun b => decide (b.1 < 2 ^ 32) && decide (b.2 < 16))

/-- The beats of an HLB access. -/
def Beats.wf : Beats → Bool
  | .read n => decide (0 < n)
  | .write bs => beatsOk bs

/-- An answer of a remote node: 64-bit values, a 32-bit abort code. -/
def Remote.wf : Remote → Bool
  | .ok v n => decide (v < 2 ^ 64) && (n.map (fun x => decide (x < 2 ^ 64))).getD true
  | .abort c => decide (c < 2 ^ 32)

/-- A transmit descriptor: a 64-bit stamp, 8-bit channel and run kind (R330). -/
def TxDesc.wf (x : TxDesc) : Bool :=
  (x.stamp.map (fun s => decide (s < 2 ^ 64))).getD true
    && (x.tunnel.map (fun p => decide (p.1 < 2 ^ 8) && decide (p.2 < 2 ^ 8))).getD true && decide (x.data.length < 2 ^ 16)

/-- A transport with 64-bit slots read and written by halves (R28). -/
def Transport.halves (tr : Transport) : Bool := tr == .hlb || tr == .pcie

/-- A junction temperature that the monitor can report: a signed 16-bit value (R350). -/
def tjOk (tj : Int) : Bool := decide (-(2 ^ 15) ≤ tj) && decide (tj < 2 ^ 15)

/-- The term is a command. -/
def Instr.wf (i : Instr) : Bool :=
  match i with
  | .odWrite _ _ _ _ size _ x => sizeOk size && x.wf
  | .heldLowWordDiscard _ tr => tr.halves
  | .lowWordReadSnapshot _ tr _ _ => tr.halves
  | .sdoExpeditedDownload _ _ _ _ size _ x => (match size with | none => true | some n => decide (1 ≤ n) && decide (n ≤ 4)) && x.wf
  | .sdoSegmentedDownloadInitiate _ _ _ _ size => (match size with | none => true | some n => decide (n < 2 ^ 32))
  | .sdoDownloadSegment _ _ _ _ data x => decide (data.length ≤ 7) && x.wf
  | .rebootFromRack _ _ e | .porstNRelease _ e | .sysrstNLow _ e | .vddKaRestore _ e | .brownOutRecovery _ e => e.wf
  | .transitionComplete _ _ salt e => decide (salt < 2 ^ 256) && e.wf
  | .wakeCommand _ code e => decide (code.val < 2) && e.wf
  | .bootThermalHoldEnd _ tj e => tjOk tj && e.wf
  | .alertClear _ code => decide (code < 2 ^ 16)
  | .itemStagesComplete _ tag => decide (tag < 1024)
  | .orderRelease _ tag _ => decide (tag < 1024)
  | .groupDeadlineExpiry _ src => decide (src < 2 ^ 8)
  | .handover _ cts => decide (cts < 2 ^ 192)
  | .beaconReceived t _ payload sfd => decide (payload.length ≤ 1472) && decide (sfd ≤ t)
  | .gateOpen _ _ entry | .gateClose _ _ entry => decide (entry < 256)
  | .helloReceived _ f | .heartbeatReceived _ f | .modeRelayReceived _ f | .modeAckReceived _ f | .admitReceived _ f
  | .ackReceived _ f | .cairnReceived _ f | .mirrorDeltaReceived _ f | .deltaAckReceived _ f | .auditFrameReceived _ f
  | .segmentRequestReceived _ f | .darnBeginReceived _ f | .darningSegmentReceived _ f | .segmentAckReceived _ f
  | .darnEndReceived _ f | .relayedItemReceived _ f | .patternFrameReceived _ f => f.wf
  | .aliveLost t edge => decide (edge ≤ t)
  | .backboneFrameReceived t _ bytes sfd _ x => decide (14 ≤ bytes.length) && decide (sfd ≤ t) && x.wf
  | .linkUp _ _ status => decide (status < 64)
  | .whistleFrame t _ bytes sfd _ => decide (14 ≤ bytes.length) && decide (sfd ≤ t)
  | .odAccessRead _ q | .odAccessDomainRead _ q | .odAccessDomainWrite _ q | .odAccessDomainCommit _ q
  | .odAccessDomainAbort _ q => q.wf
  | .odAccessWrite _ q x => q.wf && x.wf
  | .odAccessUnknownType _ q type => q.wf && !(decide (1 ≤ type.toNat) && decide (type.toNat ≤ 6))
  | .serialCharDecided t _ _ edge | .lineStuckEntry t _ edge | .lineStuckExit t _ edge | .canStuckDominant t _ edge
  | .canStuckClear t _ edge => decide (edge ≤ t)
  | .canFrameReceived t _ f m => f.wf && decide (m.sof ≤ t) && m.outside.wf
  | .hlbLocalAccess _ _ beats x => beats.wf && x.wf
  | .hlbRemoteRead _ _ beats _ => decide (0 < beats)
  | .hlbRemoteWrite _ _ beats _ => beatsOk beats
  | .remoteFetchComplete _ _ r | .postedWriteComplete _ _ r | .mailboxComplete _ r => r.wf
  | .pcieBar0Access _ _ bytes _ x => decide (0 < bytes) && decide (bytes ≤ 8) && x.wf
  | .ringProducerWrite _ _ _ sizes => sizes.all (fun n => decide (n < 2 ^ 16))
  | .hostTxDescriptorFetch _ _ desc => desc.wf
  | .ringBaseSizeWrite _ _ offset _ => offset.val = 0 || offset.val = 4 || offset.val = 8
  | .lowPowerEntry t done => decide (t ≤ done)
  | .thermAssert _ tj | .thermRelease _ tj | .thermalTrip _ tj | .temperatureSample _ tj => tjOk tj
  | .brownOut _ rails trip => decide (0 < rails) && decide (rails < 8) && (trip.map tjOk).getD true
  | .pllLockLoss _ mask | .pllLockRegain _ mask => decide (0 < mask) && decide (mask < 32)
  | .tamperLatchClear _ _ _ alarming => decide (alarming < 2 ^ 8)
  | .snapshotComplete _ fault => (fault.map (fun a => decide (a < 2 ^ 20))).getD true
  | .scrubPass _ _ bad => bad.all (fun b => decide (b.1 < 2 ^ 32))
  | .domainTargetWrite _ _ _ | .domainDataWrite _ _ _ | .domainDataRead _ _ | .domainCommit _ _ | .domainDiscard _ _
  | .domainPortTimeout _ _ | .accessBlockClaim _ _ _ | .accessBlockRelease _ _ _ | .accessBlockOwnerTimeout _ _
  | .tableReadRow _ _ _ | .tableStageRow _ _ _ | .tableStageEmpty _ _ _ | .sdoExpeditedUpload _ _ _ _
  | .sdoSegmentedUploadInitiate _ _ _ _ | .sdoUploadSegment _ _ _ | .sdoBlockTransferRequest _ _ _ _
  | .sdoUnknownCommand _ _ _ _ | .sdoSegmentTimeout _ | .enterConfig _ _ | .configEntry _ | .leaveConfig _ _
  | .serviceResume _ | .rackProgramComplete _ _ | .joinWindowExpiry _ | .parseLaneDone _ _ | .tagIssue _
  | .learnSelect _ _ _ | .learnClear _ _ | .commitTargetWrite _ _ _ | .stagedListDiscard _ _ => true
  | .pitchBoundary _ | .legBoundary _ | .hemStart _ | .pulseEdge _ _ | .quadCountEdge _ _ | .quadIndex _
  | .sourceQualified _ _ | .sourceDeadline _ | .holdoverCountReached _ | .slipPitchEnd _ | .slipWindowClose _
  | .masterBeaconDue _ | .portFrameEnd _ _ | .pauseFrameReceived _ _ _ | .pauseExpiry _ _ | .pauseCeilingReached _ _
  | .helloTimer _ | .heartbeatTimer _ | .ropePresent _ | .ropeLost _ _ | .alivePresent _ | .claimReleased _
  | .claimAsserted _ | .backboneHeartbeatLost _ | .claimSample _ _ | .joinRetry _ | .progressLost _
  | .discreteStateWrite _ _ _ _ | .discretePulseEnd _ _ | .heldPulseStart _ _ | .teamModeChangeRequest _ _ _
  | .domainModeChangeRequest _ _ _ | .admitSendTimer _ | .admitAckTimeout _ | .recordPendingExpiry _ | .orphanJudge _
  | .cairnMissing _ | .deltaAckTimeout _ | .darningCompletionTimeout _ | .patternFrameTimer _ | .linkDown _ _
  | .stampPop _ _ _ | .odAccessDomainTimeout _ => true
  | .baudWrite _ _ _ _ _ | .rxStatusRead _ _ _ | .rxDataRead _ _ _ | .txDataWrite _ _ _ _ _ | .serialCharSent _ _ _
  | .serialCollision _ _ | .collisionRetryTimer _ _ _ | .serialStartEdgeWake _ _ | .serialHeaderWake _ _
  | .serialAddressWake _ _ | .wakeBufferHandover _ _ | .canFrameSent _ _ | .canError _ _ _ _ | .txDominantTimeout _ _
  | .recoveryRequest _ _ _ | .busOffRecoveryComplete _ _ | .armSleep _ _ _ | .disarmSleep _ _ _ | .wakeRequest _ _ _
  | .sleepAgreement _ _ | .reportTimerExpiry _ _ | .commitDelayExpiry _ _ | .rewakeWindowEnd _ _
  | .committedBusWake _ _ | .canWakeInput _ _ | .tValidExpiry _ _ | .delayedWriteComplete _ _
  | .delayedWriteSlotExpiry _ _ | .delayedReadAbandon _ _ | .postedWriteLogPop _ _ | .lockSequenceEnd _ | .lockTimeout _
  | .mailboxRead _ _ _ | .mailboxWrite _ _ _ _ | .ringEnable _ _ _ | .ringDisable _ _ _ | .msixHoldoffExpiry _ _
  | .tunnelIdleGap _ _ => true
  | .powerRequestRun _ _ | .powerRequestTrim _ _ | .powerRequestBivouac _ _ | .powerRequestShelter _ _
  | .pwrReqPinRequest _ _ | .pinShelter _ | .porstNLow _ | .pcieDomainReset _ | .hlbClockLoss _ | .lanePcsLockLoss _ _ _
  | .domainResetRelease _ _ | .kaClockLoss _ _ | .rcTrim _ _ | .rtcStopDetect _ | .keyImportComplete _ | .slotErase _ _ _
  | .challengeStart _ _ | .challengeComplete _ | .tamperAlarm _ _ _ _ | .ledgerIntervalClose _ | .ledgerRecordSigned _
  | .snapshotIntervalExpiry _ | .snapshotRequest _ _ | .histogramSelect _ _ _ | .exportSnapshot _ _ | .tapReset _
  | .bypass _ | .idcode _ | .samplePreload _ _ _ | .extest _ _ | .clamp _ | .highz _ | .extestPulse _ _
  | .extestTrain _ _ | .aliveOutToggle _ | .ctsAsserted _ _ | .deRelease _ _ | .remoteRequestTimeout _ _
  | .msixVectorUnmask _ _ | .rtcRestart _ | .vddKaLoss _ | .dwellSecond _ _ _ | .canBusIntegration _ _
  | .pitchOutEdge _ _ | .darningSegmentSend _ | .lastDiscardRead _ _ => true

end Sys2Proof
end

