-- ==== Sys2Proof/Tests/Slice0.lean ====
section
/-! SUPPORT. The author's tests: for every statement, states and operands that meet its hypotheses; ill-formed terms that
WellFormed refuses; single steps checked against the rules. -/

namespace Sys2Proof.Tests

open Sys2Proof Sys2Proof.Machine Sys2Proof.Safety Sys2Proof.Laws

set_option Elab.async false

/-! ### Small states -/

/-- A block in SERVICE, alone. -/
def svc : Dev := { pw := { st := .service, porst := false }, team := { role := .solo }, pitch := { st := .locked } }
/-- The same block in CONFIG. -/
def cfg : Dev := { svc with pw := { svc.pw with st := .config } }
/-- The state of a block with no command waiting. -/
def at0 (d : Dev) : State := { State.reset with dev := d }
/-- A unit of pair 5 at position A with its rope up. -/
def mate (r : Role) : Dev :=
  { svc.put 0x2000 4 0x800A with team := { role := r, rope := true, ropeLink := true, alive := true, partnerB := some true } }
/-- A rope frame of the partner. -/
def rope (ty : Nat) (body : List Byte) : RopeFrame := { dst := ropeMac false, bytes := be 1 1 ++ be 1 ty ++ be 2 0x8005 ++ be 4 1 ++ body }
/-- An OD-access request. -/
def odq : OdRequest := ⟨0, 0, 0x0A000001, 4000, 7, 0, 0x2000, 1, 1, 0, []⟩

/-- A unit whose SDO server runs on CAN channel 0. -/
def sdoUnit : Dev := (svc.put 0x2000 8 0).put 0x3100 1 2
/-- A rack copy under way. -/
def prog : Programming := { copyB := true, bytes := [1] }

/-- A configuration that validates: the three internal streams have their rows. -/
def built : Dev :=
  let r (i : Nat) : List Word32 := [BitVec.ofNat 32 i, 0xA0000000] ++ List.replicate 14 0
  ((({ cfg with noRack := false } : Dev).setRow .stream 262141 (r 0)).setRow .stream 262142 (r 1)).setRow .stream 262143
      (r 2)

/-- A pair is its two parts. -/
theorem paired {α β : Type} (p : α × β) : p = (p.1, p.2) := rfl
/-- An access is the one written out when its three parts are. -/
theorem written {w : Written} {e : Dev} {a : Option Abort} {n : Option Nat} (h1 : w.dev = e) (h2 : w.abort = a)
    (h3 : w.waits = n) : w = ⟨e, a, n⟩ := by
  cases w
  simp_all

/-- An item of the stream with key 0x60000000_00000005, its row, and the item tagged. -/
def item : Item :=
  { src := 0, kind := 3, form := .sentence, parts := [{ bytes := [0x24, 0x0A], digest := 0 }], stamp := 0, origin := 0, tLast := 0, sel := 5 }
def streamRow : List Word32 := [5, 0x60000000] ++ List.replicate 14 0
def withStream : Dev := svc.setRow .stream 7 streamRow
def tagged : Tagged :=
  { tag := 0, shared := false, item := item, stream := 7, row := streamRow, set := 0, probes := [], alts := [], issued := 0 }
def group : GroupCtx :=
  { src := 0, key := [1], total := 2, parts := [], data := [], need := 0, deadline := 0, opened := 0, first := tagged }
def planItem : PlanItem :=
  { leg := 0, index := 0, item := item, stream := 7, seq := 0, cls := 0, defer := 0, eset := 0, held := false, hand := 1, chars := [] }

/-- A schedule with one gate on port 0, and that gate. -/
def gated : Dev := svc.setRow .gate 1 ([0x80000001, 0, 0, 1000] ++ List.replicate 12 0)
def gateNow : Gate := ⟨1, 1, 0, 1000⟩
/-- A block in BIVOUAC whose port 0 waits for a frame of zeros. -/
def whistler : Dev :=
  { svc.put 0x3200 0x10 1 with
    pw := { svc.pw with st := .bivouac, armed := true }
    domains := [(odKey 0x3200 0x11, List.replicate 128 0 ++ [0xFF])] }

/-- A unit with OD-access peer 0 of every right, whose request `odq` it serves on port 0. -/
def peerUnit : Dev :=
  let d : Dev := { svc with noRack := false, ports := [(0, { linkUp := true })] }
  (d.put 0x1C02 1 0x0A00000120000003).put 0x2000 0x10 31
/-- A SENTENCE serial channel, a tunnel channel on serial channel 0, a CAN channel on its bus. -/
def serUnit : Dev := svc.put 0x3000 1 1
def tunnelRow : List Word32 := [0xC0000000, 0] ++ List.replicate 14 0
def tunnelUnit : Dev := svc.setRow .tunnel 0 tunnelRow
def canUnit : Dev := { svc.put 0x3100 1 2 with can := [(0, { sync := true })] }

/-- A block with a bridge window on node 0, and a data item for the host rings. -/
def winUnit : Dev := svc.put 0x2701 1 1
def sent : List Byte := [0x24, 0x47, 0x50, 0x47, 0x47, 0x41, 0x2A, 0x35, 0x36, 0x0D, 0x0A]
def hostUnit : Dev := svc.setRing 32 { enable := true, producer := 1 }
def lastRead (es : List PEvent) : Context :=
  match es.getLast? with
  | some (.sentence y) => y
  | _ => {}

/-- A block whose slots 0 and 1 hold a challenge key and a signing key. -/
def keyUnit : Dev :=
  let key : KeyCopy := { key := List.replicate 32 7, mask := 63, bind := 0, carry := false, len := 0, version := 0, tagOk := true }
  let d : Dev := { svc with vault := { svc.vault with st := 1 }, domains := [(odKey 0x2830 1, List.replicate 16 0)] }
  d.setKeySlot 0 { a := some key, b := none, status := 1 }
def ledUnit : Dev := { keyUnit.put 0x2910 6 1 with ledger := { keyUnit.ledger with pending := [0] } }
def trans : Transition := { target := .owned, verify := [], carry := false }

/-- A unit with a receiver window on stream row 7 at sequence 5 of generation 1. -/
def window : TwinWindow := { stream := 7, gen := 1, seq := 5, last := 0 }
def windowed : Dev := { withStream with twins := [window] }
/-- Serial channel 0 in RAW mode with RTS_HI 4 and RTS_LO 2, and n characters in its receive FIFO. -/
def rawUnit (n : Nat) : Dev :=
  { (svc.put 0x3000 1 2).put 0x3000 4 0x04020004 with ser := [(0, { rx := List.replicate n (.plain 0x41) })] }

/-- A CAN frame without data, and a channel in BIVOUAC that wakes the unit. -/
def canFrame : CanFrame := ⟨1, false, false, false, false, false, []⟩
def wakeUnit (wake : Nat) : Dev :=
  { (svc.put 0x3000 1 1).put 0x3000 7 wake with
    pw := { svc.pw with st := .bivouac, armed := true }
    ser := if wake = 1 then [] else [(0, { ka := true })] }
/-- What the first descriptor of `hostUnit` holds. -/
def hostRead : List PEvent :=
  ((hostEvents (hostUnit.options 212) hostUnit.stamp hostUnit.quality sent).getD [])
/-- A record that waits for its ADMIT frame. -/
def waitRec : WaitRec :=
  { leg := 0, index := 0, since := 0, adm := { mark := 0, gsid := 1, seq := 1, stamp := 1, digest := 1 } }
/-- Samples of a line on which 0x41 comes by the default Format: start, eight data bits from bit 0 on, stop; and of a line that
is low for half a bit only. -/
def samplesA : List Bool :=
  true :: ([false, true, false, false, false, false, false, true, false, true].map (List.replicate 16)).flatten
def spike : List Bool := true :: (List.replicate 6 false ++ List.replicate 10 true)

/-! ### What meets the hypotheses of the statements -/

/-- The hypotheses of `Obligations.IdleAndWords` are met, clause by clause. -/
theorem wit_IdleAndWords :
    ∃ s : State, s.pending = [] :=
  ⟨State.reset, rfl⟩

/-- The hypotheses of `Obligations.EveryCommandCompletes` are met, clause by clause. -/
theorem wit_EveryCommandCompletes :
    ∃ (c : Instr) (s : State), (∀ t f x e, c ≠ .transitionComplete t f x e) ∧ s.pending = [] :=
  ⟨.tapReset 0, State.reset, fun _ _ _ _ h => (nomatch h), rfl⟩

/-- The hypotheses of `Obligations.LifeOnlyForward` are met, clause by clause. -/
theorem wit_LifeOnlyForward :
    ∃ s u : State, step s = .next u ∧ u.otp.spare < s.otp.spare :=
  ⟨{ at0 { svc with vault := { svc.vault with transition := some trans } } with pending := [.transitionComplete 0 true 0 .quiet] },
      _, rfl, by decide +kernel⟩

/-- The hypotheses of `Obligations.FusesStayLegal` are met, clause by clause. -/
theorem wit_FusesStayLegal :
    ∃ s u : State, FusesLegal s ∧ step s = .next u ∧ u.otp.spare < s.otp.spare :=
  ⟨{ at0 { svc with vault := { svc.vault with transition := some trans } } with pending := [.transitionComplete 0 true 0 .quiet] },
      _, ⟨by decide, by decide⟩, rfl, by decide +kernel⟩

/-- The hypotheses of `Obligations.CoreOffFreezes` are met, clause by clause. -/
theorem wit_CoreOffFreezes :
    ∃ (c : Instr) (s : State), s.dev.coreOn = false ∧ reachesOff c = false :=
  ⟨.alertClear 0 0xA600, State.reset, rfl, rfl⟩

/-- The hypotheses of `Obligations.NothingFollowsInCalm` are met, clause by clause. -/
theorem wit_NothingFollowsInCalm :
    ∃ old d : Dev, Calm d ∧ old.pitch.quality = d.pitch.quality :=
  ⟨svc, svc, ⟨by decide, rfl, rfl, by decide⟩, rfl⟩

/-- The hypotheses of `Obligations.RejectedWrites` are met, clause by clause. -/
theorem wit_RejectedWrites :
    (∃ (d : Dev) (tr : Transport), d.enabled tr true = false) ∧
    (∃ (d : Dev) (idx sub : Nat), d.enabled .hlb true = true ∧ dictFind idx sub = none ∧ dictHasIndex idx = false) ∧
    (∃ (d : Dev) (idx sub : Nat), d.enabled .hlb true = true ∧ dictFind idx sub = none ∧ dictHasIndex idx = true) ∧
    (∃ (d : Dev) (idx sub : Nat) (r : OdRow), d.enabled .hlb true = true ∧ dictFind idx sub = some r ∧ (r.acc = .ro ∨
        r.acc = .const)) ∧
    (∃ (d : Dev) (idx sub : Nat) (r : OdRow), d.enabled .hlb true = true ∧ dictFind idx sub = some r ∧ r.acc ≠ .ro ∧ r.acc
        ≠ .const ∧ r.ty = .domain) ∧
    (∃ (d : Dev) (idx sub : Nat) (r : OdRow) (n : Nat), d.enabled .hlb true = true ∧ dictFind idx sub = some r ∧ r.acc ≠
        .ro ∧ r.acc ≠ .const ∧ r.ty ≠ .domain ∧ n ≠ r.ty.size) ∧
    (∃ (d : Dev) (idx sub v : Nat) (r : OdRow), d.enabled .hlb true = true ∧ dictFind idx sub = some r ∧ r.acc ≠ .ro ∧
        r.acc ≠ .const ∧ r.ty ≠ .domain ∧ d.stateConflict .hlb r idx sub v = true) ∧
    (∃ (d : Dev) (idx sub v : Nat) (r : OdRow), d.enabled .hlb true = true ∧ dictFind idx sub = some r ∧ r.acc ≠ .ro ∧
        r.acc ≠ .const ∧ r.ty ≠ .domain ∧ d.stateConflict .hlb r idx sub v = false ∧ d.verdict .hlb idx sub (keptMask idx
        sub v) ≠ .ok) ∧
    (∃ (s : State) (d : Dev), d = (s.at 0).accessBegins .hlb ∧ d.reaches .hlb = true ∧ d.writeCheck .hlb 0xFFFF 255 none 0 = some (.noIndex,
        false)) :=
  ⟨⟨{}, .od, by decide +kernel⟩,
    ⟨svc, 0xFFFF, 0, by decide +kernel, by decide +kernel, by decide +kernel⟩,
    ⟨svc, 0x2000, 255, by decide +kernel, by decide +kernel, by decide +kernel⟩,
    ⟨svc, 0x2000, 1, (dictFind 0x2000 1).get (by decide +kernel), by decide +kernel, rfl, by decide +kernel⟩,
    ⟨svc, 0x2011, 1, (dictFind 0x2011 1).get (by decide +kernel), by decide +kernel, rfl, by decide +kernel, by
        decide +kernel, by decide +kernel⟩,
    ⟨svc, 0x2A03, 1, (dictFind 0x2A03 1).get (by decide +kernel), 3, by decide +kernel, rfl, by decide +kernel, by
        decide +kernel, by decide +kernel, by decide +kernel⟩,
    ⟨svc.put 0x2000 3 1, 0x2000, 2, 0, (dictFind 0x2000 2).get (by decide +kernel), by decide +kernel, rfl, by
        decide +kernel, by decide +kernel, by decide +kernel, by decide +kernel⟩,
    ⟨svc, 0x2001, 1, 9, (dictFind 0x2001 1).get (by decide +kernel), by decide +kernel, rfl, by decide +kernel, by
        decide +kernel, by decide +kernel, by decide +kernel, by decide +kernel⟩,
    ⟨at0 svc, _, rfl, by decide +kernel, by decide +kernel⟩⟩

/-- The hypotheses of `Obligations.DictionaryReadAfterWrite` are met, clause by clause. -/
theorem wit_DictionaryReadAfterWrite :
    ∃ (d : Dev) (idx sub idx' sub' : Nat), SMap.wf odDefault d.od = true ∧ sub < 256 ∧ sub' < 256 ∧ (idx', sub') ≠ (idx,
        sub) :=
  ⟨svc, 0x2000, 255, 0x2001, 0, by decide +kernel, by decide, by decide, by decide⟩

/-- The hypotheses of `Obligations.AlertsTouchNothingElse` are met, clause by clause. -/
theorem wit_AlertsTouchNothingElse :
    ∃ d : Dev, d.pw.st ≠ .boot :=
  ⟨svc, by decide⟩

/-- The hypotheses of `Obligations.QuietCommandsFrame` are met, clause by clause. -/
theorem wit_QuietCommandsFrame :
    (∃ (s : State) (d : Dev), d = s.at 0 ∧ Calm d) ∧
    (∃ (s : State) (d : Dev) (i j lo a : Nat), d = s.at 0 ∧ Calm d ∧ d.coreOn = true ∧ (d.words.get .hlb).held = some (i,
        j, lo, a) ∧ a + msCycles < d.now) ∧
    (∃ (s : State) (d : Dev) (n : Fin 192), d = s.at 0 ∧ Calm d ∧ d.coreOn = true ∧ (d.serCh n.val).de = true ∧ (d.serCh
        n.val).shift = none ∧ (d.serCh n.val).txEnd + ceilDiv (d.serCh n.val).txDiv 4 ≤ d.now) ∧
    (∃ (s : State) (d : Dev) (x : Snap), d = s.at 0 ∧ Calm d ∧ Accepted d .hlb 0x2A00 2 1 ∧ d.log.running = some x) ∧
    (∃ (s : State) (d : Dev) (ring : Fin 64), d = s.at 0 ∧ Calm d ∧ d.coreOn = true ∧ d.barReady = true ∧ (d.ring
        ring.val).enable = false) :=
  ⟨⟨at0 svc, _, rfl, ⟨by decide, rfl, rfl, by decide⟩⟩,
    ⟨at0 { svc with now := msCycles + 1, words := svc.words.set .hlb { held := some (0x2010, 1, 5, 0) } }, _, 0x2010, 1, 5, 0,
        rfl, ⟨by decide, rfl, rfl, by decide⟩, by decide +kernel, by decide +kernel, by decide +kernel⟩,
    ⟨at0 { svc with now := secCycles, ser := [(191, { de := true })] }, _, 191, rfl, ⟨by decide, rfl, rfl, by decide⟩, by
        decide +kernel, by decide +kernel, by decide +kernel, by decide +kernel⟩,
    ⟨at0 { svc with log := { svc.log with running := some svc.snapTake } }, _, svc.snapTake, rfl, ⟨by decide, rfl, rfl, by
        decide⟩, ⟨by decide +kernel, by decide +kernel⟩, by decide +kernel⟩,
    ⟨at0 svc, _, 63, rfl, ⟨by decide, rfl, rfl, by decide⟩, by decide +kernel, by decide +kernel, by decide +kernel⟩⟩

/-- The hypotheses of `Obligations.RoleOutputs` are met, clause by clause. -/
theorem wit_RoleOutputs :
    ∃ (d : Dev) (r : Role), d.loops.any = false ∧ r ≠ .active ∧ r ≠ .solo :=
  ⟨svc, .standby, by decide +kernel, by decide, by decide⟩

/-- The hypotheses of `Obligations.WireFormatsRoundTrip` are met, clause by clause. -/
theorem wit_WireFormatsRoundTrip :
    (∃ r : AdmRec, r.mark < 4 ∧ r.gsid < 2 ^ 30 ∧ r.seq < 2 ^ 32 ∧ r.stamp < 2 ^ 64 ∧ r.digest < 2 ^ 64 ∧ r.mark = 3) ∧
    (∃ (n seg v off : Nat) (data : List Byte), n < 2 ^ 32 ∧ seg < 2 ^ 32 ∧ v < 2 ^ 32 ∧ off < 2 ^ 16 ∧ data.length ≤ 1024)
        :=
  ⟨⟨{ mark := 3, gsid := 2 ^ 30 - 1, seq := 2 ^ 32 - 1, stamp := 1, digest := 1 }, by decide, by decide, by decide, by
      decide, by decide, rfl⟩,
    ⟨2 ^ 32 - 1, 0, 0, 2 ^ 16 - 1, [1], by decide, by decide, by decide, by decide, by decide⟩⟩

/-- The hypotheses of `Obligations.SequenceWindow` are met, clause by clause. -/
theorem wit_SequenceWindow :
    (∃ a b gap : Nat, a < 2 ^ 32 ∧ b < 2 ^ 32 ∧ 1 ≤ gap ∧ gap < 2 ^ 31) ∧
    (∃ (d : Dev) (gsid gen row : Nat) (w : TwinWindow), d.twinRow gsid = some row ∧ d.twins.find? (fun w => w.stream =
        row) = some w ∧ w.gen = gen) ∧
    (∃ (d : Dev) (h : TwinHead) (head : List Byte), h.own = false ∧ (d.count 0x2234 2).judge (beAt head 0 4 % 2 ^ 30)
        h.gen (beAt head 4 4) = .duplicate) :=
  ⟨⟨2 ^ 32 - 1, 0, 2 ^ 31 - 1, by decide, by decide, by decide, by decide⟩,
    ⟨windowed, 5, 1, 7, window, by decide +kernel, by decide +kernel, rfl⟩,
    ⟨windowed, { gen := 1, epoch := 0, foreign := false, own := false, verified := none }, be 4 5 ++ be 4 5, rfl, by
        decide +kernel⟩⟩

/-- The hypotheses of `Obligations.RtsHysteresis` are met, clause by clause. -/
theorem wit_RtsHysteresis :
    (∃ (d : Dev) (n : Nat), d.serMode n = 2 ∧ d.serRtsEn n = true) ∧
    (∃ (d : Dev) (n : Nat), bits (d.serLine n) 31 24 ≤ (d.serCh n).rx.length) ∧
    (∃ (d : Dev) (n : Nat), (d.serCh n).rx.length < bits (d.serLine n) 31 24 ∧ (d.serCh n).rx.length ≤ bits (d.serLine n)
        23 16) ∧
    (∃ (d : Dev) (n : Nat), (d.serCh n).rx.length < bits (d.serLine n) 31 24 ∧ bits (d.serLine n) 23 16 < (d.serCh
        n).rx.length) ∧
    (∃ (d e : Dev) (n : Nat) (c c' : RxChar), (d.serCh n).rx.length < 64 ∧ d.serMark n c = (e, c')) ∧
    (∃ (d e : Dev) (n : Nat) (c : RxChar) (rest : List RxChar), d.serMode n = 2 ∧ (d.tunnelIn false n 0).isSome = false ∧
        (d.serCh n).rx = c :: rest ∧ (c.framing || c.parity || c.brk || c.overrun) = false ∧ e = d.setSer n { d.serCh n with statusRead := (d.serCh n).statusRead.set .hlb false })
        :=
  ⟨⟨rawUnit 0, 0, by decide +kernel, by decide +kernel⟩,
    ⟨rawUnit 4, 0, by decide +kernel⟩,
    ⟨rawUnit 2, 0, by decide +kernel, by decide +kernel⟩,
    ⟨rawUnit 3, 0, by decide +kernel, by decide +kernel⟩,
    ⟨rawUnit 63, _, 0, .plain 0x41, _, by decide +kernel, rfl⟩,
    ⟨rawUnit 1, _, 0, .plain 0x41, [], by decide +kernel, by decide +kernel, by decide +kernel, rfl, rfl⟩⟩

/-- The hypotheses of `Obligations.AddressCharacterCodes` are met, clause by clause. -/
theorem wit_AddressCharacterCodes :
    (∃ bytes : List Byte, addressOk bytes = true) ∧
    (∃ a b : Nat, (isDigit a = true ∨ isUpper a = true) ∧ (isDigit b = true ∨ isUpper b = true) ∧ addrCode a = addrCode b)
        :=
  ⟨⟨sent, by decide +kernel⟩,
    ⟨0x5A, 0x5A, .inr (by decide), .inr (by decide), rfl⟩⟩

/-- The hypotheses of `Obligations.AcceptedWritesAndSnapshots` are met, clause by clause. -/
theorem wit_AcceptedWritesAndSnapshots :
    (∃ (s : State) (d : Dev) (t : Nat) (tr : Transport) (idx : BitVec 16) (sub : BitVec 8) (size : Option Nat) (v :
        Word64) (r : OdRow), d = (s.at t).accessBegins tr ∧ d.reaches tr = true ∧ d.writeCheck tr idx.toNat sub.toNat
        size v.toNat = none ∧ dictFind idx.toNat sub.toNat = some r) ∧
    (∃ (s : State) (d : Dev) (t : Nat) (tr : Transport) (size : Option Nat) (v : Word64), d = (s.at t).accessBegins tr
        ∧ d.reaches tr = true ∧ d.writeCheck tr 0x2A03 1 size v.toNat = none) ∧
    (∃ (s : State) (d : Dev) (t : Nat) (tr : Transport) (size : Option Nat) (v : Word64), d = (s.at t).accessBegins tr
        ∧ d.reaches tr = true ∧ d.writeCheck tr 0x2A00 1 size v.toNat = none) ∧
    (∃ (s : State) (d : Dev) (t : Nat) (tr : Transport) (i : Nat) (j : Nat) (lo : Nat) (a : Nat), d = s.at t ∧
        d.coreOn = true ∧ (d.words.get tr).held = some (i, j, lo, a) ∧ a + msCycles < d.now) ∧
    (∃ (s : State) (d : Dev) (t : Nat) (tr : Transport) (idx : BitVec 16) (sub : BitVec 8) (r : OdRow) (e : Dev) (v :
        Nat), d = s.at t ∧ d.reaches tr = true ∧ (tr = .hlb ∨ tr = .pcie) ∧ dictFind idx.toNat sub.toNat = some r ∧
        r.ty.wide = true ∧ r.acc ≠ .wo ∧ (d.windowSnapsEnd tr).readEntry tr idx.toNat sub.toNat = (e, v)) :=
  ⟨⟨at0 (svc), _, 0, .hlb, 0x2A03, 1, none, 0, _, rfl, by decide +kernel, by decide +kernel, rfl⟩,
    ⟨at0 (svc), _, 0, .hlb, none, 0, rfl, by decide +kernel, by decide +kernel⟩,
    ⟨at0 (cfg), _, 0, .hlb, none, 600, rfl, by decide +kernel, by decide +kernel⟩,
    ⟨at0 ({ svc with now := msCycles + 1, words := svc.words.set .hlb { held := some (0x2010, 1, 5, 0) } }), _, 0,
        .hlb, 0x2010, 1, 5, 0, rfl, by decide +kernel, by decide +kernel, by decide +kernel⟩,
    ⟨at0 (svc), _, 0, .hlb, 0x2001, 7, _, _, _, rfl, by decide +kernel, .inl rfl, rfl, by decide +kernel, by
        decide +kernel, rfl⟩⟩

/-- The hypotheses of `Obligations.DomainPortCommands` are met, clause by clause. -/
theorem wit_DomainPortCommands :
    (∃ (s : State) (d : Dev) (t : Nat) (tr : Transport) (v : Word32), d = (s.at t).accessBegins tr ∧ Accepted d tr
        0x2010 1 v.toNat) ∧
    (∃ (s : State) (d : Dev) (t : Nat) (tr : Transport) (v : Word32) (p : DomainPort), d = (s.at t).accessBegins tr ∧
        Accepted d tr 0x2010 3 v.toNat ∧ d.dom.get tr = p) ∧
    (∃ (s : State) (d : Dev) (t : Nat) (tr : Transport) (p : DomainPort), d = (s.at t).accessBegins tr ∧ d.reaches tr
        = true ∧ d.readCheck tr 0x2010 3 = none ∧ d.dom.get tr = p ∧ isDomain p.idx p.sub = true ∧ p.idx ≠ 0x2A10) ∧
    (∃ (s : State) (d : Dev) (t : Nat) (tr : Transport) (p : DomainPort) (e : Dev), d = (s.at t).accessBegins tr ∧
        Accepted d tr 0x2010 4 1 ∧ d.dom.get tr = p ∧ d.commitCheck p.idx p.sub p.len = 2 ∧ d.domainCommit p.idx p.sub
        (writtenBytes p.written p.len) = e) ∧
    (∃ (s : State) (d : Dev) (t : Nat) (tr : Transport), d = (s.at t).accessBegins tr ∧ Accepted d tr 0x2010 4 2) ∧
    (∃ (s : State) (d : Dev) (t : Nat) (tr : Transport), d = s.at t ∧ d.coreOn = true ∧ (d.dom.get tr).status = 1 ∧
        (d.dom.get tr).last + 1000 * msCycles < d.now) :=
  ⟨⟨at0 (svc), _, 0, .hlb, 0x201101, rfl, ⟨by decide +kernel, by decide +kernel⟩⟩,
    ⟨at0 (svc), _, 0, .hlb, 7, _, rfl, ⟨by decide +kernel, by decide +kernel⟩, rfl⟩,
    ⟨at0 ({ svc with dom := svc.dom.set .hlb { target := 0x201101 } }), _, 0, .hlb, _, rfl, by decide +kernel, by
        decide +kernel, rfl, by decide +kernel, by decide +kernel⟩,
    ⟨at0
        ({ svc with dom := svc.dom.set .hlb { target := 0x283001, status := 1, written := [(0, le 4 1), (4, le 4 1), (8, le 4 1), (12, le 4 1)], len := 16, offset := 16 } }),
        _, 0, .hlb, _, _, rfl, ⟨by decide +kernel, by decide +kernel⟩, rfl, by decide +kernel, rfl⟩,
    ⟨at0 (svc), _, 0, .hlb, rfl, ⟨by decide +kernel, by decide +kernel⟩⟩,
    ⟨at0 ({ svc with now := 1000 * msCycles + 1, dom := svc.dom.set .hlb { status := 1 } }), _, 0, .hlb, rfl, by
        decide +kernel, by decide +kernel, by decide +kernel⟩⟩

/-- The hypotheses of `Obligations.AccessBlockCommands` are met, clause by clause. -/
theorem wit_AccessBlockCommands :
    (∃ (s : State) (d : Dev) (t : Nat) (tr : Transport) (tbl : Tbl), d = (s.at t).accessBegins tr ∧ Accepted d tr
        tbl.index 4 tr.code) ∧
    (∃ (s : State) (d : Dev) (t : Nat) (tr : Transport) (tbl : Tbl), d = (s.at t).accessBegins tr ∧ Accepted d tr
        tbl.index 4 0) ∧
    (∃ (s : State) (d : Dev) (t : Nat) (tbl : Tbl), d = s.at t ∧ d.coreOn = true ∧ (d.block tbl).owner ≠ 0 ∧ (d.block
        tbl).last + secCycles < d.now) ∧
    (∃ (s : State) (d : Dev) (t : Nat) (tr : Transport) (tbl : Tbl), d = (s.at t).accessBegins tr ∧ Accepted d tr
        tbl.index 2 1 ∧ tbl ≠ .lastval ∧ tblHasRow tbl (d.block tbl).row = true) ∧
    (∃ (s : State) (d : Dev) (t : Nat) (tr : Transport) (tbl : Tbl) (st : Staged), d = (s.at t).accessBegins tr ∧
        Accepted d tr tbl.index 2 2 ∧ tblAtOnce tbl = false ∧ tblHasRow tbl (d.block tbl).row = true ∧ d.commit = none
        ∧ d.staged.length < d.stagedTop ∧ st =
        { tbl := tbl, row := (d.block tbl).row, words := storedWords tbl (d.block tbl).window, empty := false } ∧
        (d.addStaged st).rowError tbl st.row st.words = 0) ∧
    (∃ (s : State) (d : Dev) (t : Nat) (tr : Transport) (tbl : Tbl), d = (s.at t).accessBegins tr ∧ Accepted d tr
        tbl.index 2 3 ∧ tblAtOnce tbl = false ∧ tbl ≠ .custody ∧ tbl ≠ .lastval ∧ (tbl ≠ .lset ∨ (d.block tbl).row ≠
        0) ∧ tblHasRow tbl (d.block tbl).row = true ∧ d.commit = none ∧ d.staged.length < d.stagedTop) :=
  ⟨⟨at0 (svc), _, 0, .hlb, .stream, rfl, ⟨by decide +kernel, by decide +kernel⟩⟩,
    ⟨at0 (svc), _, 0, .hlb, .stream, rfl, ⟨by decide +kernel, by decide +kernel⟩⟩,
    ⟨at0 ({ svc with now := secCycles + 1, blocks := (svc.setBlock .stream { owner := 2 }).blocks }), _, 0, .stream,
        rfl, by decide +kernel, by decide +kernel, by decide +kernel⟩,
    ⟨at0 (svc), _, 0, .hlb, .stream, rfl, ⟨by decide +kernel, by decide +kernel⟩, by decide +kernel, by
        decide +kernel⟩,
    ⟨at0 (cfg.setBlock .stream { row := 3, window := List.replicate 16 0 }), _, 0, .hlb, .stream, _, rfl, ⟨by
        decide +kernel, by decide +kernel⟩, by decide +kernel, by decide +kernel, by decide +kernel, by
        decide +kernel, rfl, by decide +kernel⟩,
    ⟨at0 (cfg.setBlock .stream { row := 3 }), _, 0, .hlb, .stream, rfl, ⟨by decide +kernel, by decide +kernel⟩, by
        decide +kernel, by decide +kernel, by decide +kernel, .inl (by decide), by decide +kernel, by decide +kernel,
        by decide +kernel⟩⟩

/-- The hypotheses of `Obligations.SdoTransfers` are met, clause by clause. -/
theorem wit_SdoTransfers :
    (∃ (s : State) (d : Dev) (t : Nat) (idx : BitVec 16) (sub : BitVec 8) (r : OdRow) (e : Dev) (v : Nat), d = s.at t
        ∧ d.sdoServes = true ∧ d.readCheck .sdo idx.toNat sub.toNat = none ∧ dictFind idx.toNat sub.toNat = some r ∧
        r.ty ≠ .domain ∧ r.ty.size ≤ 4 ∧ ({ d with sdo := none } : Dev).readEntry .sdo idx.toNat sub.toNat = (e, v)) ∧
    (∃ (s : State) (d : Dev) (t : Nat) (idx : BitVec 16) (sub : BitVec 8) (size : Option Nat) (v : Word32) (x :
        Outside) (e : Dev), d = s.at t ∧ d.sdoServes = true ∧ ({ d with sdo := none } : Dev).writeAccess s.otp .sdo
        idx.toNat sub.toNat (slotAddress idx.toNat sub.toNat) size v.toNat x = ⟨e, none, none⟩) ∧
    (∃ (s : State) (d : Dev) (t : Nat) (fd : Bool) (idx : BitVec 16) (sub : BitVec 8) (r : OdRow) (e : Dev) (f : Dev)
        (v : Nat), d = s.at t ∧ d.sdoServes = true ∧ d.readCheck .sdo idx.toNat sub.toNat = none ∧ dictFind idx.toNat
        sub.toNat = some r ∧ r.ty ≠ .domain ∧ r.ty.size = 8 ∧ ({ d with sdo := none } : Dev).readEntry .sdo idx.toNat
        sub.toNat = (e, v) ∧ f =
        { e with sdo := some { upload := true, idx := idx.toNat, sub := sub.toNat, fd := fd, data := le 8 v, last := e.now } }) ∧
    (∃ (s : State) (d : Dev) (t : Nat) (fd : Bool) (idx : BitVec 16) (sub : BitVec 8) (size : Option Nat) (e : Dev), d
        = s.at t ∧ d.sdoServes = true ∧ d.sdoOpenCheck idx.toNat sub.toNat size = none ∧ e =
        { d with sdo := some { upload := false, idx := idx.toNat, sub := sub.toNat, fd := fd, data := [], last := d.now } }) ∧
    (∃ (s : State) (d : Dev) (t : Nat) (x : SdoTransfer) (e : Dev), d = s.at t ∧ d.sdoServes = true ∧ d.sdo = some x ∧
        d.enabled .sdo false = true ∧ x.upload = true ∧ 7 < x.data.length ∧ e =
        { d with sdo := some { x with data := x.data.drop 7, last := d.now } }) ∧
    (∃ (s : State) (d : Dev) (t : Nat) (x : SdoTransfer) (e : Dev), d = s.at t ∧ d.sdoServes = true ∧ d.sdo = some x ∧
        d.enabled .sdo false = true ∧ x.upload = true ∧ x.data.length ≤ 7 ∧ e = { d with sdo := none }) ∧
    (∃ (s : State) (d : Dev) (t : Nat) (last : Bool) (data : List Byte) (y : SdoTransfer) (e : Dev), d = s.at t ∧
        d.sdoServes = true ∧ d.sdo = some y ∧ d.enabled .sdo true = true ∧ y.upload = false ∧ last = false ∧ e =
        { d with sdo := some { y with data := y.data ++ data.take 7, last := d.now } }) ∧
    (∃ (s : State) (d : Dev) (t : Nat) (idx : BitVec 16) (sub : BitVec 8), d = s.at t ∧ d.sdoServes = true ∧ d.absent
        .sdo false idx.toNat sub.toNat = none) ∧
    (∃ (s : State) (d : Dev) (t : Nat), d = s.at t ∧ d.sdoServes = true ∧ d.enabled .sdo false = true) ∧
    (∃ (s : State) (d : Dev) (t : Nat) (y : SdoTransfer) (e : Dev), d = s.at t ∧ d.sdoServes = true ∧ d.sdo = some y ∧
        y.last + 1000 * msCycles < d.now ∧ e =
        { d with sdo := none, dom := d.dom.set .sdo { d.dom.get .sdo with written := [], len := 0, status := 0 } }) :=
  ⟨⟨at0 (sdoUnit), _, 0, 0x2000, 1, _, _, _, rfl, by decide +kernel, by decide +kernel, rfl, by decide +kernel, by
        decide +kernel, rfl⟩,
    ⟨at0 (sdoUnit), _, 0, 0x2A03, 1, none, 5, .quiet, { sdoUnit.put 0x2A03 1 5 with sdo := none }, rfl, by
        decide +kernel, written (by decide +kernel) (by decide +kernel) (by decide +kernel)⟩,
    ⟨at0 (sdoUnit), _, 0, false, 0x2001, 7, _, _, _, _, rfl, by decide +kernel, by decide +kernel, rfl, by
        decide +kernel, by decide +kernel, rfl, rfl⟩,
    ⟨at0 (sdoUnit), _, 0, false, 0x2A03, 1, (some 4), _, rfl, by decide +kernel, by decide +kernel, rfl⟩,
    ⟨at0
        ({ sdoUnit with sdo := some { upload := true, idx := 0x2001, sub := 7, fd := false, data := List.replicate 8 0, last := 0 } }),
        _, 0, { upload := true, idx := 0x2001, sub := 7, fd := false, data := List.replicate 8 0, last := 0 }, _, rfl,
        by decide +kernel, by decide +kernel, by decide +kernel, by decide +kernel, by decide +kernel, rfl⟩,
    ⟨at0
        ({ sdoUnit with sdo := some { upload := true, idx := 0x2001, sub := 7, fd := false, data := List.replicate 7 0, last := 0 } }),
        _, 0, { upload := true, idx := 0x2001, sub := 7, fd := false, data := List.replicate 7 0, last := 0 }, _, rfl,
        by decide +kernel, by decide +kernel, by decide +kernel, by decide +kernel, by decide +kernel, rfl⟩,
    ⟨at0
        ({ sdoUnit with sdo := some { upload := false, idx := 0x2001, sub := 7, fd := false, data := [], last := 0 } }),
        _, 0, false, [], { upload := false, idx := 0x2001, sub := 7, fd := false, data := [], last := 0 }, _, rfl, by
        decide +kernel, by decide +kernel, by decide +kernel, by decide +kernel, by decide +kernel, rfl⟩,
    ⟨at0 (sdoUnit), _, 0, 0x2000, 1, rfl, by decide +kernel, by decide +kernel⟩,
    ⟨at0 (sdoUnit), _, 0, rfl, by decide +kernel, by decide +kernel⟩,
    ⟨at0
        ({ sdoUnit with now := 1000 * msCycles + 1, sdo := some { upload := false, idx := 0x2001, sub := 7, fd := false, data := [], last := 0 } }),
        _, 0, { upload := false, idx := 0x2001, sub := 7, fd := false, data := [], last := 0 }, _, rfl, by
        decide +kernel, by decide +kernel, by decide +kernel, rfl⟩⟩

/-- The hypotheses of `Obligations.DeviceStateRequests` are met, clause by clause. -/
theorem wit_DeviceStateRequests :
    (∃ (s : State) (d : Dev) (t : Nat) (tr : Transport), d = (s.at t).accessBegins tr ∧ Accepted d tr 0x2000 2 2 ∧ d.inService = true ∧
        d.pw.drain = none) ∧
    (∃ (s : State) (d : Dev) (t : Nat) (n : Nat), d = s.at t ∧ d.inService = true ∧ d.pw.drain = some (.config, n) ∧
        d.pw.drained = true) ∧
    (∃ (s : State) (d : Dev) (t : Nat) (tr : Transport), d = (s.at t).accessBegins tr ∧ Accepted d tr 0x2000 2 3 ∧ d.pw.st = .config ∧
        d.romOnly = false ∧ d.pw.drain = none ∧ d.validation.1 = false) ∧
    (∃ (s : State) (d : Dev) (t : Nat) (p : Nat), d = s.at t ∧ d.pw.st = .config ∧ d.pw.resume = some p ∧ p < d.pitch.num) ∧
    (∃ (s : State) (d : Dev) (t : Nat) (tr : Transport), d = (s.at t).accessBegins tr ∧ Accepted d tr 0x2000 2 0x10 ∧ d.pw.st ≠ .hold) :=
  ⟨⟨at0 (svc), _, 0, .hlb, rfl, ⟨by decide +kernel, by decide +kernel⟩, by decide +kernel, by decide +kernel⟩,
    ⟨at0 ({ svc with pw := { svc.pw with drain := some (.config, 2), drained := true } }), _, 0, 2, rfl, by
        decide +kernel, by decide +kernel, by decide +kernel⟩,
    ⟨at0 (built), _, 0, .hlb, rfl, ⟨by decide +kernel, by decide +kernel⟩, by decide +kernel, by decide +kernel, by
        decide +kernel, by decide +kernel⟩,
    ⟨at0 ({ cfg with pw := { cfg.pw with resume := some 4 }, pitch := { cfg.pitch with num := 5 } }), _, 0, 4, rfl, by
        decide +kernel, by decide +kernel, by decide +kernel⟩,
    ⟨at0 (svc), _, 0, .hlb, rfl, ⟨by decide +kernel, by decide +kernel⟩, by decide +kernel⟩⟩

/-- The hypotheses of `Obligations.AlertClearingAndRackCopy` are met, clause by clause. -/
theorem wit_AlertClearingAndRackCopy :
    (∃ (s : State) (d : Dev) (t : Nat) (code : Nat) (a : Alert), d = s.at t ∧ d.coreOn = true ∧ d.alerts.find? (fun x =>
        x.code = code) = some a ∧ d.clearable a = true) ∧
    (∃ (s : State) (d : Dev) (t : Nat) (ok : Bool) (p : Programming) (e : Dev), d = s.at t ∧ d.coreOn = true ∧
        d.programming = some p ∧ ok = true ∧ p.copyB = true ∧ e = { d with programming := none, flashB := p.bytes }) ∧
    (∃ (s : State) (d : Dev) (t : Nat) (ok : Bool) (p : Programming), d = s.at t ∧ d.coreOn = true ∧ d.programming = some
        p ∧ ok = false) :=
  ⟨⟨at0 ({ svc with now := secCycles, alerts := [{ code := 0xA600, sev := 2, detail := 0, stamp := 0, latest := 0 }] }),
      _, 0, 0xA600, { code := 0xA600, sev := 2, detail := 0, stamp := 0, latest := 0 }, rfl, by decide +kernel, by
      decide +kernel, by decide +kernel⟩,
    ⟨at0 ({ svc with programming := some prog }), _, 0, true, prog, _, rfl, by decide +kernel, by decide +kernel, by
        decide +kernel, by decide +kernel, rfl⟩,
    ⟨at0 ({ svc with programming := some prog }), _, 0, false, prog, rfl, by decide +kernel, by decide +kernel, by
        decide +kernel⟩⟩

/-- The hypotheses of `Obligations.IngestTaggingAndLastDiscard` are met, clause by clause. -/
theorem wit_IngestTaggingAndLastDiscard :
    (∃ (s : State) (d : Dev) (t : Nat) (k : Fin 8) (it : Item) (e : Dev), d = s.at t ∧ d.coreOn = true ∧ (d.lanes.getD
        k.val {}).item = some it ∧ it.kind ≠ 3 ∧ fpBad it = false ∧ e = d.laneFree k.val ∧ (it.form = .sentence →
        e.partKind it ≠ .malformed)) ∧
    (∃ (s : State) (d : Dev) (t : Nat) (y : Item) (it : Item) (tag : Nat) (n : Nat) (row : List Word32) (e : Dev) (f :
        Dev), d = s.at t ∧ d.coreOn = true ∧ firstToIssue (fun i => (d.tagFor i.src).isSome && !d.frameAhead i)
        d.waitTag = some y ∧ d.tagFor y.src = some tag ∧ it = d.named y ∧ e =
        (({ d with waitTag := d.waitTag.erase y, issue := d.issue + 1 } : Dev).loadWindow (itemBytes it)).tagHigh ∧
        (e.grouping it).later = false ∧ fpLater it = false ∧ f = e.count 0x2310 1 ∧ f.lookup (itemKey it) = some (n,
        row)) ∧
    (∃ (s : State) (d : Dev) (t : Nat) (src : Nat) (g : GroupCtx), d = s.at t ∧ d.inService = true ∧ g ∈ d.lateGroups
        src) ∧
    (∃ (s : State) (d : Dev) (t : Nat) (tr : Transport) (e : Dev) (v : Nat), d = (s.at t).accessBegins tr ∧ d.reaches
        tr = true ∧ d.readAccess tr 0x2231 1 = (e, .ok v)) :=
  ⟨⟨at0 ({ svc with lanes := svc.lanes.set 3 { item := some { item with kind := 2, form := .can } } }), _, 0, 3,
        { item with kind := 2, form := .can }, _, rfl, by decide +kernel, by decide +kernel, by decide +kernel, by
        decide +kernel, rfl, fun _ => by decide +kernel⟩,
    ⟨at0 ({ withStream with waitTag := [item] }), _, 0, item, item, 0, 7, streamRow, _, _, rfl, by decide +kernel, by
        decide +kernel, by decide +kernel, by decide +kernel, rfl, by decide +kernel, by decide +kernel, rfl, by
        decide +kernel⟩,
    ⟨at0 ({ svc with now := 8000, groups := [group] }), _, 0, 0, group, rfl, by decide +kernel, by decide +kernel⟩,
    ⟨at0 (svc), _, 0, .hlb, (((at0 svc).at 0).readAccess .hlb 0x2231 1).1, 0, rfl, by decide +kernel, Prod.ext rfl
        rfl⟩⟩

/-- The hypotheses of `Obligations.FirewallOrderAndHandover` are met, clause by clause. -/
theorem wit_FirewallOrderAndHandover :
    (∃ (s : State) (d : Dev) (t : Nat) (tag : Nat) (x : Tagged) (e : Dev), d = s.at t ∧ d.coreOn = true ∧
        d.tagged.find? (fun x => x.tag = tag ∧ !x.virt ∧ x.fate == .working) = some x ∧ hasStep x.probes = false ∧
        Dev.rateWaits x (d.tagged.takeWhile (fun y => !(y.tag = tag))) = false ∧ fpLater x.item = false ∧ x.item.kind
        ≠ 5 ∧ d.authentic x = true ∧ d.grouping x.item = .single ∧ d.rateStage x = some e) ∧
    (∃ (s : State) (d : Dev) (t : Nat) (tag : Nat) (virt : Bool) (x : Tagged) (e : Dev), d = s.at t ∧ d.coreOn = true
        ∧ d.tagged.find? (fun y => y.tag = tag && y.virt == virt) = some x ∧ x.fate = .ready ∧ (d.tagged.takeWhile
        (fun y => !(y.tag = tag && y.virt == virt))).any (fun y => x.behind y) = false ∧ e =
        ((({ d with tagged := d.tagged.filter (fun y => !(y.tag = tag && y.virt == virt)) } : Dev).lastValueUpdate
        x).ledItem x.stream x.item).tunnelEgress x.item ∧ (e.engineDelay x.item).leads = true) ∧
    (∃ (s : State) (d : Dev) (t : Nat) (i : PlanItem), d = s.at t ∧ d.coreOn = true ∧ d.leads = true ∧ d.older = [] ∧
        d.previous.handNext = none ∧ d.sending.handNext = some i) :=
  ⟨⟨at0 ({ svc with tagged := [tagged] }), _, 0, 0, tagged, _, rfl, by decide +kernel, by decide +kernel, by
        decide +kernel, by decide +kernel, by decide +kernel, by decide +kernel, by decide +kernel, by decide +kernel,
        rfl⟩,
    ⟨at0 ({ svc with tagged := [{ tagged with fate := .ready }] }), _, 0, 0, false, { tagged with fate := .ready }, _,
        rfl, by decide +kernel, by decide +kernel, by decide +kernel, by decide +kernel, rfl, by decide +kernel⟩,
    ⟨at0 ({ svc with sending := { items := [planItem], acked := 1, count := 1 } }), _, 0, planItem, rfl, by
        decide +kernel, by decide +kernel, by decide +kernel, by decide +kernel, by decide +kernel⟩⟩

/-- The hypotheses of `Obligations.LearnAndCommit` are met, clause by clause. -/
theorem wit_LearnAndCommit :
    (∃ (s : State) (d : Dev) (t : Nat) (tr : Transport) (v : Byte), d = (s.at t).accessBegins tr ∧ Accepted d tr 0x2308 3 v.toNat) ∧
    (∃ (s : State) (d : Dev) (t : Nat) (tr : Transport), d = (s.at t).accessBegins tr ∧ Accepted d tr 0x2308 9 1) ∧
    (∃ (s : State) (d : Dev) (t : Nat) (tr : Transport) (v : Word64), d = (s.at t).accessBegins tr ∧ Accepted d tr 0x2301 2 v.toNat ∧
        d.staged ≠ [] ∧ v.toNat % d.legPu = 0 ∧ d.legOf d.stamp + 2 * d.legPu ≤ v.toNat) ∧
    (∃ (s : State) (d : Dev) (t : Nat) (tr : Transport) (c : Nat), d = (s.at t).accessBegins tr ∧ Accepted d tr 0x2301 4 1 ∧ d.commit = some
        c) :=
  ⟨⟨at0 (svc), _, 0, .hlb, 3, rfl, ⟨by decide +kernel, by decide +kernel⟩⟩,
    ⟨at0 (svc), _, 0, .hlb, rfl, ⟨by decide +kernel, by decide +kernel⟩⟩,
    ⟨at0 (svc.addStaged { tbl := .stream, row := 3, words := [], empty := true }), _, 0, .hlb, 0x8000, rfl, ⟨by
        decide +kernel, by decide +kernel⟩, by decide +kernel, by decide +kernel, by decide +kernel⟩,
    ⟨at0 ({ cfg with commit := some 5 }), _, 0, .hlb, 5, rfl, ⟨by decide +kernel, by decide +kernel⟩, by decide +kernel⟩⟩

/-- The hypotheses of `Obligations.PitchLegAndHem` are met, clause by clause. -/
theorem wit_PitchLegAndHem :
    (∃ (s : State) (d : Dev) (t : Nat) (e : Dev), d = s.at t ∧ d.pitch.st ≠ .boot ∧ d.pitch.wraps (tickOf d.now) = true ∧
        e = d.enginePitch (tickOf d.now) ∧ e.pw.st = .service ∧ e.team.role ≠ .none ∧ e.team.role ≠ .hold) ∧
    (∃ (s : State) (d : Dev) (t : Nat) (e : Dev) (x : Bool) (y : Bool), d = s.at t ∧ d.inService = true ∧ d.plan.leg ≤
        d.leg ∧ d.legRinse = (e, x, y)) ∧
    (∃ (s : State) (d : Dev) (t : Nat), d = s.at t ∧ d.inService = true ∧ d.leads = true ∧ (d.legPu - d.hemPu) * 2 ^ 16 ≤
        d.legPhase16 ∧ d.selectionPoints.mirrors = false) :=
  ⟨⟨at0 ({ svc with now := 800000000 }), _, 0, _, rfl, by decide +kernel, by decide +kernel, rfl, by decide +kernel, by
      decide +kernel, by decide +kernel⟩,
    ⟨at0 (svc), _, 0, ((at0 svc).at 0).legRinse.1, ((at0 svc).at 0).legRinse.2.1, ((at0 svc).at 0).legRinse.2.2, rfl, by
        decide +kernel, by decide +kernel, rfl⟩,
    ⟨at0 ({ svc with now := 781000 }), _, 0, rfl, by decide +kernel, by decide +kernel, by decide +kernel, by
        decide +kernel⟩⟩

/-- The hypotheses of `Obligations.ReferenceEdgesAndBeacons` are met, clause by clause. -/
theorem wit_ReferenceEdgesAndBeacons :
    (∃ (s : State) (d : Dev) (t : Nat) (high : Nat) (l : Nat), d = s.at t ∧ d.on = true ∧ d.usesSource 1 = true ∧
        d.loops.pitch = false ∧ bits (d.get 0x2100 9) 15 0 ≤ high ∧ d.pitch.lastEdge = some l ∧ d.tMin ≤ tickOf d.now
        - l ∧ tickOf d.now - l ≤ d.tMax) ∧
    (∃ (s : State) (d : Dev) (t : Nat) (high : Nat), d = s.at t ∧ d.on = true ∧ d.usesSource 1 = true ∧ d.loops.pitch
        = false ∧ bits (d.get 0x2100 9) 15 0 ≤ high ∧ d.pitch.lastEdge = none) ∧
    (∃ (s : State) (d : Dev) (t : Nat) (q : Nat), d = s.at t ∧ d.on = true ∧ d.usesSource 2 = true ∧ d.pitch.qTick =
        some q ∧ d.get 0x2100 0x0B ≤ tickOf d.now - q ∧ d.pitch.src ≠ 2) ∧
    (∃ (s : State) (d : Dev) (t : Nat), d = s.at t ∧ d.on = true ∧ d.usesSource 2 = true ∧ d.pitch.qIndex = none ∧
        d.pitch.qcount = d.get 0x2100 0x0A) ∧
    (∃ (s : State) (d : Dev) (t : Nat) (l : Nat), d = s.at t ∧ d.on = true ∧ d.usesSource 2 = true ∧ d.pitch.qIndex =
        some l ∧ d.pitch.qcount = d.get 0x2100 0x0A ∧ (d.pitch.boundBefore (tickOf d.now) = 0 ∨ d.tMin ≤ tickOf d.now
        - d.pitch.boundBefore (tickOf d.now)) ∧ tickOf d.now - l ≤ d.tMax) ∧
    (∃ (s : State) (d : Dev) (t : Nat) (p : Fin 4) (payload : List Byte), d = s.at t ∧ d.coreOn = true ∧ d.portHears
        p.val = true ∧ formatTag "EUPB" payload = true ∧ bits (beAt payload 6 2) 10 0 ≠ d.pairId ∧ bits (beAt payload
        6 2) 10 0 = d.get 0x2100 0x0C ∧ bit (beAt payload 5 1) 0 = true ∧ bit (beAt payload 5 1) 1 = false ∧ beAt
        payload 11 1 ≠ 2) ∧
    (∃ (s : State) (d : Dev) (t : Nat), d = s.at t ∧ d.isMaster = true ∧ d.inService = true ∧ d.pitch.phase16 (tickOf
        d.now) / 2 ^ 16 % 2 ^ (24 - d.get 0x2100 0x0F) < max 1 (ceilDiv d.pitch.rateN d.pitch.rateD)) :=
  ⟨⟨at0 ({ svc.put 0x2100 1 1 with now := 800000000, pitch := { svc.pitch with lastEdge := some 0 } }), _, 0, 1000,
        0, rfl, by decide +kernel, by decide +kernel, by decide +kernel, by decide +kernel, by decide +kernel, by
        decide +kernel, by decide +kernel⟩,
    ⟨at0 (svc.put 0x2100 1 1), _, 0, 1000, rfl, by decide +kernel, by decide +kernel, by decide +kernel, by
        decide +kernel, by decide +kernel⟩,
    ⟨at0 ({ svc.put 0x2100 1 2 with now := 4000, pitch := { svc.pitch with qTick := some 0 } }), _, 0, 0, rfl, by
        decide +kernel, by decide +kernel, by decide +kernel, by decide +kernel, by decide +kernel⟩,
    ⟨at0 (svc.put 0x2100 1 2 |>.put 0x2100 0x0A 0), _, 0, rfl, by decide +kernel, by decide +kernel, by
        decide +kernel, by decide +kernel⟩,
    ⟨at0 ({ svc.put 0x2100 1 2 with now := 800000000, pitch := { svc.pitch with qIndex := some 0, qcount := 4096 } }),
        _, 0, 0, rfl, by decide +kernel, by decide +kernel, by decide +kernel, by decide +kernel, .inl (by
        decide +kernel), by decide +kernel⟩,
    ⟨at0 ({ (svc.put 0x3200 1 1).put 0x2100 0x0C 9 with ports := [(0, { linkUp := true })] }), _, 0, 0, ([0x45, 0x55,
        0x50, 0x42, 1, 1, 0, 9] ++ List.replicate 24 0), rfl, by decide +kernel, by decide +kernel, by decide +kernel,
        by decide +kernel, by decide +kernel, by decide +kernel, by decide +kernel, by decide +kernel⟩,
    ⟨at0 (svc.put 0x2100 0x0E 1), _, 0, rfl, by decide +kernel, by decide +kernel, by decide +kernel⟩⟩

/-- The hypotheses of `Obligations.PitchEngineStates` are met, clause by clause. -/
theorem wit_PitchEngineStates :
    (∃ (s : State) (d : Dev) (t : Nat) (source : Fin 4), d = s.at t ∧ d.on = true ∧ d.qualified source.val = true ∧
        d.pitch.st = .free) ∧
    (∃ (s : State) (d : Dev) (t : Nat), d = s.at t ∧ d.on = true ∧ d.pitch.st = .locked ∧ d.sourceMissing (tickOf
        d.now) = true ∧ (d.enterHoldover (tickOf d.now)).get 0x2100 8 ≠ 0) ∧
    (∃ (s : State) (d : Dev) (t : Nat), d = s.at t ∧ d.on = true ∧ d.pitch.st = .holdover ∧ d.get 0x2100 8 ≤
        d.pitch.holdover) ∧
    (∃ (s : State) (d : Dev) (t : Nat) (e : Dev) (f : Dev), d = s.at t ∧ d.on = true ∧ d.pitch.st = .slip ∧
        d.pitch.slip = .inside ∧ d.pitch.boundTick ≠ 0 ∧ d.pitch.slipEnd ≤ tickOf d.now ∧ d.pitch.src ≠ 3 ∧
        d.pitch.slipPoint = none ∧ e = (d.count 0x2111 1).raise 0xA102 1 d.pitch.slipLen ∧ f = e.runPeriod (tickOf
        d.now) e.measured) ∧
    (∃ (s : State) (d : Dev) (t : Nat), d = s.at t ∧ d.on = true ∧ d.pitch.st = .slip ∧ d.pitch.slip = .window ∧
        d.pitch.slipEnd + d.measured / 8 < tickOf d.now) ∧
    (∃ (s : State) (d : Dev) (t : Nat), d = s.at t ∧ d.inService = true ∧ d.released = false ∧ d.get 0x2101 1 ≠ 0 ∧
        d.pitchGated = false ∧ d.pitch.out = false ∧ d.loops.pitch = false ∧ d.outRises = true) ∧
    (∃ (s : State) (d : Dev) (t : Nat), d = s.at t ∧ d.inService = true ∧ d.released = false ∧ d.get 0x2101 1 ≠ 0 ∧
        d.pitch.out = true ∧ d.loops.pitch = false ∧ d.outFalls = true) :=
  ⟨⟨at0 ({ svc.put 0x2100 1 1 with pitch := { svc.pitch with st := .free, qualPulse := 100 } }), _, 0, 1, rfl, by
        decide +kernel, by decide +kernel, by decide +kernel⟩,
    ⟨at0 ({ svc with now := 1000000000, pitch := { svc.pitch with src := 1 } }), _, 0, rfl, by decide +kernel, by
        decide +kernel, by decide +kernel, by decide +kernel⟩,
    ⟨at0 ({ svc with pitch := { svc.pitch with st := .holdover, holdover := 1000 } }), _, 0, rfl, by decide +kernel,
        by decide +kernel, by decide +kernel⟩,
    ⟨at0 ({ svc with pitch := { svc.pitch with st := .slip, slip := .inside, boundTick := 1, src := 1 } }), _, 0, _,
        _, rfl, by decide +kernel, by decide +kernel, by decide +kernel, by decide +kernel, by decide +kernel, by
        decide +kernel, by decide +kernel, rfl, rfl⟩,
    ⟨at0 ({ svc with now := 800000000, pitch := { svc.pitch with st := .slip, slip := .window } }), _, 0, rfl, by
        decide +kernel, by decide +kernel, by decide +kernel, by decide +kernel⟩,
    ⟨at0 ((svc.put 0x2101 1 1).put 0x2101 4 0), _, 0, rfl, by decide +kernel, by decide +kernel, by decide +kernel, by
        decide +kernel, by decide +kernel, by decide +kernel, by decide +kernel⟩,
    ⟨at0 ({ svc.put 0x2101 1 1 with now := 8000000, pitch := { svc.pitch with out := true } }), _, 0, rfl, by
        decide +kernel, by decide +kernel, by decide +kernel, by decide +kernel, by decide +kernel, by decide +kernel⟩⟩

/-- The hypotheses of `Obligations.GateWindows` are met, clause by clause. -/
theorem wit_GateWindows :
    (∃ (s : State) (d : Dev) (t : Nat) (p : Fin 4) (entry : Nat) (g : Gate), d = s.at t ∧ d.coreOn = true ∧ (d.gates
        p.val d.leg).find? (fun g => g.entry = entry) = some g ∧ (d.port p.val).opened.contains entry = false ∧
        (d.port p.val).hasLeft = false ∧ d.portRuns p.val = true ∧ g.openAt * 2 ^ 16 + d.psTo16 ((d.port
        p.val).shiftAt d.ps) ≤ d.legPhase16 ∧ d.legPhase16 ≤ g.close * 2 ^ 16 + d.psTo16 ((d.port p.val).shiftAt d.ps)
        ∧ bit g.cmask 7 = false) ∧
    (∃ (s : State) (d : Dev) (t : Nat) (p : Fin 4) (entry : Nat) (g : Gate), d = s.at t ∧ d.coreOn = true ∧ (d.gates
        p.val d.leg).find? (fun g => g.entry = entry) = some g ∧ g.close * 2 ^ 16 + d.psTo16 ((d.port p.val).shiftAt
        d.ps) ≤ d.legPhase16) ∧
    (∃ (s : State) (d : Dev) (t : Nat) (p : Fin 4) (f : PlanFrame) (leg : Nat) (left : Bool) (n : Nat), d = s.at t ∧
        d.coreOn = true ∧ (d.port p.val).tx = .plan f leg left n ∧ n ≤ d.ps) ∧
    (∃ (s : State) (d : Dev) (t : Nat) (p : Fin 4) (u : Unsched) (n : Nat), d = s.at t ∧ d.coreOn = true ∧ (d.port
        p.val).tx = .other u n ∧ n ≤ d.ps) :=
  ⟨⟨at0 (gated), _, 0, 0, 1, gateNow, rfl, by decide +kernel, by decide +kernel, by decide +kernel, by
        decide +kernel, by decide +kernel, by decide +kernel, by decide +kernel, by decide +kernel⟩,
    ⟨at0 ({ gated with now := 400000 }), _, 0, 0, 1, gateNow, rfl, by decide +kernel, by decide +kernel, by
        decide +kernel⟩,
    ⟨at0
        ({ svc with ports := [(0, { tx := .plan { port := 0, window := 0, group := 0, format := 0, cls := 0, recs := [], size := 64, number := none } 0 false 0 })] }),
        _, 0, 0,
        { port := 0, window := 0, group := 0, format := 0, cls := 0, recs := [], size := 64, number := none }, 0,
        false, 0, rfl, by decide +kernel, by decide +kernel, by decide +kernel⟩,
    ⟨at0 ({ svc with ports := [(0, { tx := .other (.reply []) 0 })] }), _, 0, 0, .reply [], 0, rfl, by decide +kernel,
        by decide +kernel, by decide +kernel⟩⟩

/-- The hypotheses of `Obligations.PauseFrames` are met, clause by clause. -/
theorem wit_PauseFrames :
    (∃ (s : State) (d : Dev) (t : Nat) (p : Fin 4) (quanta : BitVec 16) (e : Dev) (x : Port), d = s.at t ∧ d.coreOn = true
        ∧ d.portHears p.val = true ∧ e = (d.sticky (0x3200 + p.val) 5 0x10).count (0x3200 + p.val) 0x24 ∧ x = (e.port
        p.val).settle e.ps ∧ quanta.toNat * e.quantum p.val ≠ 0 ∧ x.honouredAt e.ps < e.ceiling p.val) ∧
    (∃ (s : State) (d : Dev) (t : Nat) (p : Fin 4) (quanta : BitVec 16) (e : Dev) (x : Port), d = s.at t ∧ d.coreOn = true
        ∧ d.portHears p.val = true ∧ e = (d.sticky (0x3200 + p.val) 5 0x10).count (0x3200 + p.val) 0x24 ∧ x = (e.port
        p.val).settle e.ps ∧ quanta.toNat = 0) ∧
    (∃ (s : State) (d : Dev) (t : Nat) (p : Fin 4) (n : Nat), d = s.at t ∧ d.coreOn = true ∧ (d.port p.val).pause = some n
        ∧ n ≤ d.ps) ∧
    (∃ (s : State) (d : Dev) (t : Nat) (p : Fin 4) (n : Nat), d = s.at t ∧ d.coreOn = true ∧ (d.port p.val).pause = some n
        ∧ d.ps < n ∧ d.ceiling p.val ≤ (d.port p.val).honouredAt d.ps) :=
  ⟨⟨at0 ({ svc with ports := [(0, { linkUp := true })] }), _, 0, 0, 10, _, _, rfl, by decide +kernel, by decide +kernel,
      rfl, rfl, by decide +kernel, by decide +kernel⟩,
    ⟨at0 ({ svc with ports := [(0, { linkUp := true })] }), _, 0, 0, 0, _, _, rfl, by decide +kernel, by decide +kernel,
        rfl, rfl, by decide +kernel⟩,
    ⟨at0 ({ svc with ports := [(0, { pause := some 0 })] }), _, 0, 0, 0, rfl, by decide +kernel, by decide +kernel, by
        decide +kernel⟩,
    ⟨at0 ({ svc with ports := [(0, { pause := some (2 ^ 70), honoured := 2 ^ 60 })] }), _, 0, 0, 2 ^ 70, rfl, by
        decide +kernel, by decide +kernel, by decide +kernel, by decide +kernel⟩⟩

/-- The hypotheses of `Obligations.PortReceptionAndLinks` are met, clause by clause. -/
theorem wit_PortReceptionAndLinks :
    (∃ (s : State) (d : Dev) (t : Nat) (bytes : List Byte) (sfd : Nat) (codeError : Bool) (q : Fin 5) (a : Arrival), d
        = s.at t ∧ d.coreOn = true ∧ q.val < 4 ∧ d.portHears q.val = true ∧ 64 ≤ bytes.length ∧ codeError = false ∧
        fcsFits bytes = true ∧ bytes.length ≤ d.get (0x3200 + q.val) 3 ∧ a =
        { port := q.val, frame := bytes, stamp := d.stampAt sfd, tick := tickOf sfd, quality := d.qualityAt sfd }) ∧
    (∃ (s : State) (d : Dev) (t : Nat) (bytes : List Byte) (q : Fin 5), d = s.at t ∧ d.coreOn = true ∧ q.val < 4 ∧
        d.portHears q.val = true ∧ bytes.length < 64) ∧
    (∃ (s : State) (d : Dev) (t : Nat) (q : Fin 5), d = s.at t ∧ q.val < 4 ∧ (d.pw.st = .service ∨ d.pw.st = .config)
        ∧ d.portUsed q.val = true) ∧
    (∃ (s : State) (d : Dev) (t : Nat) (status : Nat) (e : Dev), d = s.at t ∧ d.on = true ∧ d.get 0x3210 1 ≠ 0 ∧ e =
        d.setPort 4 { d.port 4 with link := d.linkBits 4 status }) ∧
    (∃ (s : State) (d : Dev) (t : Nat) (q : Fin 5), d = s.at t ∧ q.val < 4 ∧ (d.port q.val).linkUp = true ∧ d.portUsed
        q.val = true ∧ d.portLooped q.val = false ∧ d.on = true) ∧
    (∃ (s : State) (d : Dev) (t : Nat) (tr : Transport) (p : Fin 4) (r : StampRec) (rs : List StampRec), d = (s.at
        t).accessBegins tr ∧ Accepted d tr (0x3200 + p.val) 0x0B 1 ∧ (d.port p.val).stamps = r :: rs) ∧
    (∃ (s : State) (d : Dev) (t : Nat) (p : Fin 2) (bytes : List Byte) (sfd : Nat) (codeError : Bool) (i : Nat), d =
        s.at t ∧ d.pw.st = .bivouac ∧ d.pw.armed = true ∧ d.portMode p.val ≠ 0 ∧ d.pw.armedAt < sfd ∧ 64 ≤
        bytes.length ∧ codeError = false ∧ fcsFits bytes = true ∧ (List.range 8).find? (fun i => bit (d.get (0x3200 +
        p.val) 0x10) i && whistleFits (d.storedDomain (0x3200 + p.val) (0x11 + i)) bytes) = some i) :=
  ⟨⟨at0 ({ svc with ports := [(0, { linkUp := true })] }), _, 0, (withFcs (List.replicate 60 0)), 0, false, (0 : Fin
        5), _, rfl, by decide +kernel, by decide +kernel, by decide +kernel, by decide +kernel, by decide +kernel, by
        decide +kernel, by decide +kernel, rfl⟩,
    ⟨at0 ({ svc with ports := [(0, { linkUp := true })] }), _, 0, [], (0 : Fin 5), rfl, by decide +kernel, by
        decide +kernel, by decide +kernel, by decide +kernel⟩,
    ⟨at0 (svc), _, 0, (0 : Fin 5), rfl, by decide +kernel, .inl rfl, by decide +kernel⟩,
    ⟨at0 (svc.put 0x3210 1 1), _, 0, 0, _, rfl, by decide +kernel, by decide +kernel, rfl⟩,
    ⟨at0 ({ svc with ports := [(0, { linkUp := true })] }), _, 0, (0 : Fin 5), rfl, by decide +kernel, by
        decide +kernel, by decide +kernel, by decide +kernel, by decide +kernel⟩,
    ⟨at0
        ({ svc with ports := [(0, { stamps := [{ stamp := 1, queue := 2, number := 3, gap := false, lost := 0 }] })] }),
        _, 0, .hlb, 0, { stamp := 1, queue := 2, number := 3, gap := false, lost := 0 }, [], rfl, ⟨by decide +kernel,
        by decide +kernel⟩, by decide +kernel⟩,
    ⟨at0 (whistler), _, 0, 0, (withFcs (List.replicate 60 0)), 5, false, 0, rfl, by decide +kernel, by decide +kernel,
        by decide +kernel, by decide +kernel, by decide +kernel, by decide +kernel, by decide +kernel, by
        decide +kernel⟩⟩

/-- The hypotheses of `Obligations.RopeSessions` are met, clause by clause. -/
theorem wit_RopeSessions :
    (∃ (s : State) (d : Dev) (t : Nat) (f : RopeFrame) (b : List Byte) (n : Option Nat) (e : Dev) (g : Dev), d = s.at
        t ∧ d.coreOn = true ∧ d.ropeIn f = .take b n ∧ frameType f = 0x01 ∧ e = d.heard n ∧ (e.team.peerKnown = false
        ∨ e.team.peerEpoch = beAt b 40 4) ∧ e.team.formed = false ∧ g =
        ({ e with team := { e.team with peerKnown := true, peerEpoch := beAt b 40 4, partnerRole := roleOf (beAt b 0 1), partnerB := some (frameSenderB f) } }
        : Dev).put 0x2600 5 (beAt b 28 2)) ∧
    (∃ (s : State) (d : Dev) (t : Nat) (f : RopeFrame) (b : List Byte) (n : Option Nat) (e : Dev), d = s.at t ∧
        d.coreOn = true ∧ d.ropeIn f = .take b n ∧ frameType f = 0x02 ∧ e = d.heard n) ∧
    (∃ (s : State) (d : Dev) (t : Nat), d = s.at t ∧ d.coreOn = true ∧ d.team.formed = false ∧ d.inTeam = true ∧
        d.ropeSends = true ∧ d.team.session = true ∧ d.team.lastHello + msCycles ≤ d.now) ∧
    (∃ (s : State) (d : Dev) (t : Nat), d = s.at t ∧ d.coreOn = true ∧ d.inTeam = true) ∧
    (∃ (s : State) (d : Dev) (t : Nat), d = s.at t ∧ d.coreOn = true ∧ d.team.rope = false ∧ d.ropeSeen = true) ∧
    (∃ (s : State) (d : Dev) (t : Nat) (linkDown : Bool) (e : Dev), d = s.at t ∧ d.coreOn = true ∧ d.team.rope = true
        ∧ linkDown = false ∧ d.team.lastRope + 60 * usCycles < d.now ∧ e =
        { d with team := { d.team with rope := false, beats := 0 } }) ∧
    (∃ (s : State) (d : Dev) (t : Nat) (linkDown : Bool) (e : Dev) (f : Dev), d = s.at t ∧ d.coreOn = true ∧
        d.team.rope = true ∧ linkDown = true ∧ e =
        { d with team := { d.team with rope := false, ropeLink := false, beats := 0 } } ∧ f = e.setPort 4
        { e.port 4 with link := 0 }) :=
  ⟨⟨at0 (mate .standby), _, 0, (rope 0x01 (List.replicate 44 0)), List.replicate 44 0, none, _, _, rfl, by
        decide +kernel, by decide +kernel, by decide +kernel, rfl, .inl rfl, by decide +kernel, rfl⟩,
    ⟨at0 (mate .standby), _, 0, (rope 0x02 (List.replicate 8 0)), List.replicate 8 0, none, _, rfl, by decide +kernel,
        by decide +kernel, by decide +kernel, rfl⟩,
    ⟨at0 ({ mate .active with now := 8000000, team := { (mate .active).team with session := true } }), _, 0, rfl, by
        decide +kernel, by decide +kernel, by decide +kernel, by decide +kernel, by decide +kernel, by decide +kernel⟩,
    ⟨at0 (mate .active), _, 0, rfl, by decide +kernel, by decide +kernel⟩,
    ⟨at0 ({ svc with team := { svc.team with ropeLink := true, beats := 8 } }), _, 0, rfl, by decide +kernel, by
        decide +kernel, by decide +kernel⟩,
    ⟨at0 ({ mate .active with now := 8000000 }), _, 0, false, _, rfl, by decide +kernel, by decide +kernel, rfl, by
        decide +kernel, rfl⟩,
    ⟨at0 (mate .active), _, 0, true, _, _, rfl, by decide +kernel, by decide +kernel, rfl, rfl, rfl⟩⟩

/-- The hypotheses of `Obligations.PathChanges` are met, clause by clause. -/
theorem wit_PathChanges :
    (∃ (s : State) (d : Dev) (t : Nat) (edge : Nat), d = s.at t ∧ d.coreOn = true ∧ d.team.alive = true ∧ d.team.role
        ≠ .active ∧ edge + 40 * usCycles < d.now) ∧
    (∃ (s : State) (d : Dev) (t : Nat) (edge : Nat) (e : Dev), d = s.at t ∧ d.coreOn = true ∧ d.team.alive = true ∧
        d.team.role = .active ∧ edge + 40 * usCycles < d.now ∧
        ({ d with team := { d.team with alive := false, lastAlive := edge } } : Dev).runDegraded = e ∧ e.team.rope =
        true) ∧
    (∃ (s : State) (d : Dev) (t : Nat), d = s.at t ∧ d.coreOn = true) ∧
    (∃ (s : State) (d : Dev) (t : Nat), d = s.at t ∧ d.coreOn = true) ∧
    (∃ (s : State) (d : Dev) (t : Nat), d = s.at t ∧ d.coreOn = true ∧ d.team.joining = none ∧ d.team.role ≠ .active) ∧
    (∃ (s : State) (d : Dev) (t : Nat), d = s.at t ∧ d.coreOn = true ∧ d.team.backbone = true ∧ d.team.beaconDue <
        d.stamp) ∧
    (∃ (s : State) (d : Dev) (t : Nat), d = s.at t ∧ d.inService = true ∧ d.loops.any = false ∧ d.team.role ≠ .none ∧
        d.team.role ≠ .hold) :=
  ⟨⟨at0 ({ mate .standby with now := 8000000 }), _, 0, 0, rfl, by decide +kernel, by decide +kernel, by
        decide +kernel, by decide +kernel⟩,
    ⟨at0 ({ mate .active with now := 8000000 }), _, 0, 0, _, rfl, by decide +kernel, by decide +kernel, by
        decide +kernel, by decide +kernel, rfl, by decide +kernel⟩,
    ⟨at0 (svc), _, 0, rfl, by decide +kernel⟩,
    ⟨at0 (svc), _, 0, rfl, by decide +kernel⟩,
    ⟨at0 (svc), _, 0, rfl, by decide +kernel, by decide +kernel, by decide +kernel⟩,
    ⟨at0 ({ svc with now := 8000000, team := { svc.team with backbone := true } }), _, 0, rfl, by decide +kernel, by
        decide +kernel, by decide +kernel⟩,
    ⟨at0 (svc), _, 0, rfl, by decide +kernel, by decide +kernel, by decide +kernel, by decide +kernel⟩⟩

/-- The hypotheses of `Obligations.Claims` are met, clause by clause. -/
theorem wit_Claims :
    (∃ (s : State) (d : Dev) (t : Nat) (a : Nat), d = s.at t ∧ d.coreOn = true ∧ d.team.joining = some a ∧ a + d.get
        0x2600 3 * usCycles < d.now) ∧
    (∃ (s : State) (d : Dev) (t : Nat) (asserted : Bool) (a : Nat) (lastRow : Bool) (warm : Bool) (cold : Bool), d =
        s.at t ∧ d.coreOn = true ∧ d.team.claiming = some (a, lastRow, warm, cold) ∧ a + 2 * usCycles ≤ d.now ∧
        asserted = false) ∧
    (∃ (s : State) (d : Dev) (t : Nat) (a : Nat), d = s.at t ∧ d.coreOn = true ∧ d.team.retry = some a ∧ a + 100 *
        usCycles ≤ d.now ∧ d.team.claimIn = false ∧ (d.team.role = .isolated → d.team.refused = false ∧
        d.requestPending = false ∧ d.team.alive = false)) ∧
    (∃ (s : State) (d : Dev) (t : Nat) (e : Dev), d = s.at t ∧ d.coreOn = true ∧ d.team.role ≠ .hold ∧ e =
        ((d.mirrorEnd.clearShadow.setRole .hold).endSession).dropQueued) :=
  ⟨⟨at0 ({ svc with now := secCycles, team := { svc.team with joining := some 0 } }), _, 0, 0, rfl, by
        decide +kernel, by decide +kernel, by decide +kernel⟩,
    ⟨at0 ({ svc with now := secCycles, team := { svc.team with claiming := some (0, false, true, false) } }), _, 0,
        false, 0, false, true, false, rfl, by decide +kernel, by decide +kernel, by decide +kernel, by decide +kernel⟩,
    ⟨at0 ({ svc with now := secCycles, team := { svc.team with retry := some 0, role := .isolated } }), _, 0, 0, rfl,
        by decide +kernel, by decide +kernel, by decide +kernel, by decide +kernel, fun _ => by decide +kernel⟩,
    ⟨at0 (svc), _, 0, _, rfl, by decide +kernel, by decide +kernel, rfl⟩⟩

/-- The hypotheses of `Obligations.DiscreteOutputs` are met, clause by clause. -/
theorem wit_DiscreteOutputs :
    (∃ (s : State) (d : Dev) (t : Nat) (tr : Transport) (n : Fin 16) (v : Byte) (e : Dev), d = (s.at t).accessBegins tr ∧ Accepted d tr
        (0x3300 + n.val) 1 v.toNat ∧ (d.disc n.val).pulse = none ∧ (d.disc n.val).held = none ∧ d.leads = true ∧
        d.loops.any = false ∧ e = (d.put (0x3300 + n.val) 1 v.toNat).put (0x3300 + n.val) 3 0) ∧
    (∃ (s : State) (d : Dev) (t : Nat) (n : Fin 16) (b : Bool) (w : Nat), d = s.at t ∧ d.coreOn = true ∧ (d.disc
        n.val).pulse = some (b, w) ∧ w ≤ d.now ∧ (d.disc n.val).held = none) ∧
    (∃ (s : State) (d : Dev) (t : Nat) (n : Fin 16) (b : Bool) (e : Dev), d = s.at t ∧ d.coreOn = true ∧ (d.disc
        n.val).held = some b ∧ (d.disc n.val).pulse = none ∧ (d.disc n.val).ready ≤ d.now ∧ d.leads = true ∧ d.loops.any =
        false ∧ e = d.setDisc n.val {}) :=
  ⟨⟨at0 (svc), _, 0, .hlb, 0, 1, _, rfl, ⟨by decide +kernel, by decide +kernel⟩, by decide +kernel, by decide +kernel, by
      decide +kernel, by decide +kernel, rfl⟩,
    ⟨at0 ({ svc with discrete := [(0, { pulse := some (true, 0) })] }), _, 0, 0, true, 0, rfl, by decide +kernel, by
        decide +kernel, by decide +kernel, by decide +kernel⟩,
    ⟨at0 ({ svc with discrete := [(0, { held := some true })] }), _, 0, 0, true, _, rfl, by decide +kernel, by
        decide +kernel, by decide +kernel, by decide +kernel, by decide +kernel, by decide +kernel, rfl⟩⟩

/-- The hypotheses of `Obligations.ModeChanges` are met, clause by clause. -/
theorem wit_ModeChanges :
    (∃ (s : State) (d : Dev) (t : Nat) (tr : Transport) (target : Word64) (e : Dev), d = (s.at t).accessBegins tr ∧
        Accepted d tr 0x2020 4 target.toNat ∧ d.get 0x2020 5 = 0 ∧ e = d.clearAlert 0xA308 ∧ e.get 0x2020 5 = 0 ∧
        e.leads = true ∧ e.team.change = none ∧ e.hasMode (e.get 0x2020 3) = true ∧ target.toNat % e.legPu = 0 ∧ e.leg
        + 2 * e.legPu ≤ target.toNat) ∧
    (∃ (s : State) (d : Dev) (t : Nat) (tr : Transport) (target : Word64) (e : Dev), d = (s.at t).accessBegins tr ∧
        Accepted d tr 0x2020 4 target.toNat ∧ d.get 0x2020 5 = 1 ∧ e = d.clearAlert 0xA308 ∧ e.get 0x2020 5 = 1 ∧
        e.leads = true ∧ e.isMaster = true ∧ e.team.change = none ∧ e.hasMode (e.get 0x2020 3) = true ∧ target.toNat %
        e.legPu = 0 ∧ e.pitch.num + 4 ≤ target.toNat / 2 ^ 24) ∧
    (∃ (s : State) (d : Dev) (t : Nat) (f : RopeFrame) (b : List Byte) (n : Option Nat) (e : Dev) (m : ModeChange) (k
        : Dev) (g : Dev), d = s.at t ∧ d.coreOn = true ∧ d.ropeIn f = .take b n ∧ frameType f = 0x40 ∧ e = d.heard n ∧
        e.shadows = true ∧ m =
        { mode := beAt b 0 1, target := beAt b 8 8, epoch := beAt b 4 4, domain := beAt b 1 1 ≠ 0 } ∧ k = e.ropeSend
        0x41 (relayBody m) ∧ g = (if m.domain then { k with team := { k.team with lastDomain := some m } } else k) ∧
        g.get 0x2020 2 ≠ m.epoch ∧ g.modeMissed m.target = false) ∧
    (∃ (s : State) (d : Dev) (t : Nat) (f : RopeFrame) (b : List Byte) (n : Option Nat) (e : Dev), d = s.at t ∧
        d.coreOn = true ∧ d.ropeIn f = .take b n ∧ frameType f = 0x41 ∧ e = d.heard n) :=
  ⟨⟨at0 (svc), _, 0, .hlb, 0x8000, _, rfl, ⟨by decide +kernel, by decide +kernel⟩, by decide +kernel, rfl, by
        decide +kernel, by decide +kernel, by decide +kernel, by decide +kernel, by decide +kernel, by decide +kernel⟩,
    ⟨at0 ((svc.put 0x2020 5 1).put 0x2100 0x0E 1), _, 0, .hlb, 0x4000000, _, rfl, ⟨by decide +kernel, by
        decide +kernel⟩, by decide +kernel, rfl, by decide +kernel, by decide +kernel, by decide +kernel, by
        decide +kernel, by decide +kernel, by decide +kernel, by decide +kernel⟩,
    ⟨at0 (mate .standby), _, 0, (rope 0x40 (be 1 0 ++ be 1 0 ++ be 2 0 ++ be 4 5 ++ be 8 0x4000000)), (be 1 0 ++ be 1
        0 ++ be 2 0 ++ be 4 5 ++ be 8 0x4000000), none, _, _, _, _, rfl, by decide +kernel, by decide +kernel, by
        decide +kernel, rfl, by decide +kernel, rfl, rfl, rfl, by decide +kernel, by decide +kernel⟩,
    ⟨at0 (mate .active), _, 0, (rope 0x41 (be 1 0 ++ be 1 0 ++ be 2 0 ++ be 4 5 ++ be 8 0x4000000)), (be 1 0 ++ be 1 0
        ++ be 2 0 ++ be 4 5 ++ be 8 0x4000000), none, _, rfl, by decide +kernel, by decide +kernel, by decide +kernel,
        rfl⟩⟩

/-- The hypotheses of `Obligations.AdmitFrames` are met, clause by clause. -/
theorem wit_AdmitFrames :
    (∃ (s : State) (d : Dev) (t : Nat) (w : WaitRec) (ws : List WaitRec) (run : List WaitRec) (e : Dev), d = s.at t ∧
        d.coreOn = true ∧ d.mirror.waiting = w :: ws ∧ (60 ≤ (w :: ws).length ∨ w.since + 160 ≤ d.now) ∧ run = ((w ::
        ws).takeWhile (fun x => x.leg = w.leg)).take 60 ∧ e = (d.sendAdmit w.leg w.index (run.map (·.adm))).count
        0x2603 1 run.length) ∧
    (∃ (s : State) (d : Dev) (t : Nat) (f : RopeFrame) (b : List Byte) (n : Option Nat) (e : Dev) (l : Nat) (i : Nat)
        (m : Nat) (next : Nat) (fresh : List Nat) (g : Dev) (h : Dev), d = s.at t ∧ d.coreOn = true ∧ d.ropeIn f =
        .take b n ∧ frameType f = 0x10 ∧ e = d.heard n ∧ e.acknowledges (beAt b 0 8) = true ∧ l = beAt b 0 8 ∧ i =
        beAt b 8 4 ∧ m = beAt b 12 1 ∧ next = SMap.get (fun _ => 0) e.mirror.expect l ∧ i ≤ next ∧ 1 ≤ m ∧ m ≤ 60 ∧ 16
        + 24 * m ≤ b.length ∧ fresh = (List.range m).drop (next - i) ∧ g = fresh.foldl (fun d j => d.takeRecord l (i +
        j) (recordOf (slice b (16 + 24 * j) 24))) e ∧ h =
        ({ g with mirror := { g.mirror with expect := SMap.set (fun _ => 0) g.mirror.expect l (max next (i + m)) } } :
        Dev).count 0x2603 2 fresh.length) ∧
    (∃ (s : State) (d : Dev) (t : Nat) (f : RopeFrame) (b : List Byte) (n : Option Nat) (e : Dev), d = s.at t ∧
        d.coreOn = true ∧ d.ropeIn f = .take b n ∧ frameType f = 0x10 ∧ e = d.heard n ∧ (e.acknowledges (beAt b 0 8) =
        false ∨ SMap.get (fun _ => 0) e.mirror.expect (beAt b 0 8) < beAt b 8 4)) ∧
    (∃ (s : State) (d : Dev) (t : Nat) (f : RopeFrame) (b : List Byte) (n : Option Nat) (e : Dev) (g : Dev) (l : Nat)
        (i : Nat), d = s.at t ∧ d.coreOn = true ∧ d.ropeIn f = .take b n ∧ frameType f = 0x11 ∧ e = d.heard n ∧
        e.team.role = .active ∧ l = beAt b 0 8 ∧ i = beAt b 8 4 ∧ g = (e.mirror.admits.filter (fun a => a.1 = l ∧
        a.2.1 < i)).foldl (fun d a => d.histAdd 24 ((d.now - a.2.2) * 5 / 4 / 100)) e) ∧
    (∃ (s : State) (d : Dev) (t : Nat) (f : RopeFrame) (b : List Byte) (n : Option Nat) (e : Dev), d = s.at t ∧
        d.coreOn = true ∧ d.ropeIn f = .take b n ∧ frameType f = 0x11 ∧ e = d.heard n ∧ e.team.role ≠ .active) ∧
    (∃ (s : State) (d : Dev) (t : Nat) (l : Nat) (x : Nat) (y : Nat) (i : Nat) (z : AdmRec) (rs : List (Nat × Nat ×
        AdmRec)) (e : Dev), d = s.at t ∧ d.coreOn = true ∧ d.mirror.admits.find? (fun a => decide (a.2.2 + 5 *
        usCycles < d.now)) = some (l, x, y) ∧ rs = d.mirror.unacked.filter (fun u => u.1 = l) ∧ rs.head? = some (l, i,
        z) ∧ e = { d with mirror := { d.mirror with admits := d.mirror.admits.filter (fun a => !(a.1 = l)) } }) :=
  ⟨⟨at0 ({ mate .active with now := 160, mirror := { waiting := [waitRec] } }), _, 0, waitRec, [], _, _, rfl, by
        decide +kernel, by decide +kernel, .inr (by decide +kernel), rfl, rfl⟩,
    ⟨at0 ({ mate .standby with mirror := { ackFrom := some 0 } }), _, 0, (rope 0x10 (be 8 0 ++ be 4 0 ++ be 1 1 ++ be
        3 0 ++ be 8 0x4000000000000001 ++ be 8 2 ++ be 8 3)), (be 8 0 ++ be 4 0 ++ be 1 1 ++ be 3 0 ++ be 8
        0x4000000000000001 ++ be 8 2 ++ be 8 3), none, _, _, _, _, _, _, _, _, rfl, by decide +kernel, by
        decide +kernel, by decide +kernel, rfl, by decide +kernel, rfl, rfl, rfl, rfl, by decide +kernel, by
        decide +kernel, by decide +kernel, by decide +kernel, rfl, rfl, rfl⟩,
    ⟨at0 (mate .standby), _, 0, (rope 0x10 (List.replicate 16 0)), List.replicate 16 0, none, _, rfl, by
        decide +kernel, by decide +kernel, by decide +kernel, rfl, .inl (by decide +kernel)⟩,
    ⟨at0 ({ mate .active with now := 8000, mirror := { admits := [(0, 0, 0)] } }), _, 0, (rope 0x11 (be 8 0 ++ be 4 1
        ++ be 4 0)), (be 8 0 ++ be 4 1 ++ be 4 0), none, _, _, _, _, rfl, by decide +kernel, by decide +kernel, by
        decide +kernel, rfl, by decide +kernel, rfl, rfl, rfl⟩,
    ⟨at0 (mate .standby), _, 0, (rope 0x11 (List.replicate 16 0)), List.replicate 16 0, none, _, rfl, by
        decide +kernel, by decide +kernel, by decide +kernel, rfl, by decide +kernel⟩,
    ⟨at0
        ({ mate .active with now := 4001, mirror := { admits := [(0, 0, 0)], unacked := [(0, 0, { mark := 0, gsid := 1, seq := 1, stamp := 1, digest := 1 })] } }),
        _, 0, 0, 0, 0, 0, { mark := 0, gsid := 1, seq := 1, stamp := 1, digest := 1 }, _, _, rfl, by decide +kernel,
        by decide +kernel, rfl, by decide +kernel, rfl⟩⟩

/-- The hypotheses of `Obligations.RecordsOrphansAndCairns` are met, clause by clause. -/
theorem wit_RecordsOrphansAndCairns :
    (∃ (s : State) (d : Dev) (t : Nat) (rs : List RecvRec) (e : Dev) (g : Dev) (k : Nat), d = s.at t ∧ d.coreOn = true
        ∧ d.shadows = true ∧ rs = d.mirror.recv.filter (fun r => r.state = 0 ∧ r.leg ≤ d.leg ∧ r.arrived + 2400 <
        d.now) ∧ rs ≠ [] ∧ e = rs.foldl (fun d r => d.setRecv { r with state := 2 }) d ∧ k = e.mirror.unheldLeg +
        rs.length ∧ g = ({ e with mirror := { e.mirror with unheldLeg := k } } : Dev).count 0x2603 5 rs.length) ∧
    (∃ (s : State) (d : Dev) (t : Nat) (due : Shadow → Bool), d = s.at t ∧ d.coreOn = true ∧ d.shadows = true ∧ due =
        (fun (x : Shadow) => decide (x.leg + (x.prop.defer + 1) * d.legPu < d.leg) || (decide (x.leg + (x.prop.defer +
        1) * d.legPu = d.leg) && decide (d.legAt + 10 * usCycles < d.now)))) ∧
    (∃ (s : State) (d : Dev) (t : Nat) (f : RopeFrame) (b : List Byte) (n : Option Nat) (e : Dev), d = s.at t ∧
        d.coreOn = true ∧ d.ropeIn f = .take b n ∧ frameType f = 0x18 ∧ e = d.heard n ∧ e.team.role = .standby ∧ beAt
        b 0 8 = e.leg - e.legPu ∧ e.cairnDiffers b = (false, false, false, false)) ∧
    (∃ (s : State) (d : Dev) (t : Nat), d = s.at t ∧ d.coreOn = true ∧ (d.team.role = .standby ∨ d.mirror.cairnDue =
        some (d.leg - d.legPu)) ∧ d.mirror.cairnLeg ≠ some (d.leg - d.legPu) ∧ d.mirror.missedLeg ≠ some (d.leg -
        d.legPu) ∧ d.legAt + 50 * usCycles < d.now) :=
  ⟨⟨at0
        ({ mate .standby with now := 9600, mirror := { recv := [{ leg := 0, index := 0, adm := { mark := 0, gsid := 1, seq := 1, stamp := 1, digest := 1 }, arrived := 0, state := 0, ownSeq := 0, part := 0, copy := none }] } }),
        _, 0, _, _, _, _, rfl, by decide +kernel, by decide +kernel, rfl, by decide +kernel, rfl, rfl, rfl⟩,
    ⟨at0 (mate .standby), _, 0, _, rfl, by decide +kernel, by decide +kernel, rfl⟩,
    ⟨at0 (mate .standby), _, 0, (rope 0x18 (List.replicate 48 0)), List.replicate 48 0, none, _, rfl, by
        decide +kernel, by decide +kernel, by decide +kernel, rfl, by decide +kernel, by decide +kernel, by
        decide +kernel⟩,
    ⟨at0 ({ mate .standby with now := secCycles }), _, 0, rfl, by decide +kernel, .inl (by decide +kernel), by
        decide +kernel, by decide +kernel, by decide +kernel⟩⟩

/-- The hypotheses of `Obligations.MirrorDeltas` are met, clause by clause. -/
theorem wit_MirrorDeltas :
    (∃ (s : State) (d : Dev) (t : Nat) (f : RopeFrame) (b : List Byte) (n : Option Nat) (e : Dev) (x : Delta), d =
        s.at t ∧ d.coreOn = true ∧ d.ropeIn f = .take b n ∧ frameType f = 0x20 ∧ e = d.heard n ∧ e.shadows = true ∧
        e.team.claiming = none ∧ x = deltaOf b ∧ x.seq = e.mirror.deltaIn ∧ x.cont = false) ∧
    (∃ (s : State) (d : Dev) (t : Nat) (f : RopeFrame) (b : List Byte) (n : Option Nat) (e : Dev), d = s.at t ∧
        d.coreOn = true ∧ d.ropeIn f = .take b n ∧ frameType f = 0x21 ∧ e = d.heard n ∧ e.team.role = .active) ∧
    (∃ (s : State) (d : Dev) (t : Nat) (y : Delta) (ys : List Delta) (ds : List Delta), d = s.at t ∧ d.coreOn = true ∧
        d.mirror.deltas = y :: ys ∧ y.sent + 5 * usCycles < d.now ∧ d.mirrors = true ∧ ds = (y :: ys).map (fun z =>
        { z with sent := d.now })) :=
  ⟨⟨at0 (mate .standby), _, 0, (rope 0x20 (List.replicate 16 0)), List.replicate 16 0, none, _, _, rfl, by
        decide +kernel, by decide +kernel, by decide +kernel, rfl, by decide +kernel, by decide +kernel, rfl, by
        decide +kernel, by decide +kernel⟩,
    ⟨at0 (mate .active), _, 0, (rope 0x21 (List.replicate 8 0)), List.replicate 8 0, none, _, rfl, by decide +kernel,
        by decide +kernel, by decide +kernel, rfl, by decide +kernel⟩,
    ⟨at0
        ({ mate .active with now := 4001, team := { (mate .active).team with formed := true }, mirror := { deltas := [{ seq := 0, seg := 0, version := 1, offset := 0, cont := false, data := [0] }] } }),
        _, 0, { seq := 0, seg := 0, version := 1, offset := 0, cont := false, data := [0] }, [], _, rfl, by
        decide +kernel, by decide +kernel, by decide +kernel, by decide +kernel, rfl⟩⟩

/-- The hypotheses of `Obligations.AuditsAndDarning` are met, clause by clause. -/
theorem wit_AuditsAndDarning :
    (∃ (s : State) (d : Dev) (t : Nat) (f : RopeFrame) (b : List Byte) (n : Option Nat) (e : Dev), d = s.at t ∧
        d.coreOn = true ∧ d.ropeIn f = .take b n ∧ frameType f = 0x22 ∧ e = d.heard n ∧ e.shadows = true ∧ e.segHeld
        (beAt b 0 4) = true ∧ e.segVersion (beAt b 0 4) < beAt b 4 4) ∧
    (∃ (s : State) (d : Dev) (t : Nat) (f : RopeFrame) (b : List Byte) (n : Option Nat) (e : Dev), d = s.at t ∧
        d.coreOn = true ∧ d.ropeIn f = .take b n ∧ frameType f = 0x34 ∧ e = d.heard n ∧ e.mirrors = true) ∧
    (∃ (s : State) (d : Dev) (t : Nat) (f : RopeFrame) (b : List Byte) (n : Option Nat) (e : Dev) (g : Dev) (h : Dev),
        d = s.at t ∧ d.coreOn = true ∧ d.ropeIn f = .take b n ∧ frameType f = 0x30 ∧ e = d.heard n ∧ e.team.role =
        .darning ∧ g = ((e.put 0x2020 2 (beAt b 4 4)).put 0x2020 1 (beAt b 8 1)).adoptGeneration (beAt b 0 4) ∧ h =
        { g with slots := (g.slots.map (fun x => (x.1, { x.2 with fromActive := false }))).filter (fun x => x.2 ≠ ({} : Slot)), team := { g.team with change := none }, mirror := { g.mirror with held := [], versions := [], pieces := [], requested := [], run := [], darnStart := g.now, darnLegL := none, cairnCheck := none, cairnDeltas := none, ackFrom := some (g.mirror.ackFrom.getD (g.plan.leg + g.legPu)) } }) ∧
    (∃ (s : State) (d : Dev) (t : Nat) (f : RopeFrame) (b : List Byte) (n : Option Nat) (e : Dev) (x : Delta), d =
        s.at t ∧ d.coreOn = true ∧ d.ropeIn f = .take b n ∧ frameType f = 0x31 ∧ e = d.heard n ∧ e.shadows = true ∧ x
        = deltaOf b ∧ x.seq = 0 ∧ x.offset = 0 ∧ x.data.length = segSize x.seg) ∧
    (∃ (s : State) (d : Dev) (t : Nat) (f : RopeFrame) (b : List Byte) (n : Option Nat) (e : Dev) (g : Dev), d = s.at
        t ∧ d.coreOn = true ∧ d.ropeIn f = .take b n ∧ frameType f = 0x32 ∧ e = d.heard n ∧ e.mirrors = true ∧
        e.mirror.darnWait.contains (beAt b 0 4) = true ∧ e.mirror.darning = true ∧ g =
        { e with mirror := { e.mirror with darnWait := e.mirror.darnWait.filter (· ≠ beAt b 0 4), peerHeld := if e.mirror.peerHeld.contains (beAt b 0 4) then e.mirror.peerHeld else e.mirror.peerHeld ++ [beAt b 0 4] } }) ∧
    (∃ (s : State) (d : Dev) (t : Nat) (f : RopeFrame) (b : List Byte) (n : Option Nat) (e : Dev), d = s.at t ∧
        d.coreOn = true ∧ d.ropeIn f = .take b n ∧ frameType f = 0x33 ∧ e = d.heard n ∧ e.team.role = .darning ∧ e.get
        0x2604 1 = 1) ∧
    (∃ (s : State) (d : Dev) (t : Nat) (l : Nat), d = s.at t ∧ d.coreOn = true ∧ d.mirror.darnLegL = some l ∧
        d.mirrors = true ∧ d.mirror.darning = true ∧ d.team.partnerRole = .darning ∧ l + d.legPu = d.leg ∧ d.legAt +
        70 * usCycles < d.now) ∧
    (∃ (s : State) (d : Dev) (t : Nat) (l : Nat) (v : Nat) (i : Nat) (x : List Byte) (y : List Byte) (ys : List (List
        Byte)), d = s.at t ∧ d.coreOn = true ∧ d.mirror.darning = true ∧ d.mirrors = true ∧ d.mirror.darnNow = some
        (l, v, i) ∧ d.mirror.darnPieces = x :: y :: ys) :=
  ⟨⟨at0 ({ mate .standby with mirror := { held := [(0, true)] } }), _, 0, (rope 0x22 (be 4 0 ++ be 4 9)), (be 4 0 ++
        be 4 9), none, _, rfl, by decide +kernel, by decide +kernel, by decide +kernel, rfl, by decide +kernel, by
        decide +kernel, by decide +kernel⟩,
    ⟨at0 ({ mate .active with team := { (mate .active).team with formed := true } }), _, 0, (rope 0x34 (List.replicate
        8 0)), List.replicate 8 0, none, _, rfl, by decide +kernel, by decide +kernel, by decide +kernel, rfl, by
        decide +kernel⟩,
    ⟨at0 (mate .darning), _, 0, (rope 0x30 (List.replicate 24 0)), List.replicate 24 0, none, _, _, _, rfl, by
        decide +kernel, by decide +kernel, by decide +kernel, rfl, by decide +kernel, rfl, rfl⟩,
    ⟨at0 (mate .darning), _, 0, (rope 0x31 (pieceBody 0 0 1 0 false (List.replicate 128 0))), pieceBody 0 0 1 0 false
        (List.replicate 128 0), none, _, _, rfl, by decide +kernel, by decide +kernel, by decide +kernel, rfl, by
        decide +kernel, rfl, by decide +kernel, by decide +kernel, by decide +kernel⟩,
    ⟨at0
        ({ mate .active with team := { (mate .active).team with formed := true }, mirror := { darnWait := [0], darning := true } }),
        _, 0, (rope 0x32 (List.replicate 8 0)), List.replicate 8 0, none, _, _, rfl, by decide +kernel, by
        decide +kernel, by decide +kernel, rfl, by decide +kernel, by decide +kernel, by decide +kernel, rfl⟩,
    ⟨at0 ((mate .darning).put 0x2604 1 1), _, 0, (rope 0x33 (List.replicate 8 0)), List.replicate 8 0, none, _, rfl,
        by decide +kernel, by decide +kernel, by decide +kernel, rfl, by decide +kernel, by decide +kernel⟩,
    ⟨at0
        ({ mate .active with now := 1600000, legAt := 800000, team := { (mate .active).team with formed := true, partnerRole := .darning }, mirror := { darning := true, darnLegL := some 0x4000 } }),
        _, 0, 0x4000, rfl, by decide +kernel, by decide +kernel, by decide +kernel, by decide +kernel, by
        decide +kernel, by decide +kernel, by decide +kernel⟩,
    ⟨at0
        ({ mate .active with team := { (mate .active).team with formed := true }, mirror := { darning := true, darnNow := some (0, 1, 0), darnPieces := [[0], [1]] } }),
        _, 0, 0, 1, 0, [0], [1], [], rfl, by decide +kernel, by decide +kernel, by decide +kernel, by decide +kernel,
        by decide +kernel⟩⟩

/-- The hypotheses of `Obligations.RelaysAndPatterns` are met, clause by clause. -/
theorem wit_RelaysAndPatterns :
    (∃ (s : State) (d : Dev) (t : Nat) (f : RopeFrame) (b : List Byte) (n : Option Nat) (e : Dev), d = s.at t ∧
        d.coreOn = true ∧ d.ropeIn f = .take b n ∧ frameType f = 0x50 ∧ e = d.heard n ∧ e.leads = true) ∧
    (∃ (s : State) (d : Dev) (t : Nat) (bs : List Bool) (x : Nat), d = s.at t ∧ d.coreOn = true ∧ bits d.loops.ports
        14 12 = 0 ∧ d.inTeam = true ∧ d.ropeSends = true ∧ d.team.lastSent + 10 * usCycles ≤ d.now ∧ prbs 2048
        d.mirror.prbsTx = (bs, x)) ∧
    (∃ (s : State) (d : Dev) (t : Nat) (f : RopeFrame) (b : List Byte) (n : Option Nat) (e : Dev), d = s.at t ∧
        d.coreOn = true ∧ d.ropeIn f = .take b n ∧ frameType f = 0x3F ∧ e = d.heard n ∧ e.mirror.prbsRx = none) :=
  ⟨⟨at0 (mate .active), _, 0, (rope 0x50 (List.replicate 12 0)), List.replicate 12 0, none, _, rfl, by
        decide +kernel, by decide +kernel, by decide +kernel, rfl, by decide +kernel⟩,
    ⟨at0 ({ mate .active with now := secCycles }), _, 0, (prbs 2048 ((at0 (mate .active)).at 0).mirror.prbsTx).1,
        (prbs 2048 ((at0 (mate .active)).at 0).mirror.prbsTx).2, rfl, by decide +kernel, by decide +kernel, by
        decide +kernel, by decide +kernel, by decide +kernel, paired _⟩,
    ⟨at0 (mate .active), _, 0, (rope 0x3F (List.replicate 256 0)), List.replicate 256 0, none, _, rfl, by
        decide +kernel, by decide +kernel, by decide +kernel, rfl, by decide +kernel⟩⟩

/-- The hypotheses of `Obligations.OdAccessRequests` are met, clause by clause. -/
theorem wit_OdAccessRequests :
    (∃ (s : State) (d : Dev) (t : Nat) (q : OdRequest) (peer : Nat) (r : OdRow) (e : Dev) (v : Nat), d = s.at t ∧
        Served d q peer ∧ bit (d.get 0x1C02 (peer + 1)) 0 = true ∧ d.enabled .od false = true ∧ d.readCheck .od q.idx
        q.sub = none ∧ dictFind q.idx q.sub = some r ∧ r.ty ≠ .domain ∧ q.len = r.ty.size ∧ d.readEntry .od q.idx
        q.sub = (e, v)) ∧
    (∃ (s : State) (d : Dev) (t : Nat) (q : OdRequest) (x : Outside) (peer : Nat) (e : Dev), d = s.at t ∧ Served d q
        peer ∧ bit (d.get 0x1C02 (peer + 1)) 1 = true ∧ d.enabled .od true = true ∧ d.writeAccess s.otp .od q.idx
        q.sub (slotAddress q.idx q.sub) (some q.len) (ofLe (q.data.take q.len)) x = ⟨e, none, none⟩) ∧
    (∃ (s : State) (d : Dev) (t : Nat) (q : OdRequest) (peer : Nat) (e : Dev) (bs : List Byte), d = s.at t ∧ Served d
        q peer ∧ bit (d.get 0x1C02 (peer + 1)) 0 = true ∧ d.enabled .od false = true ∧ d.odDomainCheck peer q false 0
        = none ∧ d.domainRead .od q.idx q.sub q.offset (min 1024 q.len) = (e, bs)) ∧
    (∃ (s : State) (d : Dev) (t : Nat) (q : OdRequest) (peer : Nat) (e : Dev) (bs : List Byte) (y : DomainPort), d =
        s.at t ∧ Served d q peer ∧ bit (d.get 0x1C02 (peer + 1)) 1 = true ∧ d.enabled .od true = true ∧ bs =
        (q.data.take q.len).take 1024 ∧ d.odDomainCheck peer q true (q.offset + bs.length) = none ∧ e = d.odTarget
        peer q ∧ y = e.dom.get .od) ∧
    (∃ (s : State) (d : Dev) (t : Nat) (q : OdRequest) (peer : Nat), d = s.at t ∧ Served d q peer ∧ bit (d.get 0x1C02
        (peer + 1)) 1 = true ∧ d.enabled .od true = true ∧ d.odDomainCheck peer q true (d.dom.get .od).len = none ∧
        (d.dom.get .od).status = 1 ∧ (d.dom.get .od).target = q.idx % 65536 * 256 + q.sub % 256 ∧ ((d.domCommit
        .od).dom.get .od).status = 2) ∧
    (∃ (s : State) (d : Dev) (t : Nat) (q : OdRequest) (peer : Nat), d = s.at t ∧ Served d q peer ∧ bit (d.get 0x1C02
        (peer + 1)) 1 = true ∧ d.enabled .od true = true ∧ d.odDomainCheck peer q true 0 = none) ∧
    (∃ (s : State) (d : Dev) (t : Nat) (q : OdRequest) (type : Byte) (peer : Nat), d = s.at t ∧ Served d q peer ∧ 6 <
        type.toNat ∧ (bit (d.get 0x1C02 (peer + 1)) 0 = true ∨ bit (d.get 0x1C02 (peer + 1)) 1 = true) ∧ (d.enabled
        .od false = true ∨ d.enabled .od true = true)) ∧
    (∃ (s : State) (d : Dev) (t : Nat) (peer : Nat) (q : OdRequest) (e : Dev), d = s.at t ∧ d.coreOn = true ∧
        (d.dom.get .od).status = 1 ∧ (d.dom.get .od).last + 1000 * msCycles < d.now ∧ d.odOpen = some (peer, q) ∧ e =
        { d with dom := d.dom.set .od { d.dom.get .od with written := [], len := 0, status := 0 }, odOpen := none }) :=
  ⟨⟨at0 (peerUnit), _, 0, odq, 0, (dictFind 0x2000 1).get (by decide), (at0 peerUnit).at 0, 3, rfl, ⟨by
        decide +kernel, by decide +kernel, by decide +kernel, by decide +kernel, by decide +kernel, by
        decide +kernel⟩, by decide +kernel, by decide +kernel, by decide +kernel, rfl, by decide +kernel, by
        decide +kernel, Prod.ext (by decide +kernel) (by decide +kernel)⟩,
    ⟨at0 (peerUnit), _, 0, { odq with idx := 0x2A03, len := 4, data := [5, 0, 0, 0] }, .quiet, 0, peerUnit.put 0x2A03
        1 5, rfl, ⟨by decide +kernel, by decide +kernel, by decide +kernel, by decide +kernel, by decide +kernel, by
        decide +kernel⟩, by decide +kernel, by decide +kernel, written (by decide +kernel) (by decide +kernel) (by
        decide +kernel)⟩,
    ⟨at0 (peerUnit), _, 0, { odq with idx := 0x2830, sub := 1, len := 16, data := List.replicate 16 0 }, 0, (((at0
        peerUnit).at 0).domainRead .od 0x2830 1 0 16).1, (((at0 peerUnit).at 0).domainRead .od 0x2830 1 0 16).2, rfl,
        ⟨by decide +kernel, by decide +kernel, by decide +kernel, by decide +kernel, by decide +kernel, by
        decide +kernel⟩, by decide +kernel, by decide +kernel, by decide +kernel, rfl⟩,
    ⟨at0 (peerUnit), _, 0, { odq with idx := 0x2830, sub := 1, len := 16, data := List.replicate 16 0 }, 0, _, _, _,
        rfl, ⟨by decide +kernel, by decide +kernel, by decide +kernel, by decide +kernel, by decide +kernel, by
        decide +kernel⟩, by decide +kernel, by decide +kernel, rfl, by decide +kernel, rfl, rfl⟩,
    ⟨at0
        ({ peerUnit with odOpen := some (0, odq), dom := peerUnit.dom.set .od { target := 0x283001, status := 1, written := [(0, List.replicate 16 0)], len := 16 } }),
        _, 0, { odq with idx := 0x2830, sub := 1, len := 16, data := List.replicate 16 0 }, 0, rfl, ⟨by
        decide +kernel, by decide +kernel, by decide +kernel, by decide +kernel, by decide +kernel, by
        decide +kernel⟩, by decide +kernel, by decide +kernel, by decide +kernel, by decide +kernel, by
        decide +kernel, by decide +kernel⟩,
    ⟨at0
        ({ peerUnit with odOpen := some (0, odq), dom := peerUnit.dom.set .od { target := 0x283001, status := 1, written := [(0, List.replicate 16 0)], len := 16 } }),
        _, 0, { odq with idx := 0x2830, sub := 1, len := 16, data := List.replicate 16 0 }, 0, rfl, ⟨by
        decide +kernel, by decide +kernel, by decide +kernel, by decide +kernel, by decide +kernel, by
        decide +kernel⟩, by decide +kernel, by decide +kernel, by decide +kernel⟩,
    ⟨at0 (peerUnit), _, 0, odq, 9, 0, rfl, ⟨by decide +kernel, by decide +kernel, by decide +kernel, by
        decide +kernel, by decide +kernel, by decide +kernel⟩, by decide +kernel, .inl (by decide +kernel), .inl (by
        decide +kernel)⟩,
    ⟨at0 ({ svc with now := 1000 * msCycles + 1, odOpen := some (0, odq), dom := svc.dom.set .od { status := 1 } }),
        _, 0, 0, odq, _, rfl, by decide +kernel, by decide +kernel, by decide +kernel, rfl, rfl⟩⟩

/-- The hypotheses of `Obligations.SerialReception` are met, clause by clause. -/
theorem wit_SerialReception :
    (∃ (s : State) (d : Dev) (t : Nat) (n : Fin 192) (samples : List Bool) (b : SerBits) (high : Bool) (ch : RxChar)
        (e : Dev), d = s.at t ∧ (d.serCh n.val).stuck = false ∧ d.serLoop n.val ≠ 1 ∧ d.serLoop n.val ≠ 2 ∧ d.serRuns
        n.val = true ∧ (d.serCh n.val).ka = false ∧ serSampled (d.serFormat n.val) (d.serCh n.val).high samples = some
        (b, high) ∧ serOutcome (d.serFormat n.val) b = some ch ∧ e = d.setSer n.val
        { d.serCh n.val with high := high } ∧ (e.serCh n.val).rxPend = false ∧ (e.serCh n.val).blind = false) ∧
    (∃ (s : State) (d : Dev) (t : Nat) (n : Fin 192) (samples : List Bool) (b : SerBits) (high : Bool) (ch : RxChar)
        (e : Dev), d = s.at t ∧ (d.serCh n.val).stuck = false ∧ d.serLoop n.val ≠ 1 ∧ d.serLoop n.val ≠ 2 ∧ d.serKa
        n.val = true ∧ (d.serCh n.val).ka = true ∧ serSampled (d.serFormat n.val) (d.serCh n.val).high samples = some
        (b, high) ∧ serOutcome (d.serFormat n.val) b = some ch ∧ e = d.setSer n.val
        { d.serCh n.val with high := high } ∧ (e.serCh n.val).rxPend = false ∧ (e.serCh n.val).blind = false) ∧
    (∃ (s : State) (d : Dev) (t : Nat) (n : Fin 192) (samples : List Bool) (b : SerBits) (high : Bool) (e : Dev), d =
        s.at t ∧ (d.serCh n.val).stuck = false ∧ d.serLoop n.val ≠ 1 ∧ d.serLoop n.val ≠ 2 ∧ (d.serRuns n.val = true ∨
        d.serKa n.val = true) ∧ serSampled (d.serFormat n.val) (d.serCh n.val).high samples = some (b, high) ∧ b.start
        = true ∧ e = d.setSer n.val { d.serCh n.val with high := high } ∧ (e.serCh n.val).rxPend = false ∧ (e.serCh
        n.val).blind = false) ∧
    (∃ (s : State) (d : Dev) (t : Nat) (n : Fin 192) (samples : List Bool), d = s.at t ∧ (d.serCh n.val).stuck = false
        ∧ d.serLoop n.val ≠ 1 ∧ d.serLoop n.val ≠ 2 ∧ (d.serRuns n.val = true ∨ d.serKa n.val = true) ∧ serSampled
        (d.serFormat n.val) (d.serCh n.val).high samples = none) ∧
    (∃ (s : State) (d : Dev) (t : Nat) (n : Fin 192) (edge : Nat) (e : Dev), d = s.at t ∧ (d.serCh n.val).stuck =
        false ∧ d.serRuns n.val = true ∧ (d.serCh n.val).ka = false ∧ edge + d.get (0x3000 + n.val) 6 * msCycles ≤
        d.now ∧ e = d.setSer n.val
        { d.serCh n.val with stuck := true, high := false, wakeBuf := if (d.serCh n.val).wakeHit.isSome then (d.serCh n.val).wakeBuf else [] }) ∧
    (∃ (s : State) (d : Dev) (t : Nat) (n : Fin 192) (edge : Nat) (buf : List (RxChar × Nat)) (e : Dev), d = s.at t ∧
        (d.serCh n.val).stuck = false ∧ d.serKa n.val = true ∧ (d.serCh n.val).ka = true ∧ edge + d.get (0x3000 +
        n.val) 6 * msCycles ≤ d.now ∧ buf = (if (d.serCh n.val).wakeHit.isSome then (d.serCh n.val).wakeBuf else []) ∧
        e = d.setSer n.val
        { d.serCh n.val with stuck := true, high := false, wakeBuf := buf, wakeCuts := (d.serCh n.val).wakeCuts ++ [buf.length] }) ∧
    (∃ (s : State) (d : Dev) (t : Nat) (n : Fin 192) (edge : Nat) (e : Dev), d = s.at t ∧ (d.serCh n.val).stuck = true
        ∧ edge + d.rxTime n.val 1 ≤ d.now ∧ d.pw.st ≠ .bivouac ∧ e = d.setSer n.val
        { d.serCh n.val with stuck := false, high := true }) ∧
    (∃ (s : State) (d : Dev) (t : Nat) (n : Fin 192) (edge : Nat) (e : Dev), d = s.at t ∧ (d.serCh n.val).stuck = true
        ∧ edge + d.rxTime n.val 1 ≤ d.now ∧ d.pw.st = .bivouac ∧ d.pw.armed = true ∧ n.val < 16 ∧ (d.serCh n.val).ka =
        false ∧ (d.serWake n.val = 2 ∨ d.serWake n.val = 3) ∧ d.serMode n.val ≠ 0 ∧ e = d.setSer n.val
        { d.serCh n.val with stuck := false, high := true }) :=
  ⟨⟨at0 (serUnit), _, 0, 0, samplesA, ⟨false, 0x41, false, false, true⟩, true, RxChar.plain 0x41, _, rfl, by
        decide +kernel, by decide +kernel, by decide +kernel, by decide +kernel, by decide +kernel, by decide +kernel,
        by decide +kernel, rfl, by decide +kernel, by decide +kernel⟩,
    ⟨at0 (wakeUnit 2), _, 0, 0, samplesA, ⟨false, 0x41, false, false, true⟩, true, RxChar.plain 0x41, _, rfl, by
        decide +kernel, by decide +kernel, by decide +kernel, by decide +kernel, by decide +kernel, by decide +kernel,
        by decide +kernel, rfl, by decide +kernel, by decide +kernel⟩,
    ⟨at0 (serUnit), _, 0, 0, spike, ⟨true, 0, false, false, false⟩, true, _, rfl, by decide +kernel, by
        decide +kernel, by decide +kernel, .inl (by decide +kernel), by decide +kernel, by decide +kernel, rfl, by
        decide +kernel, by decide +kernel⟩,
    ⟨at0 (serUnit), _, 0, 0, [true], rfl, by decide +kernel, by decide +kernel, by decide +kernel, .inl (by
        decide +kernel), by decide +kernel⟩,
    ⟨at0 ({ serUnit with now := secCycles }), _, 0, 0, 0, _, rfl, by decide +kernel, by decide +kernel, by
        decide +kernel, by decide +kernel, rfl⟩,
    ⟨at0 ({ wakeUnit 2 with now := secCycles }), _, 0, 0, 0, _, _, rfl, by decide +kernel, by decide +kernel, by
        decide +kernel, by decide +kernel, rfl, rfl⟩,
    ⟨at0 ({ serUnit with now := secCycles, ser := [(0, { stuck := true })] }), _, 0, 0, 0, _, rfl, by decide +kernel,
        by decide +kernel, by decide +kernel, rfl⟩,
    ⟨at0 ({ wakeUnit 2 with now := secCycles, ser := [(0, { stuck := true })] }), _, 0, 0, 0, _, rfl, by
        decide +kernel, by decide +kernel, by decide +kernel, by decide +kernel, by decide +kernel, by decide +kernel,
        .inl (by decide +kernel), by decide +kernel, rfl⟩⟩

/-- The hypotheses of `Obligations.SerialWake` are met, clause by clause. -/
theorem wit_SerialWake :
    (∃ (s : State) (d : Dev) (t : Nat) (n : Fin 192) (e : Dev), d = s.at t ∧ d.pw.st = .bivouac ∧ d.pw.armed = true ∧
        d.serWake n.val = 1 ∧ d.serMode n.val ≠ 0 ∧ (d.serCh n.val).stuck = false ∧ d.pw.wakeOut = false ∧
        d.pw.entryDone ≤ d.now ∧ e = (d.put 0x2001 6 (2 ^ 31 + (0xFF * 256 + n.val) % 2 ^ 16)).put 0x2001 7 d.stamp) ∧
    (∃ (s : State) (d : Dev) (t : Nat) (n : Fin 192) (r : Nat), d = s.at t ∧ d.pw.st = .bivouac ∧ (d.serCh
        n.val).wakeHit = some r ∧ (d.serCh n.val).ka = true ∧ (d.serCh n.val).wakeTold = false ∧ d.serWake n.val = 2) ∧
    (∃ (s : State) (d : Dev) (t : Nat) (n : Fin 192) (r : Nat), d = s.at t ∧ d.pw.st = .bivouac ∧ (d.serCh
        n.val).wakeHit = some r ∧ (d.serCh n.val).ka = true ∧ (d.serCh n.val).wakeTold = false ∧ d.serWake n.val = 3) ∧
    (∃ (s : State) (d : Dev) (t : Nat) (n : Fin 192) (x : SerCh) (e : Dev) (g : Dev) (feed : Dev → (RxChar × Nat) ×
        Nat → Dev), d = s.at t ∧ d.pw.st = .service ∧ d.serCh n.val = x ∧ x.ka = true ∧ e = d.setSer n.val
        { x with ka := false, wakeBuf := [], wakeHit := none, wakeTold := false, wakeCuts := [] } ∧
        feed = (fun (d : Dev) (c : (RxChar × Nat) × Nat) =>
          match (if x.wakeCuts.contains c.2 then d.endItem n.val else d).serMute n.val c.1.1 with
          | (d, false) => d
          | (d, true) =>
            if d.serMode n.val = 1 then d.feedChar n.val c.1.1 (d.stampBack c.1.2) 2 d.now
            else if d.serMode n.val = 2 then d.serDeliver n.val c.1.1 c.1.2
            else d) ∧ g = x.wakeBuf.zipIdx.foldl feed e) :=
  ⟨⟨at0 (wakeUnit 1), _, 0, 0, _, rfl, by decide +kernel, by decide +kernel, by decide +kernel, by decide +kernel, by
        decide +kernel, by decide +kernel, by decide +kernel, rfl⟩,
    ⟨at0 ({ wakeUnit 2 with ser := [(0, { ka := true, wakeHit := some 0 })] }), _, 0, 0, 0, rfl, by decide +kernel, by
        decide +kernel, by decide +kernel, by decide +kernel, by decide +kernel⟩,
    ⟨at0 ({ wakeUnit 3 with ser := [(0, { ka := true, wakeHit := some 0 })] }), _, 0, 0, 0, rfl, by decide +kernel, by
        decide +kernel, by decide +kernel, by decide +kernel, by decide +kernel⟩,
    ⟨at0 ({ serUnit with ser := [(0, { ka := true, wakeBuf := [(RxChar.plain 0x24, 0)], wakeCuts := [0] })] }), _, 0,
        0, _, _, _, _, rfl, by decide +kernel, rfl, by decide +kernel, rfl, rfl, rfl⟩⟩

/-- The hypotheses of `Obligations.SerialRegisters` are met, clause by clause. -/
theorem wit_SerialRegisters :
    (∃ (s : State) (d : Dev) (t : Nat) (tr : Transport) (n : Fin 192) (v : Word32), d = (s.at t).accessBegins tr ∧
        Accepted d tr (0x3000 + n.val) 2 v.toNat) ∧
    (∃ (s : State) (d : Dev) (t : Nat) (tr : Transport) (n : Fin 192), d = (s.at t).accessBegins tr ∧ d.reaches tr =
        true ∧ d.readCheck tr (0x3000 + n.val) 0x10 = none) ∧
    (∃ (s : State) (d : Dev) (t : Nat) (tr : Transport) (n : Fin 192) (ch : RxChar) (rest : List RxChar) (e : Dev), d
        = (s.at t).accessBegins tr ∧ d.reaches tr = true ∧ d.readCheck tr (0x3000 + n.val) 0x11 = none ∧ d.serMode
        n.val = 2 ∧ (d.serCh n.val).rx = ch :: rest ∧ (d.serCh n.val).statusRead.get tr = true ∧ e = d.setSer n.val
        { d.serCh n.val with statusRead := (d.serCh n.val).statusRead.set tr false } ∧ e.serMode n.val = 2 ∧
        (e.tunnelIn false n.val 0).isSome = false) ∧
    (∃ (s : State) (d : Dev) (t : Nat) (tr : Transport) (n : Fin 192) (v : BitVec 16), d = (s.at t).accessBegins tr ∧
        Accepted d tr (0x3000 + n.val) 0x13 v.toNat ∧ d.serMode n.val = 2 ∧ (d.serCh n.val).tx.length < 64) :=
  ⟨⟨at0 (svc), _, 0, .hlb, 0, 9600, rfl, ⟨by decide +kernel, by decide +kernel⟩⟩,
    ⟨at0 (svc), _, 0, .hlb, 0, rfl, by decide +kernel, by decide +kernel⟩,
    ⟨at0
        ({ svc.put 0x3000 1 2 with ser := [(0, { rx := [RxChar.plain 0x41], statusRead := ⟨true, false, false, false⟩ })] }),
        _, 0, .hlb, 0, RxChar.plain 0x41, [], _, rfl, by decide +kernel, by decide +kernel, by decide +kernel, by
        decide +kernel, by decide +kernel, rfl, by decide +kernel, by decide +kernel⟩,
    ⟨at0 (svc.put 0x3000 1 2), _, 0, .hlb, 0, 0x41, rfl, ⟨by decide +kernel, by decide +kernel⟩, by decide +kernel, by
        decide +kernel⟩⟩

/-- The hypotheses of `Obligations.SerialTransmission` are met, clause by clause. -/
theorem wit_SerialTransmission :
    (∃ (s : State) (d : Dev) (t : Nat) (n : Fin 192) (cts : Bool) (ch : Byte × Bool) (e : Dev) (g : Dev), d = s.at t ∧
        d.coreOn = true ∧ (d.serCh n.val).shift = some ch ∧ (d.serCh n.val).shiftRaw = true ∧ d.serLoop n.val = 0 ∧ e
        = (d.setSer n.val { d.serCh n.val with shift := none, txEnd := d.now, quiet := d.now }).ctsTold n.val cts ∧
        e.serLive n.val = true ∧ g = e.count (0x3000 + n.val) 0x28 ∧ g.serDrives n.val = true ∧ (g.emit (.serial n.val
        ch.1 ch.2)).serLoop n.val = 0) ∧
    (∃ (s : State) (d : Dev) (t : Nat) (n : Fin 192), d = s.at t ∧ d.coreOn = true ∧ (d.serCh n.val).shift.isSome =
        true ∧ d.serHdx n.val = true ∧ (d.serCh n.val).shiftRaw = true) ∧
    (∃ (s : State) (d : Dev) (t : Nat) (n : Fin 192) (w : Nat), d = s.at t ∧ d.coreOn = true ∧ (d.serCh
        n.val).waitUntil = some w ∧ w ≤ d.now) ∧
    (∃ (s : State) (d : Dev) (t : Nat) (n : Fin 192) (k : Nat) (st : Nat) (q : Nat) (w : Nat) (row : List Word32) (bs
        : List Byte), d = s.at t ∧ d.coreOn = true ∧ d.tunnelIn false n.val 0 = some (k, row) ∧ (d.serCh n.val).run =
        some (st, q, bs, w) ∧ w + d.rxTime n.val (fieldOf row 1 15 8) < d.now) ∧
    (∃ (s : State) (d : Dev) (t : Nat), d = s.at t ∧ d.coreOn = true) ∧
    (∃ (s : State) (d : Dev) (t : Nat) (n : Fin 192), d = s.at t ∧ d.coreOn = true ∧ (d.serCh n.val).de = true ∧
        (d.serCh n.val).shift = none ∧ (d.serCh n.val).txEnd + ceilDiv (d.serCh n.val).txDiv 4 ≤ d.now) :=
  ⟨⟨at0
        ({ svc.put 0x3000 1 2 with team := { svc.team with serOwn := true }, ser := [(0, { shift := some (0x41, false), shiftRaw := true })] }),
        _, 0, 0, false, (0x41, false), _, _, rfl, by decide +kernel, by decide +kernel, by decide +kernel, by
        decide +kernel, rfl, by decide +kernel, rfl, by decide +kernel, by decide +kernel⟩,
    ⟨at0
        ({ (svc.put 0x3000 1 2).put 0x3000 4 0x20 with team := { svc.team with serOwn := true }, ser := [(0, { shift := some (0x41, false), shiftRaw := true })] }),
        _, 0, 0, rfl, by decide +kernel, by decide +kernel, by decide +kernel, by decide +kernel⟩,
    ⟨at0 ({ svc with ser := [(0, { waitUntil := some 0 })] }), _, 0, 0, 0, rfl, by decide +kernel, by decide +kernel,
        by decide +kernel⟩,
    ⟨at0 ({ tunnelUnit with now := secCycles, ser := [(0, { run := some (1, 2, [3], 0) })] }), _, 0, 0, 0, 1, 2, 0,
        tunnelRow, [3], rfl, by decide +kernel, by decide +kernel, by decide +kernel, by decide +kernel⟩,
    ⟨at0 (svc), _, 0, rfl, by decide +kernel⟩,
    ⟨at0 ({ svc with now := secCycles, ser := [(0, { de := true })] }), _, 0, 0, rfl, by decide +kernel, by
        decide +kernel, by decide +kernel, by decide +kernel⟩⟩

/-- The hypotheses of `Obligations.CanBus` are met, clause by clause. -/
theorem wit_CanBus :
    (∃ (s : State) (d : Dev) (t : Nat) (n : Fin 16) (f : CanFrame) (e : Dev), d = s.at t ∧ d.coreOn = true ∧
        d.canOnBus n.val = true ∧ f.fdf = true ∧ d.canMode n.val = 2 ∧ d.canLoop n.val ≠ 1 ∧ e = (d.count (0x3100 +
        n.val) 0x28).sticky (0x3100 + n.val) 7 2) ∧
    (∃ (s : State) (d : Dev) (t : Nat) (n : Fin 16) (f : CanFrame) (e : Dev), d = s.at t ∧ d.coreOn = true ∧
        d.canOnBus n.val = true ∧ (f.fdf = true → d.canMode n.val ≠ 2) ∧ e = ((d.count (0x3100 + n.val)
        0x20).canRxGood n.val).canShadow n.val f ∧ d.isSdo n.val f = false ∧ e.isSdo n.val f = false ∧ d.canLoop n.val
        ≠ 1) ∧
    (∃ (s : State) (d : Dev) (t : Nat) (n : Fin 16) (f : CanFrame) (e : Dev), d = s.at t ∧ d.coreOn = true ∧
        d.canOnBus n.val = true ∧ (f.fdf = true → d.canMode n.val ≠ 2) ∧ e = ((d.count (0x3100 + n.val)
        0x20).canRxGood n.val).canShadow n.val f ∧ d.isSdo n.val f = true ∧ e.isSdo n.val f = true ∧ f.ident / 128 =
        12 ∧ d.canLoop n.val ≠ 1) ∧
    (∃ (s : State) (d : Dev) (t : Nat) (n : Fin 16) (f : CanFrame) (e : Dev) (g : Dev) (h : Dev), d = s.at t ∧
        d.coreOn = true ∧ (d.canCh n.val).tx = some (.prio, f) ∧ d.canLoop n.val = 0 ∧ e = d.setCan n.val
        { d.canCh n.val with tx := none } ∧ g = e.setCan n.val
        { e.canCh n.val with prio := (e.canCh n.val).prio.drop 1 } ∧ g.canIdle n.val = false ∧ h = ((g.count (0x3100 +
        n.val) 0x23).canDrive n.val f).canTxGood n.val ∧ h.canLoop
        n.val = 0) ∧
    (∃ (s : State) (d : Dev) (t : Nat) (n : Fin 16) (asTx : Bool) (x : CanFault) (tec : Nat) (rec : Nat) (e : Dev), d = s.at t ∧
        d.coreOn = true ∧ d.canOnBus n.val = true ∧ (d.canCh n.val).sleep ≠ .agreed ∧ faultCounts x asTx (d.canCh
        n.val).tx.isSome (d.canCh n.val).txErr (d.canCh n.val).rxErr = (tec, rec) ∧ tec ≤ 255 ∧ e = (if faultIsError x
        then d.count (0x3100 + n.val) 0x24 else d)) ∧
    (∃ (s : State) (d : Dev) (t : Nat) (n : Fin 16) (asTx : Bool) (x : CanFault) (tec : Nat) (rec : Nat) (e : Dev), d = s.at t ∧
        d.coreOn = true ∧ d.canOnBus n.val = true ∧ (d.canCh n.val).sleep ≠ .agreed ∧ faultCounts x asTx (d.canCh
        n.val).tx.isSome (d.canCh n.val).txErr (d.canCh n.val).rxErr = (tec, rec) ∧ 255 < tec ∧ e = (if faultIsError x
        then d.count (0x3100 + n.val) 0x24 else d)) ∧
    (∃ (s : State) (d : Dev) (t : Nat) (n : Fin 16) (_asTx : Bool) (x : CanFault), d = s.at t ∧ d.coreOn = true ∧ d.canOnBus n.val =
        true ∧ (d.canCh n.val).sleep = .agreed ∧ faultIsError x = true) ∧
    (∃ (s : State) (d : Dev) (t : Nat) (n : Fin 16), d = s.at t ∧ d.coreOn = true ∧ d.canOnBus n.val = true) ∧
    (∃ (s : State) (d : Dev) (t : Nat) (n : Fin 16) (edge : Nat) (e : Dev) (k : Nat), d = s.at t ∧ d.coreOn = true ∧
        (d.canCh n.val).stuck = false ∧ d.canPowered n.val = true ∧ edge + d.get (0x3100 + n.val) 5 * msCycles ≤ d.now
        ∧ d.canCustodyLoss n.val = (e, k)) ∧
    (∃ (s : State) (d : Dev) (t : Nat) (n : Fin 16) (edge : Nat) (e : Dev), d = s.at t ∧ d.coreOn = true ∧ (d.canCh
        n.val).stuck = true ∧ edge * 1250 + 11 * bitPs (d.get (0x3100 + n.val) 2) ≤ d.ps ∧ e = d.setCan n.val
        { d.canCh n.val with stuck := false } ∧ (List.range 16).any (fun m => (e.canCh m).stuck) = false) ∧
    (∃ (s : State) (d : Dev) (t : Nat) (tr : Transport) (n : Fin 16), d = (s.at t).accessBegins tr ∧ Accepted d tr
        (0x3100 + n.val) 8 1 ∧ (d.canCh n.val).busOff = true ∧ bit (d.get (0x3100 + n.val) 4) 1 = false) ∧
    (∃ (s : State) (d : Dev) (t : Nat) (n : Fin 16) (e : Dev), d = s.at t ∧ d.coreOn = true ∧ (d.canCh n.val).busOff =
        true ∧ (d.canCh n.val).recovering = true ∧ e = (d.setCan n.val
        { d.canCh n.val with busOff := false, recovering := false, sync := true }).canCounts n.val 0 0 ∧ (List.range
        16).any (fun m => (e.canCh m).busOff) = false) ∧
    (∃ (s : State) (d : Dev) (t : Nat) (n : Fin 16), d = s.at t ∧ d.coreOn = true ∧ d.canRuns n.val = true ∧ (d.canCh
        n.val).sync = false ∧ (d.canCh n.val).busOff = false) :=
  ⟨⟨at0 (canUnit), _, 0, 0, { canFrame with fdf := true }, _, rfl, by decide +kernel, by decide +kernel, by
        decide +kernel, by decide +kernel, by decide +kernel, rfl⟩,
    ⟨at0 (canUnit), _, 0, 0, canFrame, _, rfl, by decide +kernel, by decide +kernel, fun h => (nomatch h), rfl, by
        decide +kernel, by decide +kernel, by decide +kernel⟩,
    ⟨at0 ({ sdoUnit with can := [(0, { sync := true })] }), _, 0, 0,
        { canFrame with ident := 0x600 + sdoUnit.sdoNode }, _, rfl, by decide +kernel, by decide +kernel, fun h =>
        (nomatch h), rfl, by decide +kernel, by decide +kernel, by decide +kernel, by decide +kernel⟩,
    ⟨at0
        ({ canUnit with can := [(0, { sync := true, sleep := .asleep, tx := some (.prio, { ident := 1, ide := false, rtr := false, fdf := false, brs := false, esi := false, data := [] }) })] }),
        _, 0, 0, { ident := 1, ide := false, rtr := false, fdf := false, brs := false, esi := false, data := [] }, _,
        _, _, rfl, by decide +kernel, by decide +kernel, by decide +kernel, rfl, rfl, by decide +kernel, rfl, by
        decide +kernel⟩,
    ⟨at0 (canUnit), _, 0, 0, false, .error, 0, 1, _, rfl, by decide +kernel, by decide +kernel, by decide +kernel, by
        decide +kernel, by decide +kernel, rfl⟩,
    ⟨at0 ({ canUnit with can := [(0, { sync := true, txErr := 248, tx := some (.prio, canFrame) })] }), _, 0, 0,
        true, .error, 256, 0, _, rfl, by decide +kernel, by decide +kernel, by decide +kernel, by decide +kernel, by
        decide +kernel, rfl⟩,
    ⟨at0 ({ canUnit with can := [(0, { sync := true, sleep := .agreed })] }), _, 0, 0, false, .error, rfl, by
        decide +kernel, by decide +kernel, by decide +kernel, by decide +kernel⟩,
    ⟨at0 (canUnit), _, 0, 0, rfl, by decide +kernel, by decide +kernel⟩,
    ⟨at0 ({ canUnit with now := secCycles }), _, 0, 0, 0, (({ canUnit with now := secCycles } : Dev).canCustodyLoss
        0).1, (({ canUnit with now := secCycles } : Dev).canCustodyLoss 0).2, rfl, by decide +kernel, by
        decide +kernel, by decide +kernel, by decide +kernel, rfl⟩,
    ⟨at0 ({ svc with now := secCycles, can := [(0, { stuck := true })] }), _, 0, 0, 0, _, rfl, by decide +kernel, by
        decide +kernel, by decide +kernel, rfl, by decide +kernel⟩,
    ⟨at0 ({ svc.put 0x3100 4 0 with can := [(0, { busOff := true })] }), _, 0, .hlb, 0, rfl, ⟨by decide +kernel, by
        decide +kernel⟩, by decide +kernel, by decide +kernel⟩,
    ⟨at0 ({ svc with can := [(0, { busOff := true, recovering := true })] }), _, 0, 0, _, rfl, by decide +kernel, by
        decide +kernel, by decide +kernel, rfl, by decide +kernel⟩,
    ⟨at0 (svc.put 0x3100 1 2), _, 0, 0, rfl, by decide +kernel, by decide +kernel, by decide +kernel, by
        decide +kernel⟩⟩

/-- The hypotheses of `Obligations.EdgeSleep` are met, clause by clause. -/
theorem wit_EdgeSleep :
    (∃ (s : State) (d : Dev) (t : Nat) (tr : Transport) (n : Fin 16) (e : Dev), d = (s.at t).accessBegins tr ∧
        Accepted d tr (0x2C10 + n.val) 1 1 ∧ e = d.put (0x2C10 + n.val) 1 1 ∧ (e.canCh n.val).sleep = .awake) ∧
    (∃ (s : State) (d : Dev) (t : Nat) (tr : Transport) (n : Fin 16) (e : Dev), d = (s.at t).accessBegins tr ∧
        Accepted d tr (0x2C10 + n.val) 1 0 ∧ e = d.put (0x2C10 + n.val) 1 0 ∧ (e.canCh n.val).sleep = .armed) ∧
    (∃ (s : State) (d : Dev) (t : Nat) (tr : Transport) (n : Fin 16), d = (s.at t).accessBegins tr ∧ Accepted d tr
        (0x2C10 + n.val) 2 1 ∧ (d.canCh n.val).stuck = false ∧ (d.canCh n.val).sleep = .asleep) ∧
    (∃ (s : State) (d : Dev) (t : Nat) (n : Fin 16) (w : Nat), d = s.at t ∧ d.coreOn = true ∧ (d.canCh n.val).sleep =
        .armed ∧ (d.canCh n.val).reqBy = some w ∧ w < d.stamp ∧ (d.canCh n.val).custody = []) ∧
    (∃ (s : State) (d : Dev) (t : Nat) (n : Fin 16) (k : Nat), d = s.at t ∧ d.coreOn = true ∧ (d.canCh n.val).sleep =
        .armed ∧ (d.canCh n.val).reported = false ∧ (d.canCh n.val).reportBy ≤ d.stamp ∧ k = b2n (bit (d.nm n.val
        0x0C) 31) * 2 ^ 16 + d.nm n.val 0x0C % 256 * 256 + n.val) ∧
    (∃ (s : State) (d : Dev) (t : Nat) (n : Fin 16), d = s.at t ∧ d.coreOn = true ∧ (d.canCh n.val).sleep = .agreed ∧
        (d.canCh n.val).commitBy < d.stamp) ∧
    (∃ (s : State) (d : Dev) (t : Nat) (n : Fin 16), d = s.at t ∧ d.coreOn = true ∧ (d.canCh n.val).sleep = .committed
        ∧ (d.canCh n.val).windowBy < d.stamp) ∧
    (∃ (s : State) (d : Dev) (t : Nat) (n : Fin 16) (e : Dev), d = s.at t ∧ d.coreOn = true ∧ (d.canCh n.val).sleep =
        .committed ∧ d.stamp ≤ (d.canCh n.val).windowBy ∧ (d.canCh n.val).stuck = false ∧ e = d.count (0x2C10 + n.val)
        0x23) ∧
    (∃ (s : State) (d : Dev) (t : Nat) (n : Fin 16), d = s.at t ∧ d.pw.st = .bivouac ∧ d.nm n.val 0x0B ≠ 0 ∧
        d.pw.armed = true ∧ (d.canCh n.val).stuckThen = false) ∧
    (∃ (s : State) (d : Dev) (t : Nat) (n : Fin 16), d = s.at t ∧ d.coreOn = true ∧ (d.canCh n.val).sleep = .waking ∧
        (d.canCh n.val).validBy < d.stamp ∧ d.armed n.val = true) :=
  ⟨⟨at0 (canUnit), _, 0, .hlb, 0, _, rfl, ⟨by decide +kernel, by decide +kernel⟩, rfl, by decide +kernel⟩,
    ⟨at0 ({ canUnit with can := [(0, { sync := true, sleep := .armed })] }), _, 0, .hlb, 0, _, rfl, ⟨by
        decide +kernel, by decide +kernel⟩, rfl, by decide +kernel⟩,
    ⟨at0 ({ canUnit with can := [(0, { sleep := .asleep })] }), _, 0, .hlb, 0, rfl, ⟨by decide +kernel, by
        decide +kernel⟩, by decide +kernel, by decide +kernel⟩,
    ⟨at0 ({ canUnit with now := 8000000, can := [(0, { sync := true, sleep := .armed, reqBy := some 0 })] }), _, 0, 0,
        0, rfl, by decide +kernel, by decide +kernel, by decide +kernel, by decide +kernel, by decide +kernel⟩,
    ⟨at0 ({ canUnit with can := [(0, { sync := true, sleep := .armed })] }), _, 0, 0, _, rfl, by decide +kernel, by
        decide +kernel, by decide +kernel, by decide +kernel, rfl⟩,
    ⟨at0 ({ canUnit with now := 8000000, can := [(0, { sync := true, sleep := .agreed })] }), _, 0, 0, rfl, by
        decide +kernel, by decide +kernel, by decide +kernel⟩,
    ⟨at0 ({ canUnit with now := 8000000, can := [(0, { sleep := .committed })] }), _, 0, 0, rfl, by decide +kernel, by
        decide +kernel, by decide +kernel⟩,
    ⟨at0 ({ canUnit with can := [(0, { sleep := .committed })] }), _, 0, 0, _, rfl, by decide +kernel, by
        decide +kernel, by decide +kernel, by decide +kernel, rfl⟩,
    ⟨at0 ({ svc.put 0x2C10 0x0B 1 with pw := { svc.pw with st := .bivouac, armed := true } }), _, 0, 0, rfl, by
        decide +kernel, by decide +kernel, by decide +kernel, by decide +kernel⟩,
    ⟨at0 ({ (canUnit).put 0x2C10 1 1 with now := 8000000, can := [(0, { sleep := .waking })] }), _, 0, 0, rfl, by
        decide +kernel, by decide +kernel, by decide +kernel, by decide +kernel⟩⟩

/-- The hypotheses of `Obligations.HlbAccesses` are met, clause by clause. -/
theorem wit_HlbAccesses :
    (∃ (s : State) (d : Dev) (t : Nat) (addr : Word32), d = s.at t ∧ d.on = true ∧ isRemote addr.toNat = false ∧ bit
        d.clk.inReset 1 = false ∧ addr.toNat < 0x20000000) ∧
    (∃ (s : State) (d : Dev) (t : Nat) (addr : Word32) (bs : List (Nat × Nat)) (ws : List (Nat × Nat × Nat)), d = s.at
        t ∧ d.on = true ∧ isRemote addr.toNat = false ∧ bit d.clk.inReset 1 = false ∧ addr.toNat < 0x20000000 ∧ ws =
        ((beatAddrs (addr.toNat / 4 * 4) bs.length).zip bs).map (fun w => (w.1, w.2.1, w.2.2)) ∧ d.bridge.slots.any
        (fun y => (y.st == .writing || y.st == .written) && y.addr = addr.toNat / 4 * 4 && y.data = bs) = false ∧
        ws.any (fun w => decide (w.1 < 0x02000000) && d.delays w.1 w.2.1 w.2.2) = false) ∧
    (∃ (s : State) (d : Dev) (t : Nat) (k : Fin 4) (y : BridgeSlot), d = s.at t ∧ d.coreOn = true ∧
        d.bridge.slots[k.val]? = some y ∧ y.st = .writing ∧ d.mirrors = false) ∧
    (∃ (s : State) (d : Dev) (t : Nat) (k : Fin 4) (y : BridgeSlot), d = s.at t ∧ d.coreOn = true ∧
        d.bridge.slots[k.val]? = some y ∧ y.st = .written ∧ y.since + 10 * msCycles < d.now) ∧
    (∃ (s : State) (d : Dev) (t : Nat) (addr : Word32) (beats : Nat) (lock : Bool), d = s.at t ∧ d.on = true ∧
        d.hlbReady = true ∧ isRemote addr.toNat = true ∧ d.winEnabled (winOf addr.toNat) = true ∧ d.bridge.sem = none
        ∧ badBurst addr.toNat beats = false ∧ lock = false) ∧
    (∃ (s : State) (d : Dev) (t : Nat) (k : Fin 4) (y : BridgeSlot), d = s.at t ∧ d.coreOn = true ∧
        d.bridge.slots[k.val]? = some y ∧ y.st = .fetching ∧ y.prefetch = false) ∧
    (∃ (s : State) (d : Dev) (t : Nat) (k : Fin 4) (y : BridgeSlot), d = s.at t ∧ d.coreOn = true ∧
        d.bridge.slots[k.val]? = some y ∧ y.st = .fetching) ∧
    (∃ (s : State) (d : Dev) (t : Nat) (k : Fin 4) (y : BridgeSlot) (v : Nat) (e : Dev), d = s.at t ∧ d.coreOn = true
        ∧ d.bridge.slots[k.val]? = some y ∧ y.st = .fetched ∧ y.since + 10 * msCycles < d.now ∧ y.value = some v ∧ e =
        (d.setSlot4 k.val {}).count 0x2740 2 ∧ (e.window (winOf y.addr)).prefetch = none) ∧
    (∃ (s : State) (d : Dev) (t : Nat) (addr : Word32) (beats : List (Nat × Nat)) (lock : Bool), d = s.at t ∧ d.on =
        true ∧ d.hlbReady = true ∧ isRemote addr.toNat = true ∧ d.winEnabled (winOf addr.toNat) = true ∧ d.bridge.sem
        = none ∧ badBurst addr.toNat beats.length = false ∧ lock = false) ∧
    (∃ (s : State) (d : Dev) (t : Nat) (w : Fin 8) (y : Posted), d = s.at t ∧ d.coreOn = true ∧ d.bridge.posted.find?
        (fun y => y.win = w.val) = some y ∧ y.sent = true) ∧
    (∃ (s : State) (d : Dev) (t : Nat) (tr : Transport) (y : LogEntry) (rest : List LogEntry) (e : Dev), d = (s.at
        t).accessBegins tr ∧ Accepted d tr 0x2730 2 1 ∧ d.bridge.log = y :: rest ∧ e =
        { d with bridge := { d.bridge with log := rest } }) ∧
    (∃ (s : State) (d : Dev) (t : Nat), d = s.at t ∧ d.coreOn = true) ∧
    (∃ (s : State) (d : Dev) (t : Nat) (w : Nat) (y : Nat) (a : Nat) (e : Dev), d = s.at t ∧ d.coreOn = true ∧
        d.bridge.sem = some (w, y, a) ∧ a + 10 * msCycles < d.now ∧ e =
        { d with bridge := { d.bridge with sem := none, lockWrite := none } }) ∧
    (∃ (s : State) (d : Dev) (t : Nat) (k : Fin 4) (y : BridgeSlot), d = s.at t ∧ d.coreOn = true ∧
        d.bridge.slots[k.val]? = some y ∧ y.st = .fetching ∧ y.since + d.winTimeout (winOf y.addr) < d.now ∧
        d.winAttempts (winOf y.addr) ≤ y.attempts) ∧
    (∃ (s : State) (d : Dev) (t : Nat) (win : Fin 8) (y : Posted), d = s.at t ∧ d.coreOn = true ∧
        d.bridge.posted.find? (fun p => p.win = win.val) = some y ∧ y.sent = true ∧ y.since + d.winTimeout win.val <
        d.now ∧ d.winAttempts win.val ≤ y.attempts) ∧
    (∃ (s : State) (d : Dev) (t : Nat), d = s.at t ∧ d.coreOn = true ∧ d.bridge.mailbox.status = 1 ∧
        d.bridge.mailbox.attempts ≠ 0 ∧ d.bridge.mailbox.since + d.winTimeout d.bridge.mailbox.win < d.now ∧
        d.winAttempts d.bridge.mailbox.win ≤ d.bridge.mailbox.attempts) :=
  ⟨⟨at0 (svc), _, 0, 0, rfl, by decide +kernel, by decide +kernel, by decide +kernel, by decide +kernel⟩,
    ⟨at0 (svc), _, 0, 0, [(5, 15)], _, rfl, by decide +kernel, by decide +kernel, by decide +kernel, by
        decide +kernel, rfl, by decide +kernel, by decide +kernel⟩,
    ⟨at0
        ({ winUnit with now := secCycles, bridge := { slots := [{ st := .writing, addr := 0, beats := 1, data := [(5, 15)] }, {}, {}, {}] } }),
        _, 0, 0, { st := .writing, addr := 0, beats := 1, data := [(5, 15)] }, rfl, by decide +kernel, by
        decide +kernel, by decide +kernel, by decide +kernel⟩,
    ⟨at0
        ({ winUnit with now := secCycles, bridge := { slots := [{ st := .written, addr := 0, beats := 1, data := [(5, 15)] }, {}, {}, {}] } }),
        _, 0, 0, { st := .written, addr := 0, beats := 1, data := [(5, 15)] }, rfl, by decide +kernel, by
        decide +kernel, by decide +kernel, by decide +kernel⟩,
    ⟨at0 (winUnit), _, 0, 0x10000000, 0, false, rfl, by decide +kernel, by decide +kernel, by decide +kernel, by
        decide +kernel, by decide +kernel, by decide +kernel, by decide +kernel⟩,
    ⟨at0
        ({ winUnit with now := secCycles, bridge := { slots := [{ st := .fetching, addr := 0x10000000, beats := 1, attempts := 20 }, {}, {}, {}] } }),
        _, 0, 0, { st := .fetching, addr := 0x10000000, beats := 1, attempts := 20 }, rfl, by decide +kernel, by
        decide +kernel, by decide +kernel, by decide +kernel⟩,
    ⟨at0
        ({ winUnit with now := secCycles, bridge := { slots := [{ st := .fetching, addr := 0x10000000, beats := 1, attempts := 20 }, {}, {}, {}] } }),
        _, 0, 0, { st := .fetching, addr := 0x10000000, beats := 1, attempts := 20 }, rfl, by decide +kernel, by
        decide +kernel, by decide +kernel⟩,
    ⟨at0
        ({ winUnit with now := secCycles, bridge := { slots := [{ st := .fetched, addr := 0x10000000, beats := 1, value := some 5 }, {}, {}, {}] } }),
        _, 0, 0, { st := .fetched, addr := 0x10000000, beats := 1, value := some 5 }, 5, _, rfl, by decide +kernel, by
        decide +kernel, by decide +kernel, by decide +kernel, by decide +kernel, rfl, by decide +kernel⟩,
    ⟨at0 (winUnit), _, 0, 0x10000000, [(5, 15)], false, rfl, by decide +kernel, by decide +kernel, by decide +kernel,
        by decide +kernel, by decide +kernel, by decide +kernel, by decide +kernel⟩,
    ⟨at0
        ({ winUnit with now := secCycles, bridge := { posted := [{ win := 0, addr := 0x10000000, data := 5, locked := false, sent := true, attempts := 20 }] } }),
        _, 0, 0, { win := 0, addr := 0x10000000, data := 5, locked := false, sent := true, attempts := 20 }, rfl, by
        decide +kernel, by decide +kernel, by decide +kernel⟩,
    ⟨at0
        ({ winUnit with now := secCycles, bridge := { log := [{ addr := 0x10000000, data := 5, node := 0, code := 1, abort := 0, stamp := 0 }] } }),
        _, 0, .hlb, { addr := 0x10000000, data := 5, node := 0, code := 1, abort := 0, stamp := 0 }, [], _, rfl, ⟨by
        decide +kernel, by decide +kernel⟩, by decide +kernel, rfl⟩,
    ⟨at0 (svc), _, 0, rfl, by decide +kernel⟩,
    ⟨at0 ({ winUnit with now := secCycles, bridge := { sem := some (0, 0, 0) } }), _, 0, 0, 0, 0, _, rfl, by
        decide +kernel, by decide +kernel, by decide +kernel, rfl⟩,
    ⟨at0
        ({ winUnit with now := secCycles, bridge := { slots := [{ st := .fetching, addr := 0x10000000, beats := 1, attempts := 20 }, {}, {}, {}] } }),
        _, 0, 0, { st := .fetching, addr := 0x10000000, beats := 1, attempts := 20 }, rfl, by decide +kernel, by
        decide +kernel, by decide +kernel, by decide +kernel, by decide +kernel⟩,
    ⟨at0
        ({ winUnit with now := secCycles, bridge := { posted := [{ win := 0, addr := 0x10000000, data := 5, locked := false, sent := true, attempts := 20 }] } }),
        _, 0, 0, { win := 0, addr := 0x10000000, data := 5, locked := false, sent := true, attempts := 20 }, rfl, by
        decide +kernel, by decide +kernel, by decide +kernel, by decide +kernel, by decide +kernel⟩,
    ⟨at0
        ({ winUnit with now := secCycles, bridge := { mailbox := { win := 0, command := 1, status := 1, attempts := 20 } } }),
        _, 0, rfl, by decide +kernel, by decide +kernel, by decide +kernel, by decide +kernel, by decide +kernel⟩⟩

/-- The hypotheses of `Obligations.PcieAccesses` are met, clause by clause. -/
theorem wit_PcieAccesses :
    (∃ (s : State) (d : Dev) (t : Nat) (addr : Word32) (e : Dev) (v : Nat), d = s.at t ∧ d.on = true ∧ bit
        d.clk.inReset 0 = false ∧ d.released = false ∧ addr.toNat < 0x02000000 ∧ addr.toNat % 4 = 0 ∧ d.wordRead .pcie
        addr.toNat = (e, v)) ∧
    (∃ (s : State) (d : Dev) (t : Nat) (addr : Word32), d = s.at t ∧ d.on = true ∧ bit d.clk.inReset 0 = false ∧
        d.released = false ∧ addr.toNat < 0x02000000 ∧ addr.toNat % 4 = 0) ∧
    (∃ (s : State) (d : Dev) (t : Nat), d = s.at t ∧ d.on = true ∧ bit d.clk.inReset 0 = false ∧ d.released = true) ∧
    (∃ (s : State) (d : Dev) (t : Nat) (w : Fin 8) (slot : Word32) (m : Mailbox) (e : Dev), d = (s.at t).snapEnds
        .pcie ∧ d.coreOn = true ∧ d.barReady = true ∧ d.bridge.mailbox.status ≠ 1 ∧ m =
        { win := w.val, slot := slotOf (slot.toNat % 0x02000000), low := bits (d.bridge.mailbox.low + 2 ^ 32 * d.bridge.mailbox.high) 31 0, high := bits (d.bridge.mailbox.low + 2 ^ 32 * d.bridge.mailbox.high) 63 32, command := 1, status := 1 }
        ∧ e = d.setMailbox m ∧ e.winEnabled w.val = true ∧ e.bridge.sem = none) ∧
    (∃ (s : State) (d : Dev) (t : Nat) (w : Fin 8) (slot : Word32) (v : Word64) (m : Mailbox) (e : Dev), d = (s.at
        t).snapEnds .pcie ∧ d.coreOn = true ∧ d.barReady = true ∧ d.bridge.mailbox.status ≠ 1 ∧ m =
        { win := w.val, slot := slotOf (slot.toNat % 0x02000000), low := bits v.toNat 31 0, high := bits v.toNat 63 32, command := 2, status := 1 }
        ∧ e = d.setMailbox m ∧ e.winEnabled w.val = true ∧ e.bridge.sem = none) ∧
    (∃ (s : State) (d : Dev) (t : Nat), d = s.at t ∧ d.coreOn = true ∧ d.bridge.mailbox.status = 1 ∧
        d.bridge.mailbox.attempts ≠ 0 ∧ d.bridge.mailbox.command = 1) :=
  ⟨⟨at0 (svc), _, 0, 0, (((at0 svc).at 0).wordRead .pcie 0).1, (((at0 svc).at 0).wordRead .pcie 0).2, rfl, by
        decide +kernel, by decide +kernel, by decide +kernel, by decide +kernel, by decide +kernel, paired _⟩,
    ⟨at0 (svc), _, 0, 0, rfl, by decide +kernel, by decide +kernel, by decide +kernel, by decide +kernel, by
        decide +kernel⟩,
    ⟨at0 ({ svc with pw := { svc.pw with st := .hold } }), _, 0, rfl, by decide +kernel, by decide +kernel, by
        decide +kernel⟩,
    ⟨at0 (winUnit), _, 0, 0, 0, _, _, rfl, by decide +kernel, by decide +kernel, by decide +kernel, rfl, rfl, by
        decide +kernel, by decide +kernel⟩,
    ⟨at0 (winUnit), _, 0, 0, 0, 0, _, _, rfl, by decide +kernel, by decide +kernel, by decide +kernel, rfl, rfl, by
        decide +kernel, by decide +kernel⟩,
    ⟨at0
        ({ winUnit with now := secCycles, bridge := { mailbox := { win := 0, command := 1, status := 1, attempts := 20 } } }),
        _, 0, rfl, by decide +kernel, by decide +kernel, by decide +kernel, by decide +kernel⟩⟩

/-- The hypotheses of `Obligations.DmaRings` are met, clause by clause. -/
theorem wit_DmaRings :
    (∃ (s : State) (d : Dev) (t : Nat) (v : Word32), d = (s.at t).snapEnds .pcie ∧ d.coreOn = true ∧ d.barReady = true
        ∧ bit v.toNat 0 = true) ∧
    (∃ (s : State) (d : Dev) (t : Nat) (ring : Fin 64) (v : Word32), d = (s.at t).snapEnds .pcie ∧ d.coreOn = true ∧
        d.barReady = true ∧ bit v.toNat 0 = false ∧ ring.val < 32 ∧ (d.ring ring.val).enable = true) ∧
    (∃ (s : State) (d : Dev) (t : Nat) (ring : Fin 64) (offset : Fin 64), d = (s.at t).snapEnds .pcie ∧ d.coreOn =
        true ∧ d.barReady = true ∧ (d.ring ring.val).enable = false ∧ offset.val = 0) ∧
    (∃ (s : State) (d : Dev) (t : Nat) (ring : Fin 64) (offset : Fin 64), d = (s.at t).snapEnds .pcie ∧ d.coreOn =
        true ∧ d.barReady = true ∧ (d.ring ring.val).enable = false ∧ offset.val = 8) ∧
    (∃ (s : State) (d : Dev) (t : Nat), d = (s.at t).snapEnds .pcie ∧ d.coreOn = true ∧ d.barReady = true) ∧
    (∃ (s : State) (d : Dev) (t : Nat) (ring : Fin 32) (desc : TxDesc) (st : Nat) (es : List PEvent) (y : Context), d
        = s.at t ∧ d.inService = true ∧ (d.ring (txRing ring.val)).avail ≠ 0 ∧ d.itemsWaiting (212 + ring.val) < 2 ∧
        desc.readError = false ∧ desc.tunnel = none ∧ st = desc.stamp.getD d.stamp ∧ hostEvents (d.options (212 +
        ring.val)) st d.quality desc.data = some es ∧ es.getLast? = some (.sentence y)) ∧
    (∃ (s : State) (d : Dev) (t : Nat) (ring : Fin 64) (a : Nat), d = s.at t ∧ d.coreOn = true ∧ (d.ring
        ring.val).signal = some a ∧ a + (d.ring ring.val).holdoff * usCycles < d.now) ∧
    (∃ (s : State) (d : Dev) (t : Nat) (v : Fin 32), d = (s.at t).snapEnds .pcie ∧ d.coreOn = true ∧ d.barReady = true
        ∧ d.msix.pending.getD v.val false = true) :=
  ⟨⟨at0 (svc), _, 0, 1, rfl, by decide +kernel, by decide +kernel, by decide +kernel⟩,
    ⟨at0 (svc.setRing 0 { enable := true }), _, 0, 0, 0, rfl, by decide +kernel, by decide +kernel, by decide +kernel,
        by decide +kernel, by decide +kernel⟩,
    ⟨at0 (svc), _, 0, 0, 0, rfl, by decide +kernel, by decide +kernel, by decide +kernel, by decide +kernel⟩,
    ⟨at0 (svc), _, 0, 0, 8, rfl, by decide +kernel, by decide +kernel, by decide +kernel, by decide +kernel⟩,
    ⟨at0 (svc), _, 0, rfl, by decide +kernel, by decide +kernel⟩,
    ⟨at0 (hostUnit), _, 0, 0, { data := sent, stamp := none, tunnel := none, readError := false }, _, hostRead,
        lastRead hostRead, rfl, by decide +kernel, by decide +kernel, by decide +kernel, by decide +kernel, by
        decide +kernel, rfl, by decide +kernel, by decide +kernel⟩,
    ⟨at0 ({ svc.setRing 0 { enable := true, signal := some 0 } with now := secCycles }), _, 0, 0, 0, rfl, by
        decide +kernel, by decide +kernel, by decide +kernel⟩,
    ⟨at0 ({ svc with msix := { svc.msix with pending := svc.msix.pending.set 0 true } }), _, 0, 0, rfl, by
        decide +kernel, by decide +kernel, by decide +kernel⟩⟩

/-- The hypotheses of `Obligations.PowerRequestsAndWake` are met, clause by clause. -/
theorem wit_PowerRequestsAndWake :
    (∃ (s : State) (d : Dev) (t : Nat) (tr : Transport), d = (s.at t).accessBegins tr ∧ Accepted d tr 0x2001 1 1 ∧ d.powerCheck 1 false = 0
        ∧ d.inService = true ∧ d.pw.trim = true) ∧
    (∃ (s : State) (d : Dev) (t : Nat) (tr : Transport), d = (s.at t).accessBegins tr ∧ Accepted d tr 0x2001 1 2 ∧ d.powerCheck 2 false = 0
        ∧ d.inService = true ∧ d.pw.trim = false) ∧
    (∃ (s : State) (d : Dev) (t : Nat) (tr : Transport), d = (s.at t).accessBegins tr ∧ Accepted d tr 0x2001 1 3 ∧ d.powerCheck 3 false = 0
        ∧ d.inService = true) ∧
    (∃ (s : State) (d : Dev) (t : Nat) (tr : Transport), d = (s.at t).accessBegins tr ∧ Accepted d tr 0x2001 1 4 ∧ d.powerCheck 4 false = 0
        ∧ d.inService = true) ∧
    (∃ (s : State) (d : Dev) (t : Nat) (code : Fin 4) (e : Dev), d = s.at t ∧ d.inService = true ∧ d.get 0x2001 4 ≠ 0 ∧ e
        = { d with pw := { d.pw with pwrPins := code.val } } ∧ e.powerCheck 3 true = 0 ∧ code.val = 2) ∧
    (∃ (s : State) (d : Dev) (t : Nat), d = s.at t ∧ d.pw.st = .bivouac ∧ d.get 0x2001 4 ≠ 0) ∧
    (∃ (s : State) (d : Dev) (t : Nat) (n : Nat) (e : Dev) (f : Dev), d = s.at t ∧ d.pw.st = .config ∧ d.pw.drain = some
        (.shelter, n) ∧ d.pw.drained = true ∧ e = d.snapNow ∧ f = (({ e with log := { e.log with accum := e.ledger.strings } }
        : Dev).coreIdle.put 0x2001 6 0).put 0x2001 7 0) ∧
    (∃ (s : State) (d : Dev) (t : Nat) (n : Nat) (e : Dev) (f : Dev), d = s.at t ∧ d.inService = true ∧ d.pw.drain = some
        (.bivouac, n) ∧ d.pw.drained = true ∧ e = d.configEnter.snapNow ∧ f = (((({ e with log := { e.log with accum := e.ledger.strings } }
        : Dev).coreIdle.put 0x2001 6 0).put 0x2001 7 0).armSerial).armCan d) ∧
    (∃ (s : State) (d : Dev) (t : Nat) (code : Fin 4), d = s.at t ∧ d.pw.st = .bivouac ∧ code.val < 2) :=
  ⟨⟨at0 ({ svc with pw := { svc.pw with trim := true } }), _, 0, .hlb, rfl, ⟨by decide +kernel, by decide +kernel⟩, by
      decide +kernel, by decide +kernel, by decide +kernel⟩,
    ⟨at0 (svc), _, 0, .hlb, rfl, ⟨by decide +kernel, by decide +kernel⟩, by decide +kernel, by decide +kernel, by
        decide +kernel⟩,
    ⟨at0 ({ svc with noRack := false }), _, 0, .hlb, rfl, ⟨by decide +kernel, by decide +kernel⟩, by decide +kernel, by
        decide +kernel⟩,
    ⟨at0 ({ svc with noRack := false }), _, 0, .hlb, rfl, ⟨by decide +kernel, by decide +kernel⟩, by decide +kernel, by
        decide +kernel⟩,
    ⟨at0 (({ svc with noRack := false } : Dev).put 0x2001 4 1), _, 0, 2, _, rfl, by decide +kernel, by decide +kernel,
        rfl, by decide +kernel, by decide +kernel⟩,
    ⟨at0 ({ svc.put 0x2001 4 1 with pw := { svc.pw with st := .bivouac } }), _, 0, rfl, by decide +kernel, by
        decide +kernel⟩,
    ⟨at0 ({ cfg with pw := { cfg.pw with drain := some (.shelter, 2), drained := true } }), _, 0, 2, _, _, rfl, by
        decide +kernel, by decide +kernel, by decide +kernel, rfl, rfl⟩,
    ⟨at0 ({ svc with pw := { svc.pw with drain := some (.bivouac, 2), drained := true } }), _, 0, 2, _, _, rfl, by
        decide +kernel, by decide +kernel, by decide +kernel, rfl, rfl⟩,
    ⟨at0 ({ svc with pw := { svc.pw with st := .bivouac } }), _, 0, 0, rfl, by decide +kernel, by decide +kernel⟩⟩

/-- The hypotheses of `Obligations.TemperatureAndHold` are met, clause by clause. -/
theorem wit_TemperatureAndHold :
    (∃ (s : State) (d : Dev) (t : Nat) (tj : Int), d = s.at t ∧ d.pw.st ≠ .off ∧ d.coreOn = true ∧ 125 ≤ tj) ∧
    (∃ (s : State) (d : Dev) (t : Nat) (tj : Int), d = s.at t ∧ d.pw.st ≠ .off ∧ d.coreOn = true ∧ tj ≤ 120) ∧
    (∃ (s : State) (d : Dev) (t : Nat) (tj : Int), d = s.at t ∧ d.pw.st = .service ∧ d.pw.trip = none ∧ 140 ≤ tj) ∧
    (∃ (s : State) (d : Dev) (t : Nat) (tj : Int) (e : Dev), d = s.at t ∧ d.pw.st ≠ .off ∧ e = ({ d with pw := { d.pw with tj := tj } }
        : Dev).put 0x2007 1 (ofI32 tj) ∧ toI32 (e.get 0x2007 2) < tj) ∧
    (∃ (s : State) (d : Dev) (t : Nat) (tj : Int) (e : Dev), d = s.at t ∧ d.pw.st ≠ .off ∧ e = ({ d with pw := { d.pw with tj := tj } }
        : Dev).put 0x2007 1 (ofI32 tj) ∧ tj ≤ toI32 (e.get 0x2007 2)) :=
  ⟨⟨at0 (svc), _, 0, 125, rfl, by decide +kernel, by decide +kernel, by decide +kernel⟩,
    ⟨at0 (svc), _, 0, 0, rfl, by decide +kernel, by decide +kernel, by decide +kernel⟩,
    ⟨at0 (svc), _, 0, 140, rfl, by decide +kernel, by decide +kernel, by decide +kernel⟩,
    ⟨at0 (svc), _, 0, 20, _, rfl, by decide +kernel, rfl, by decide +kernel⟩,
    ⟨at0 (svc.put 0x2007 2 30), _, 0, 20, _, rfl, by decide +kernel, rfl, by decide +kernel⟩⟩

/-- The hypotheses of `Obligations.WholeDeviceResets` are met, clause by clause. -/
theorem wit_WholeDeviceResets :
    (∃ (s : State) (d : Dev) (t : Nat), d = s.at t ∧ d.pw.porst = true ∧ d.pw.noKa = false) ∧
    (∃ (s : State) (d : Dev) (t : Nat) (e : Dev), d = s.at t ∧ d.pw.noKa = false ∧ e = d.resetBy 2) ∧
    (∃ (s : State) (d : Dev) (t : Nat), d = s.at t ∧ d.pw.porst = false ∧ d.pw.noKa = false ∧ d.pw.brown = false) ∧
    (∃ (s : State) (d : Dev) (t : Nat) (rails : Nat) (trip : Option Int) (e : Dev), d = s.at t ∧ d.pw.st = .service ∧ trip
        = none ∧ rails % 8 ≠ 0 ∧ e = ({ d with log := { d.log with gasp := some (d.gaspTake (rails % 8)) } } :
        Dev).resetBy 4) ∧
    (∃ (s : State) (d : Dev) (t : Nat), d = s.at t ∧ d.pw.brown = true ∧ d.pw.porst = false ∧ d.pw.noKa = false) ∧
    (∃ (s : State) (d : Dev) (t : Nat) (e : Dev), d = s.at t ∧ e = d.coreReset) ∧
    (∃ (s : State) (d : Dev) (t : Nat), d = s.at t ∧ d.pw.noKa = true ∧ d.pw.porst = true) ∧
    (∃ (s : State) (d : Dev) (t : Nat) (tj : Int), d = s.at t ∧ d.pw.heldBoot = true ∧ tj < 125) :=
  ⟨⟨at0 ({ svc with pw := { porst := true } }), _, 0, rfl, by decide +kernel, by decide +kernel⟩,
    ⟨at0 (svc), _, 0, _, rfl, by decide +kernel, rfl⟩,
    ⟨at0 (svc), _, 0, rfl, by decide +kernel, by decide +kernel, by decide +kernel⟩,
    ⟨at0 (svc), _, 0, 1, none, _, rfl, by decide +kernel, by decide +kernel, by decide +kernel, rfl⟩,
    ⟨at0 ({ svc with pw := { svc.pw with brown := true } }), _, 0, rfl, by decide +kernel, by decide +kernel, by
        decide +kernel⟩,
    ⟨at0 (svc), _, 0, _, rfl, rfl⟩,
    ⟨at0 ({ svc with pw := { noKa := true, porst := true } }), _, 0, rfl, by decide +kernel, by decide +kernel⟩,
    ⟨at0 ({ svc with pw := { svc.pw with st := .hold, heldBoot := true } }), _, 0, 0, rfl, by decide +kernel, by
        decide +kernel⟩⟩

/-- The hypotheses of `Obligations.SideResetsAndClocks` are met, clause by clause. -/
theorem wit_SideResetsAndClocks :
    (∃ (s : State) (d : Dev) (t : Nat) (e : Dev) (f : Dev), d = s.at t ∧ d.coreOn = true ∧ bit d.clk.inReset 0 = false ∧ e
        = ((d.sideReset .pcie).freeBlocks .pcie).ringsOff ∧ f = e.setMailbox { e.bridge.mailbox with status := 0, command := 0 })
        ∧
    (∃ (s : State) (d : Dev) (t : Nat) (e : Dev), d = s.at t ∧ d.coreOn = true ∧ bit d.clk.inReset 1 = false ∧ e =
        (d.sideReset .hlb).lockEnd) ∧
    (∃ (s : State) (d : Dev) (t : Nat), d = s.at t ∧ d.coreOn = true) ∧
    (∃ (s : State) (d : Dev) (t : Nat), d = s.at t ∧ d.coreOn = true) ∧
    (∃ (s : State) (d : Dev) (t : Nat) (p : Fin 4) (e : Dev), d = s.at t ∧ d.coreOn = true ∧ e = { d with clk := { d.clk with inReset := setBit d.clk.inReset (Domain.port p).bit false } })
        ∧
    (∃ (s : State) (d : Dev) (t : Nat) (domain : Domain), d = s.at t ∧ d.coreOn = true ∧ ((∀ p, domain ≠ .port p))) ∧
    (∃ (s : State) (d : Dev) (t : Nat) (mask : Nat) (e : Dev) (f : Dev) (x : Dev), d = s.at t ∧ d.pw.st ≠ .off ∧ d.pw.st ≠
        .shelter ∧ bit mask 0 = false ∧ bit mask 1 = false ∧ e = ({ d with clk := { d.clk with pll := d.clk.pll &&& (mask % 32 ^^^ 31) } }
        : Dev).raiseKa 0xA610 3 (31 - (d.clk.pll &&& (mask % 32 ^^^ 31))) ∧ f = (if bit mask 2 then (List.range 4).foldl
        (fun (d : Dev) p => d.linkChange p false 0) e else e) ∧ x = (if bit mask 3 then f.ropeLost true else f)) ∧
    (∃ (s : State) (d : Dev) (t : Nat) (mask : Nat), d = s.at t ∧ d.pw.st = .service ∧ bit mask 0 = true ∧ bit mask 2 =
        false ∧ bit mask 3 = false ∧ bit mask 4 = false) ∧
    (∃ (s : State) (d : Dev) (t : Nat) (mask : Nat), d = s.at t ∧ d.coreOn = true ∧ d.pw.st ≠ .off ∧ d.pw.st ≠ .shelter ∧
        d.clk.pll ||| mask % 32 = 31) ∧
    (∃ (s : State) (d : Dev) (t : Nat) (mask : Nat), d = s.at t ∧ d.pw.st ≠ .off ∧ d.pw.st ≠ .shelter ∧ d.clk.pll ||| mask
        % 32 ≠ 31) ∧
    (∃ (s : State) (d : Dev) (t : Nat), d = s.at t ∧ d.pw.noKa = false ∧ d.clk.kaSrc = 1) ∧
    (∃ (s : State) (d : Dev) (t : Nat) (ppm : Int), d = s.at t ∧ d.pw.st ≠ .off ∧ d.clk.kaSrc ≠ 1 ∧ -5000 ≤ ppm ∧ ppm ≤
        5000) ∧
    (∃ (s : State) (d : Dev) (t : Nat) (ppm : Int), d = s.at t ∧ d.pw.st ≠ .off ∧ d.clk.kaSrc ≠ 1 ∧ 5000 < ppm) ∧
    (∃ (s : State) (d : Dev) (t : Nat), d = s.at t ∧ d.pw.noKa = false ∧ d.clk.rtcRuns = true ∧ d.pw.st ≠ .off) ∧
    (∃ (s : State) (d : Dev) (t : Nat), d = s.at t ∧ d.coreOn = true ∧ d.pw.noKa = false ∧ d.clk.rtcRuns = false) :=
  ⟨⟨at0 (svc), _, 0, _, _, rfl, by decide +kernel, by decide +kernel, rfl, rfl⟩,
    ⟨at0 (svc), _, 0, _, rfl, by decide +kernel, by decide +kernel, rfl⟩,
    ⟨at0 (svc), _, 0, rfl, by decide +kernel⟩,
    ⟨at0 (svc), _, 0, rfl, by decide +kernel⟩,
    ⟨at0 (svc), _, 0, 0, _, rfl, by decide +kernel, rfl⟩,
    ⟨at0 (svc), _, 0, .pcie, rfl, by decide +kernel, fun _ h => nomatch h⟩,
    ⟨at0 (svc), _, 0, 4, _, _, _, rfl, by decide +kernel, by decide +kernel, by decide +kernel, by decide +kernel, rfl,
        rfl, rfl⟩,
    ⟨at0 (svc), _, 0, 1, rfl, by decide +kernel, by decide +kernel, by decide +kernel, by decide +kernel, by
        decide +kernel⟩,
    ⟨at0 (svc), _, 0, 31, rfl, by decide +kernel, by decide +kernel, by decide +kernel, by decide +kernel⟩,
    ⟨at0 ({ svc with clk := { svc.clk with pll := 0 } }), _, 0, 1, rfl, by decide +kernel, by decide +kernel, by
        decide +kernel⟩,
    ⟨at0 ({ svc with clk := { svc.clk with kaSrc := 1 } }), _, 0, rfl, by decide +kernel, by decide +kernel⟩,
    ⟨at0 ({ svc with clk := { svc.clk with kaSrc := 2 } }), _, 0, 0, rfl, by decide +kernel, by decide +kernel, by
        decide +kernel, by decide +kernel⟩,
    ⟨at0 ({ svc with clk := { svc.clk with kaSrc := 2 } }), _, 0, 6000, rfl, by decide +kernel, by decide +kernel, by
        decide +kernel⟩,
    ⟨at0 (svc), _, 0, rfl, by decide +kernel, by decide +kernel, by decide +kernel⟩,
    ⟨at0 ({ svc with clk := { svc.clk with rtcRuns := false } }), _, 0, rfl, by decide +kernel, by decide +kernel, by
        decide +kernel⟩⟩

/-- The hypotheses of `Obligations.KeysTamperAndLife` are met, clause by clause. -/
theorem wit_KeysTamperAndLife :
    (∃ (s : State) (d : Dev) (t : Nat) (pkg : List Byte) (key : Option (List Byte)) (r : Nat) (z : Option KeyCopy), d =
        s.at t ∧ d.coreOn = true ∧ d.vault.importing = some (pkg, key) ∧ d.importResult pkg key = (r, z)) ∧
    (∃ (s : State) (d : Dev) (t : Nat) (tr : Transport) (v : Byte), d = (s.at t).accessBegins tr ∧ Accepted d tr 0x2811 1 v.toNat) ∧
    (∃ (s : State) (d : Dev) (t : Nat) (tr : Transport) (e : Dev) (k : List Byte) (x : List Byte), d = (s.at t).accessBegins tr ∧ Accepted d
        tr 0x2830 3 1 ∧ d.get 0x2830 4 ≠ 1 ∧ d.vault.st = 1 ∧ e = ({ d with vault := { d.vault with response := [] } } :
        Dev) ∧ d.keyOf (d.get 0x2830 2) 3 = some k ∧ x = SMap.get (fun _ => ([] : List Byte)) d.domains (odKey 0x2830 1) ∧
        x.length = 16) ∧
    (∃ (s : State) (d : Dev) (t : Nat) (msg : List Byte) (k : List Byte), d = s.at t ∧ d.coreOn = true ∧ d.vault.challenge
        = some (msg, k)) ∧
    (∃ (s : State) (d : Dev) (t : Nat) (source : Fin 8) (e : Dev), d = s.at t ∧ d.pw.noKa = false ∧ d.tamperOn source.val
        = true ∧ d.inService = true ∧ d.vault.latch = 0 ∧ d.vault.st = 1 ∧ e = (({ d with vault := { d.vault with latch := setBit 0 source.val true, stamp := d.stamp } }
        : Dev).count 0x2840 1).raise 0xA500 3 (setBit 0 source.val true) ∧ e.vault.st = 1) ∧
    (∃ (s : State) (d : Dev) (t : Nat) (source : Fin 8) (e : Dev) (f : Dev), d = s.at t ∧ d.pw.noKa = false ∧ d.tamperOn
        source.val = true ∧ d.pw.st = .shelter ∧ e = ({ d with vault := { d.vault with latch := setBit d.vault.latch source.val true, stamp := if d.vault.latch = 0 then d.stamp else d.vault.stamp } }
        : Dev).count 0x2840 1 ∧ f = e.journalKa 0xA500 3 e.vault.latch) ∧
    (∃ (s : State) (d : Dev) (t : Nat) (tr : Transport) (v : Byte) (alarming : Nat), d = (s.at t).accessBegins tr ∧ Accepted d tr 0x2820 4
        v.toNat ∧ d.vault.latch = 1 ∧ bit v.toNat 0 = true ∧ bit alarming 0 = false) ∧
    (∃ (s : State) (d : Dev) (t : Nat) (x : Transition), d = s.at t ∧ d.coreOn = true ∧ d.vault.transition = some x) ∧
    (∃ (s : State) (d : Dev) (t : Nat) (salt : Nat) (x : Transition) (o : Otp), d = s.at t ∧ d.coreOn = true ∧
        d.vault.transition = some x ∧ s.otp.life.permits x.target = true ∧ o = { life := x.target, spare := 3, verify := x.verify, salt := salt })
        :=
  ⟨⟨at0 ({ svc with vault := { svc.vault with st := 1, importing := some ([], none) } }), _, 0, [], none, (((at0 ({ svc with vault := { svc.vault with st := 1, importing := some ([], none) } })).at
      0).importResult [] none).1, (((at0 ({ svc with vault := { svc.vault with st := 1, importing := some ([], none) } })).at
      0).importResult [] none).2, rfl, by decide +kernel, by decide +kernel, paired _⟩,
    ⟨at0 (svc), _, 0, .hlb, 0, rfl, ⟨by decide +kernel, by decide +kernel⟩⟩,
    ⟨at0 (keyUnit), _, 0, .hlb, _, List.replicate 32 7, List.replicate 16 0, rfl, ⟨by decide +kernel, by decide +kernel⟩,
        by decide +kernel, by decide +kernel, rfl, by decide +kernel, by decide +kernel, by decide +kernel⟩,
    ⟨at0 ({ svc with vault := { svc.vault with challenge := some ([0], [1]) } }), _, 0, [0], [1], rfl, by decide +kernel,
        by decide +kernel⟩,
    ⟨at0 ({ svc.put 0x2820 1 0xFF with vault := { svc.vault with st := 1 } }), _, 0, 0, _, rfl, by decide +kernel, by
        decide +kernel, by decide +kernel, by decide +kernel, by decide +kernel, rfl, by decide +kernel⟩,
    ⟨at0 ({ svc.put 0x2820 1 0xFF with pw := { svc.pw with st := .shelter } }), _, 0, 0, _, _, rfl, by decide +kernel, by
        decide +kernel, by decide +kernel, rfl, rfl⟩,
    ⟨at0 ({ svc with vault := { svc.vault with latch := 1 } }), _, 0, .hlb, 1, 0, rfl, ⟨by decide +kernel, by
        decide +kernel⟩, by decide +kernel, by decide +kernel, by decide +kernel⟩,
    ⟨at0 ({ svc with vault := { svc.vault with transition := some trans } }), _, 0, trans, rfl, by decide +kernel, by
        decide +kernel⟩,
    ⟨at0 ({ svc with vault := { svc.vault with transition := some trans } }), _, 0, 0, trans, _, rfl, by decide +kernel,
        by decide +kernel, by decide +kernel, rfl⟩⟩

/-- The hypotheses of `Obligations.LedgerAndLogbook` are met, clause by clause. -/
theorem wit_LedgerAndLogbook :
    (∃ (s : State) (d : Dev) (t : Nat) (b : Nat), d = s.at t ∧ d.coreOn = true ∧ d.ledger.closing = some b ∧ d.leads =
        true ∧ b + d.legPu ≤ d.stamp) ∧
    (∃ (s : State) (d : Dev) (t : Nat) (n : Nat) (rest : List Nat) (k : List Byte) (hd : List Byte) (e : Dev), d = s.at t
        ∧ d.coreOn = true ∧ d.ledger.pending = n :: rest ∧ d.leads = true ∧ d.keyOf (d.get 0x2900 2) 2 = some k ∧ d.get
        0x2910 6 ≠ 0 ∧ hd = d.ledHeader n (0 ||| (d.ledger.string n).flags ||| 32 * b2n d.ledger.restart ||| 64 * b2n
        d.ledger.stateChange) (d.ledger.string n) d.ledger.lastEnd ∧ e = (d.setString n ((d.ledger.string n).closed
        d.ledger.lastEnd)).put 0x2910 3 ((d.get 0x2910 3 + 1) % 2 ^ 32)) ∧
    (∃ (s : State) (d : Dev) (t : Nat), d = s.at t ∧ d.on = true ∧ d.log.since + d.get 0x2A00 1 * secCycles ≤ d.now) ∧
    (∃ (s : State) (d : Dev) (t : Nat) (tr : Transport), d = (s.at t).accessBegins tr ∧ Accepted d tr 0x2A00 2 1 ∧ d.log.running = none) ∧
    (∃ (s : State) (d : Dev) (t : Nat) (tr : Transport) (x : Snap), d = (s.at t).accessBegins tr ∧ Accepted d tr 0x2A00 2 1 ∧ d.log.running
        = some x) ∧
    (∃ (s : State) (d : Dev) (t : Nat) (x : Snap) (e : Dev), d = s.at t ∧ d.coreOn = true ∧ d.log.running = some x ∧
        d.log.heldTrigger = false ∧ e = ({ d with log := { d.log.store (some x) with accum := x.strings, heldTrigger := false }, clk := { d.clk with rtcMark := d.clk.rtcMark && !d.clk.rtcRuns } }
        : Dev)) ∧
    (∃ (s : State) (d : Dev) (t : Nat) (x : Snap) (a : Nat) (e : Dev), d = s.at t ∧ d.coreOn = true ∧ d.log.running = some
        x ∧ d.log.heldTrigger = false ∧ e = ({ d with log := d.log.store none } : Dev).raise 0xA622 2 a) ∧
    (∃ (s : State) (d : Dev) (t : Nat) (tr : Transport) (v : Byte), d = (s.at t).accessBegins tr ∧ Accepted d tr 0x2A02 1 v.toNat) ∧
    (∃ (s : State) (d : Dev) (t : Nat) (tr : Transport), d = (s.at t).accessBegins tr ∧ d.reaches tr = true ∧ d.readCheck tr 0x2A10 1 =
        none) ∧
    (∃ (s : State) (d : Dev) (t : Nat) (corrected : Nat) (e : Dev), d = s.at t ∧ d.on = true ∧ e = ({ d.count 0x2A20 1 corrected with mirror := { d.mirror with hScrub := d.mirror.hScrub + corrected } }
        : Dev)) ∧
    (∃ (s : State) (d : Dev) (t : Nat), d = s.at t ∧ d.pw.st = .service) :=
  ⟨⟨at0 ({ svc with now := secCycles, ledger := { svc.ledger with closing := some 0 } }), _, 0, 0, rfl, by decide +kernel,
      by decide +kernel, by decide +kernel, by decide +kernel⟩,
    ⟨at0 (ledUnit), _, 0, 0, [], List.replicate 32 7, _, _, rfl, by decide +kernel, by decide +kernel, by decide +kernel,
        by decide +kernel, by decide +kernel, rfl, rfl⟩,
    ⟨at0 ({ svc with now := 3600 * secCycles }), _, 0, rfl, by decide +kernel, by decide +kernel⟩,
    ⟨at0 (svc), _, 0, .hlb, rfl, ⟨by decide +kernel, by decide +kernel⟩, by decide +kernel⟩,
    ⟨at0 ({ svc with log := { svc.log with running := some svc.snapTake } }), _, 0, .hlb, svc.snapTake, rfl, ⟨by
        decide +kernel, by decide +kernel⟩, by decide +kernel⟩,
    ⟨at0 ({ svc with log := { svc.log with running := some svc.snapTake } }), _, 0, svc.snapTake, _, rfl, by
        decide +kernel, by decide +kernel, by decide +kernel, rfl⟩,
    ⟨at0 ({ svc with log := { svc.log with running := some svc.snapTake } }), _, 0, svc.snapTake, 0, _, rfl, by
        decide +kernel, by decide +kernel, by decide +kernel, rfl⟩,
    ⟨at0 (svc), _, 0, .hlb, 0, rfl, ⟨by decide +kernel, by decide +kernel⟩⟩,
    ⟨at0 (svc), _, 0, .hlb, rfl, by decide +kernel, by decide +kernel⟩,
    ⟨at0 (svc), _, 0, 0, _, rfl, by decide +kernel, rfl⟩,
    ⟨at0 (svc), _, 0, rfl, by decide +kernel⟩⟩

/-- The hypotheses of `Obligations.BoundaryScan` are met, clause by clause. -/
theorem wit_BoundaryScan :
    (∃ (s : State) (d : Dev) (t : Nat), d = s.at t) ∧
    (∃ (s : State) (d : Dev) (t : Nat), d = s.at t ∧ d.pw.porst = false ∧ d.pw.noKa = false) ∧
    (∃ (s : State) (d : Dev) (t : Nat), d = s.at t ∧ d.pw.porst = false ∧ d.pw.noKa = false) ∧
    (∃ (s : State) (d : Dev) (t : Nat) (pins : List Bool) (e : Dev), d = s.at t ∧ d.pw.porst = false ∧ d.pw.noKa = false ∧
        e = ({ d with tap := { d.tap with instr := .samplePreload, dr := pinsValue pins, drives := false } } : Dev).emit
        (.tdo (pinsValue pins))) ∧
    (∃ (s : State) (d : Dev) (t : Nat) (e : Dev), d = s.at t ∧ d.pw.porst = false ∧ d.pw.noKa = false ∧ e = (if d.pw.st =
        .hold then d else d.enterHold.journalKa 0xA631 1 0)) ∧
    (∃ (s : State) (d : Dev) (t : Nat) (e : Dev), d = s.at t ∧ d.pw.porst = false ∧ d.pw.noKa = false ∧ e = (if d.pw.st =
        .hold then d else d.enterHold.journalKa 0xA631 1 0)) ∧
    (∃ (s : State) (d : Dev) (t : Nat) (e : Dev), d = s.at t ∧ d.pw.porst = false ∧ d.pw.noKa = false ∧ e = (if d.pw.st =
        .hold then d else d.enterHold.journalKa 0xA631 1 0)) ∧
    (∃ (s : State) (d : Dev) (t : Nat) (e : Dev), d = s.at t ∧ d.pw.porst = false ∧ d.pw.noKa = false ∧ e = (if d.pw.st =
        .hold then d else d.enterHold.journalKa 0xA631 1 0)) ∧
    (∃ (s : State) (d : Dev) (t : Nat) (e : Dev), d = s.at t ∧ d.pw.porst = false ∧ d.pw.noKa = false ∧ e = (if d.pw.st =
        .hold then d else d.enterHold.journalKa 0xA631 1 0)) :=
  ⟨⟨at0 (svc), _, 0, rfl⟩,
    ⟨at0 (svc), _, 0, rfl, by decide +kernel, by decide +kernel⟩,
    ⟨at0 (svc), _, 0, rfl, by decide +kernel, by decide +kernel⟩,
    ⟨at0 (svc), _, 0, [], _, rfl, by decide +kernel, by decide +kernel, rfl⟩,
    ⟨at0 (svc), _, 0, _, rfl, by decide +kernel, by decide +kernel, rfl⟩,
    ⟨at0 (svc), _, 0, _, rfl, by decide +kernel, by decide +kernel, rfl⟩,
    ⟨at0 (svc), _, 0, _, rfl, by decide +kernel, by decide +kernel, rfl⟩,
    ⟨at0 (svc), _, 0, _, rfl, by decide +kernel, by decide +kernel, rfl⟩,
    ⟨at0 (svc), _, 0, _, rfl, by decide +kernel, by decide +kernel, rfl⟩⟩

/-! ### Ill-formed terms, one for each check of WellFormed -/

/-- A boot environment whose HELLO announces period 0, an outside with nine tamper sources, a rope frame without a header.
    -/
def badBoot : BootEnv := { BootEnv.quiet with hello := some ⟨0, 0, 0, 0⟩ }
def badOutside : Outside := { Outside.quiet with alarming := 256 }
def badRope : RopeFrame := ⟨0, [0]⟩

/-- What the announcement, frame and request checks refuse. -/
def illFormedParts : List Instr :=
  [.porstNRelease 0 badBoot, .sysrstNLow 0 { BootEnv.quiet with beacon := some ⟨2 ^ 64, 1, 0, 0⟩ },
    .vddKaRestore 0 { BootEnv.quiet with beacon := some ⟨0, 2 ^ 32, 0, 0⟩ },
    .brownOutRecovery 0 { BootEnv.quiet with hello := some ⟨0, 1, 4, 0⟩ }, .rebootFromRack 0 .hlb badBoot,
    .transitionComplete 0 false (2 ^ 256) .quiet, .transitionComplete 0 false 0 badBoot, .wakeCommand 0 2 .quiet,
    .wakeCommand 0 0 badBoot, .bootThermalHoldEnd 0 (2 ^ 15) .quiet, .bootThermalHoldEnd 0 0 badBoot,
    .helloReceived 0 badRope, .heartbeatReceived 0 ⟨2 ^ 48, be 8 0⟩, .modeRelayReceived 0 ⟨0, List.replicate 1515 0⟩,
    .canFrameReceived 0 0 canFrame ⟨1, .quiet⟩, .canFrameReceived 1 0 canFrame ⟨0, badOutside⟩,
    .canFrameReceived 1 0 { canFrame with ident := 2 ^ 11 } ⟨0, .quiet⟩,
    .canFrameReceived 1 0 { canFrame with ide := true, ident := 2 ^ 29 } ⟨0, .quiet⟩,
    .canFrameReceived 1 0 { canFrame with brs := true } ⟨0, .quiet⟩, .canFrameReceived 1 0 { canFrame with esi := true } ⟨0, .quiet⟩,
    .canFrameReceived 1 0 { canFrame with data := List.replicate 9 0 } ⟨0, .quiet⟩,
    .canFrameReceived 1 0 { canFrame with rtr := true, data := [0] } ⟨0, .quiet⟩,
    .canFrameReceived 1 0 { canFrame with fdf := true, rtr := true } ⟨0, .quiet⟩,
    .canFrameReceived 1 0 { canFrame with fdf := true, data := List.replicate 9 0 } ⟨0, .quiet⟩]
def illFormedRequests : List Instr :=
  [.odAccessRead 0 { odq with srcMac := 2 ^ 48 }, .odAccessRead 0 { odq with srcIp := 2 ^ 32 },
    .odAccessRead 0 { odq with srcPort := 2 ^ 16 }, .odAccessRead 0 { odq with id := 2 ^ 32 },
    .odAccessRead 0 { odq with node := 2 ^ 16 }, .odAccessRead 0 { odq with idx := 2 ^ 16 },
    .odAccessDomainRead 0 { odq with sub := 256 }, .odAccessDomainWrite 0 { odq with len := 1025 },
    .odAccessDomainCommit 0 { odq with offset := 2 ^ 32 }, .odAccessDomainAbort 0 { odq with len := 0, data := [0] },
    .odAccessWrite 0 odq badOutside, .odAccessWrite 0 { odq with sub := 256 } .quiet, .odAccessUnknownType 0 odq 6,
    .odAccessUnknownType 0 { odq with sub := 256 } 7]
/-- What the operand ranges of single commands refuse. -/
def illFormedRanges : List Instr :=
  [.odWrite 0 .hlb 0 0 (some 3) 0 .quiet, .odWrite 0 .hlb 0 0 none 0 badOutside, .heldLowWordDiscard 0 .od,
    .lowWordReadSnapshot 0 .od 0 0, .sdoExpeditedDownload 0 false 0 0 (some 5) 0 .quiet,
    .sdoExpeditedDownload 0 false 0 0 none 0 badOutside, .sdoSegmentedDownloadInitiate 0 false 0 0 (some (2 ^ 32)),
    .sdoDownloadSegment 0 false false true (List.replicate 8 0) .quiet, .sdoDownloadSegment 0 false false true []
        badOutside,
    .alertClear 0 (2 ^ 16), .itemStagesComplete 0 1024, .orderRelease 0 1024 false, .groupDeadlineExpiry 0 256,
    .handover 0 (2 ^ 192), .beaconReceived 0 0 (List.replicate 1473 0) 0, .beaconReceived 0 0 [] 1, .gateOpen 0 0 256,
    .gateClose 0 0 256, .aliveLost 0 1, .backboneFrameReceived 0 0 [] 0 false .quiet,
    .backboneFrameReceived 0 0 (List.replicate 14 0) 1 false .quiet,
    .backboneFrameReceived 0 0 (List.replicate 14 0) 0 false badOutside, .linkUp 0 0 64, .whistleFrame 0 0 [] 0 false,
    .whistleFrame 0 0 (List.replicate 14 0) 1 false, .serialCharDecided 0 0 [] 1,
        .lineStuckEntry 0 0 1,
    .lineStuckExit 0 0 1, .canStuckDominant 0 0 1, .canStuckClear 0 0 1]
def illFormedHost : List Instr :=
  [.hlbLocalAccess 0 0 (.read 0) .quiet, .hlbLocalAccess 0 0 (.write []) .quiet, .hlbLocalAccess 0 0 (.write [(2 ^ 32,
      0)]) .quiet,
    .hlbLocalAccess 0 0 (.write [(0, 16)]) .quiet, .hlbLocalAccess 0 0 (.read 1) badOutside, .hlbRemoteRead 0 0 0 false,
    .hlbRemoteWrite 0 0 [] false, .remoteFetchComplete 0 0 (.ok (2 ^ 64) none), .remoteFetchComplete 0 0 (.ok 0 (some (2 ^
        64))),
    .postedWriteComplete 0 0 (.abort (2 ^ 32)), .mailboxComplete 0 (.abort (2 ^ 32)), .pcieBar0Access 0 0 0 none .quiet,
    .pcieBar0Access 0 0 9 none .quiet, .pcieBar0Access 0 0 4 none badOutside, .ringProducerWrite 0 0 0 [2 ^ 16],
    .hostTxDescriptorFetch 0 0 ⟨[], some (2 ^ 64), none, false⟩, .hostTxDescriptorFetch 0 0 ⟨[], none, some (256, 0),
        false⟩,
    .hostTxDescriptorFetch 0 0 ⟨[], none, some (0, 256), false⟩, .ringBaseSizeWrite 0 0 1 0]
def illFormedUnit : List Instr :=
  [.lowPowerEntry 1 0, .thermAssert 0 (2 ^ 15), .thermRelease 0 (-(2 ^ 15) - 1), .thermalTrip 0 (2 ^ 15),
    .temperatureSample 0 (2 ^ 15), .brownOut 0 0 none, .brownOut 0 8 none, .brownOut 0 1 (some (2 ^ 15)), .pllLockLoss 0 0,
    .pllLockLoss 0 32, .pllLockRegain 0 0, .pllLockRegain 0 32, .tamperLatchClear 0 .hlb 0 256, .snapshotComplete 0 (some
        (2 ^ 20)),
    .scrubPass 0 0 [(2 ^ 32, .other)]]

theorem test_wf_refuses_parts : illFormedParts.all (fun i => !i.wf) = true := by decide +kernel
theorem test_wf_refuses_requests : illFormedRequests.all (fun i => !i.wf) = true := by decide +kernel
theorem test_wf_refuses_ranges : illFormedRanges.all (fun i => !i.wf) = true := by decide +kernel
theorem test_wf_refuses_host : illFormedHost.all (fun i => !i.wf) = true := by decide +kernel
theorem test_wf_refuses_unit : illFormedUnit.all (fun i => !i.wf) = true := by decide +kernel
/-- Terms at the ends of their ranges are commands. -/
theorem test_wf_accepts : [Instr.pllLockLoss 0 31, .alertClear 0 0xFFFF, .canError 0 0 false .error, .gateOpen 0 0 255, .linkUp 0 4 63,
    .canFrameReceived 1 0 { canFrame with fdf := true, data := List.replicate 64 0 } ⟨1, .quiet⟩, .odAccessUnknownType 0 odq 7,
    .thermalTrip 0 (2 ^ 15 - 1), .helloReceived 0 ⟨2 ^ 48 - 1, List.replicate 1514 0⟩].all Instr.wf = true := by
        decide +kernel

/-! ### Single steps -/

/-- The block that a command leaves. -/
def after (c : Instr) (s : State) : Dev :=
  match exec c s with
  | .next u => u.dev
  | _ => s.dev

/-- R36: an accepted OD write leaves its value in the entry. -/
theorem test_write_lands : (after (.odWrite 0 .hlb 0x2A03 1 (some 4) 5 .quiet) (at0 svc)).get 0x2A03 1 = 5 := by
    decide +kernel
/-- R36: a read-only entry keeps its value. -/
theorem test_write_read_only : (after (.odWrite 0 .hlb 0x2000 1 (some 4) 5 .quiet) (at0 svc)).get 0x2000 1 = svc.get
    0x2000 1 := by
  decide +kernel
/-- R349: releasing PORST_N boots the block out of OFF. -/
theorem test_power_on : (after (.porstNRelease 0 .quiet) State.reset).pw.porst = false := by decide +kernel
/-- R351: PORST_N low turns the core off. -/
theorem test_porst_low : (after (.porstNLow 0) (at0 svc)).coreOn = false := by decide +kernel
/-- R425: a scan-port reset selects IDCODE. -/
theorem test_tap_reset : (after (.tapReset 0) (at0 svc)).tap.instr = .idcode := by decide +kernel
/-- R17: the window of newer sequence numbers, at its ends and across the wrap. -/
theorem test_newer : [newer32 1 0, newer32 (2 ^ 31 - 1) 0, newer32 (2 ^ 31) 0, newer32 0 0, newer32 0 (2 ^ 32 - 1)]
    = [true, true, false, false, true] := by decide +kernel
/-- R97: the ends of the two ranges of address characters. -/
theorem test_address_codes : [addrCode 0x30, addrCode 0x39, addrCode 0x41, addrCode 0x5A] = [0, 9, 10, 35] := by decide
/-- R371: the moves of the life cycle, and one that is not permitted. -/
theorem test_life_moves : [Life.factory.permits .owned, Life.owned.permits .service, Life.service.permits .secondLife,
    Life.secondLife.permits .retired, Life.owned.permits .factory] = [true, true, true, true, false] := by decide
/-- R350, R352: a trip stops the block in HOLD. -/
theorem test_trip_holds : (after (.thermalTrip 0 141) (at0 svc)).pw.st = .hold := by decide +kernel

end Sys2Proof.Tests
end

section
/-! What a rejected write answers and leaves: R36's checks in their order, one lemma for each cause, and the rejected
OD_WRITE (R7, R29, R36). -/

namespace Sys2Proof.Proofs

open Sys2Proof Sys2Proof.Machine Sys2Proof.Laws

/-- Over a transport that may not write, checks stop at the first. -/
theorem writeCheck_disabled {d : Dev} {tr : Transport} {idx sub v : Nat} {size : Option Nat}
    (he : d.enabled tr true = false) : d.writeCheck tr idx sub size v = some (.unsupported, false) := by
  simp [Dev.writeCheck, Dev.absent, he]

/-- A slot with no entry is told apart by whether its index has another (R36, checks 2 and 3). -/
theorem writeCheck_unassigned {d : Dev} {tr : Transport} {idx sub v : Nat} {size : Option Nat}
    (he : d.enabled tr true = true) (hr : dictFind idx sub = none) :
    d.writeCheck tr idx sub size v = some (if dictHasIndex idx then .noSub else .noIndex, false) := by
  by_cases hi : dictHasIndex idx = true <;> simp [Dev.writeCheck, Dev.absent, he, hr, hi]

/-- An entry that is there passes checks 1 to 3 over an enabled transport. -/
theorem absent_eq_none {d : Dev} {tr : Transport} {write : Bool} {idx sub : Nat} {r : OdRow}
    (he : d.enabled tr write = true) (hr : dictFind idx sub = some r) : d.absent tr write idx sub = none := by
  simp [Dev.absent, he, hr]

/-- The data has the size of its entry wherever the transport gives a size. -/
theorem size_fits_iff {size : Option Nat} {n : Nat} :
    (∀ m, size = some m → m = n) ↔ ¬ (size.isSome ∧ size ≠ some n) := by
  cases size <;> simp

section Entry

variable {d : Dev} {tr : Transport} {idx sub v : Nat} {size : Option Nat} {r : OdRow}
  (he : d.enabled tr true = true) (hr : dictFind idx sub = some r)
include he hr

/-- A constant or read-only entry takes no write. -/
theorem writeCheck_readOnly (ha : r.acc = .ro ∨ r.acc = .const) :
    d.writeCheck tr idx sub size v = some (.readOnly, false) := by
  simp [Dev.writeCheck, absent_eq_none he hr, hr, ha]

variable (ha : ¬ (r.acc = .ro ∨ r.acc = .const))
include ha

/-- A DOMAIN takes no write of a value. -/
theorem writeCheck_domain (ht : r.ty = .domain) : d.writeCheck tr idx sub size v = some (.unsupported, false) := by
  simp [Dev.writeCheck, absent_eq_none he hr, hr, ha, ht]

variable (ht : r.ty ≠ .domain)
include ht

/-- Data of another size than the entry's is refused before its value is looked at. -/
theorem writeCheck_length (hz : size.isSome ∧ size ≠ some r.ty.size) :
    d.writeCheck tr idx sub size v = some (.length, false) := by
  simp [Dev.writeCheck, absent_eq_none he hr, hr, ha, ht, hz]

variable (hz : ¬ (size.isSome ∧ size ≠ some r.ty.size))
include hz

/-- A conflict with the device state is reported before the value. -/
theorem writeCheck_state (hs : d.stateConflict tr r idx sub v = true) :
    d.writeCheck tr idx sub size v = some (.state, false) := by
  simp only [Dev.writeCheck, absent_eq_none he hr, hr, if_neg ha, if_neg ht, if_neg hz, if_pos hs]

/-- A value that fails is reported last, and only there can the write be one of a reserved value. -/
theorem writeCheck_value (hs : d.stateConflict tr r idx sub v = false)
    (hv : d.verdict tr idx sub (keptMask idx sub v) ≠ .ok) :
    d.writeCheck tr idx sub size v = some (.value, decide (d.verdict tr idx sub (keptMask idx sub v) = .reserved)) := by
  simp only [Dev.writeCheck, absent_eq_none he hr, hr, if_neg ha, if_neg ht, if_neg hz, hs, Bool.false_eq_true, if_false]
  cases hverdict : d.verdict tr idx sub (keptMask idx sub v) with
  | ok => exact absurd hverdict hv
  | range => rfl
  | reserved => rfl

end Entry

/-- An OD_WRITE that a check stops touches the block it names and raises the alert of its rejection, and has no other
effect (R29). -/
theorem exec_odWrite_rejected {s : State} {t : Nat} {tr : Transport} {idx : BitVec 16} {sub : BitVec 8} {size : Option Nat}
    {v : Word64} {x : Outside} {a : Abort} {reserved : Bool} (hon : (s.at t).reaches tr = true)
    (hc : (s.at t).writeCheck tr idx.toNat sub.toNat size v.toNat = some (a, reserved)) :
    exec (.odWrite t tr idx sub size v x) s = .next (s.finish (
      (((s.at t).accessBegins tr).touch tr idx.toNat).rejectAlert tr idx.toNat sub.toNat
        (slotAddress idx.toNat sub.toNat) reserved)) :=
  core_next rfl (coreOn_of_reaches hon) (writeOd_rejected hon hc)

/-- Settles O10, from one lemma for each check of R36 and the rejected OD_WRITE. -/
theorem rejectedWrites : Obligations.RejectedWrites := by
  unfold Obligations.RejectedWrites
  refine ⟨fun d tr idx sub size v => ⟨writeCheck_disabled, writeCheck_unassigned, fun r he hr => ⟨?_, ?_, ?_, ?_, ?_⟩⟩, ?_⟩
  · exact writeCheck_readOnly he hr
  · exact fun hro hconst => writeCheck_domain he hr (not_or_intro hro hconst)
  · rintro hro hconst ht ⟨n, rfl, hn⟩
    exact writeCheck_length he hr (not_or_intro hro hconst) ht ⟨rfl, by simpa using hn⟩
  · intro hro hconst ht hz
    exact writeCheck_state he hr (not_or_intro hro hconst) ht (size_fits_iff.mp hz)
  · intro hro hconst ht hz
    exact writeCheck_value he hr (not_or_intro hro hconst) ht (size_fits_iff.mp hz)
  · rintro s _ t tr idx sub size v x a reserved rfl hon hc
    rw [accessBegins_reaches] at hon
    rw [accessBegins_writeCheck] at hc
    exact exec_odWrite_rejected hon hc

end Sys2Proof.Proofs
end

section
/-! The order of sequence numbers, and what the receiver window does with a record of its own generation (R17, R90, R93,
R257). -/

namespace Sys2Proof.Proofs

open Sys2Proof Sys2Proof.Machine Sys2Proof.Laws

/-- For a 32-bit `b` the model's reduction of `b` drops out, which leaves the difference as R17 writes it. -/
theorem newer32_iff {a b : Nat} (hb : b < 2 ^ 32) :
    newer32 a b = true ↔ 1 ≤ (a + 2 ^ 32 - b) % 2 ^ 32 ∧ (a + 2 ^ 32 - b) % 2 ^ 32 ≤ 2 ^ 31 - 1 := by
  simp only [newer32, Nat.mod_eq_of_lt hb, Bool.and_eq_true, decide_eq_true_eq]

/-- The difference across a gap is the gap, also where the sequence wraps. -/
theorem sub_mod_of_gap {b gap : Nat} (hb : b < 2 ^ 32) (hgap : gap < 2 ^ 32) :
    ((b + gap) % 2 ^ 32 + 2 ^ 32 - b) % 2 ^ 32 = gap := by
  omega

/-- A receiver accepts the next sentence after any gap shorter than 2^31 (R17). -/
theorem newer32_of_gap {b gap : Nat} (hb : b < 2 ^ 32) (hpos : 1 ≤ gap) (hgap : gap < 2 ^ 31) :
    newer32 ((b + gap) % 2 ^ 32) b = true := by
  rw [newer32_iff hb, sub_mod_of_gap hb (by omega)]
  omega

/-- Within the window's generation the sequence alone decides, and no record is stale (R257). -/
theorem judge_of_window_gen {d : Dev} {gsid seq row : Nat} {w : TwinWindow} (hrow : d.twinRow gsid = some row)
    (hw : d.twins.find? (fun w => w.stream = row) = some w) :
    d.judge gsid w.gen seq = if newer32 seq w.seq then .newer else .duplicate := by
  simp only [Dev.judge, hrow, Option.bind_some, hw, if_pos]

/-- A duplicate adds to the twin duplicates alone; 0x1C04:03 counts the stale ones (R90, R257). -/
theorem duplicate_of_duplicate (d : Dev) : d.duplicate .duplicate = d.count 0x2234 3 := by
  simp [Dev.duplicate]

/-- Of a duplicate record from another team nothing is parsed: its receipt and the duplicate are counted (R90, R93). -/
theorem twinRecord_of_duplicate {d : Dev} {a : Arrival} {h : TwinHead} {head body : List Byte} (hown : h.own = false)
    (hdup : (d.count 0x2234 2).judge (beAt head 0 4 % 2 ^ 30) h.gen (beAt head 4 4) = .duplicate) :
    d.twinRecord a h head body = (d.count 0x2234 2).count 0x2234 3 := by
  rw [Dev.twinRecord, hown, if_neg Bool.false_ne_true, hdup]
  exact duplicate_of_duplicate _

/-- Settles O16, from the order of sequence numbers (R17), the window's judgement (R257) and the handling of a duplicate
(R90, R93). -/
theorem sequenceWindow : Obligations.SequenceWindow := by
  unfold Obligations.SequenceWindow
  refine ⟨?_, ?_, ?_, ?_⟩
  · exact fun a b _ hb => newer32_iff hb
  · exact fun b gap => newer32_of_gap
  · rintro d gsid _ seq row w hrow hw rfl
    exact judge_of_window_gen hrow hw
  · exact fun d a h head body => twinRecord_of_duplicate

end Sys2Proof.Proofs
end

section
/-! What an alert touches: emitting, journalling and raising keep all of the block but its dictionary, its outputs, the alert
list and log, the CAN queues, the items that wait for a tag, and the rope transmitter's counters (R40, R42, R412). -/

namespace Sys2Proof.Proofs

open Sys2Proof Sys2Proof.Machine Sys2Proof.Laws

/-- The block with everything blanked that an alert may touch; of the team the role alone stays. -/
def unalerted (d : Dev) : Dev :=
  { d with out := [], od := [], stuckAt := 0, stuckBits := [], alerts := [], log := {}, since := [], waitTag := [], can := []
           msix := {}, team := { role := d.team.role } }

/-- What both branches keep, their choice keeps. -/
theorem unalerted_ite {p : Prop} [Decidable p] {a b d : Dev} (ha : unalerted a = unalerted d)
    (hb : unalerted b = unalerted d) : unalerted (if p then a else b) = unalerted d := by
  split <;> assumption

/-- An interrupt cause is a sticky bit, and its message is sent or left pending (R331, R332). -/
theorem unalerted_cause (d : Dev) (i : Nat) : unalerted (d.cause i) = unalerted d :=
  unalerted_ite (unalerted_ite rfl rfl) rfl

/-- A free controller that starts a frame changes its own channel. -/
theorem unalerted_canNext (d : Dev) (n : Nat) : unalerted (d.canNext n) = unalerted d := by
  refine unalerted_ite rfl ?_
  split <;> rfl

/-- A frame of the SDO channel joins that channel's queue. -/
theorem unalerted_sdoQueue (d : Dev) (f : CanFrame) : unalerted (d.sdoQueue f) = unalerted d := by
  unfold Dev.sdoQueue
  split
  · exact unalerted_canNext _ _
  · rfl

/-- A rope frame leaves its bytes among the outputs and moves the transmitter's counters. -/
theorem unalerted_ropeSend (d : Dev) (type : Nat) (body : List Byte) :
    unalerted (d.ropeSend type body) = unalerted d := by
  refine unalerted_ite rfl ?_
  dsimp only
  split <;> rfl

/-- A record of the unit waits for a tag, leaves over the rope, or is dropped (R70). -/
theorem unalerted_internal (d : Dev) (src istream stamp : Nat) (bytes : List Byte) :
    unalerted (d.internal src istream stamp bytes) = unalerted d :=
  have relayed := unalerted_ropeSend d 0x50 (be 8 stamp ++ be 1 istream ++ bytes)
  unalerted_ite rfl (unalerted_ite rfl (unalerted_ite (unalerted_ite (unalerted_ite relayed relayed) rfl) rfl))

/-- An alert change goes to the interrupt cause, the CAN channel and the sentence path. -/
theorem unalerted_alertEmit (d : Dev) (code sev detail stamp : Nat) (raised : Bool) :
    unalerted (d.alertEmit code sev detail stamp raised) = unalerted d :=
  have caused : unalerted ((d.emit (.alert code raised detail)).cause 0) = unalerted d := unalerted_cause _ _
  (unalerted_internal _ _ _ _ _).trans (unalerted_ite ((unalerted_sdoQueue _ _).trans caused) caused)

/-- A journal entry joins the write queue or is counted as lost. -/
theorem unalerted_journalQueue (d : Dev) (code flags detail stamp : Nat) :
    unalerted (d.journalQueue code flags detail stamp) = unalerted d :=
  unalerted_ite rfl rfl

/-- A raise changes the alert list and, where the alert is new, emits it. -/
theorem unalerted_raiseCore (d : Dev) (code sev detail : Nat) : unalerted (d.raiseCore code sev detail) = unalerted d :=
  unalerted_ite rfl (unalerted_alertEmit _ _ _ _ _ _)

/-- A full write queue loses the entry and raises 0xA621 (R413). -/
theorem unalerted_journal (d : Dev) (code flags detail : Nat) : unalerted (d.journal code flags detail) = unalerted d :=
  have queued := unalerted_journalQueue d code flags detail d.stamp
  unalerted_ite queued ((unalerted_raiseCore _ _ _ _).trans queued)

/-- Outside a boot an alert is raised at once, and nothing of the power state waits for it. -/
theorem unalerted_raise {d : Dev} (hboot : d.pw.st ≠ .boot) (code sev detail : Nat) :
    unalerted (d.raise code sev detail) = unalerted d := by
  rw [Dev.raise, if_neg (by simpa using hboot)]
  have counted : unalerted (if d.alerts.any (fun a => a.code = code) then d
      else { d with since := SMap.set (fun _ => 0) d.since code 0 }) = unalerted d := unalerted_ite rfl rfl
  have raised := (unalerted_raiseCore _ code sev detail).trans counted
  exact unalerted_ite ((unalerted_journal _ _ _ _).trans raised) raised

/-- Settles O12: raising an alert keeps `unalerted`, and each part the statement names is a part of it. -/
theorem alertsTouchNothingElse : Obligations.AlertsTouchNothingElse := by
  unfold Obligations.AlertsTouchNothingElse
  rintro d _ code sev detail hboot rfl
  have kept {α : Type} (part : Dev → α) : part (unalerted (d.raise code sev detail)) = part (unalerted d) :=
    congrArg part (unalerted_raise hboot code sev detail)
  exact ⟨kept Dev.now, kept Dev.pw, kept Dev.tap, kept Dev.clk, kept Dev.vault, kept Dev.ledger, kept Dev.loops,
    kept Dev.pitch, kept Dev.discrete, kept Dev.words, kept Dev.dom, kept Dev.blocks, kept Dev.flashA, kept Dev.flashB,
    kept Dev.rows, kept Dev.overlays, kept Dev.staged, kept Dev.lanes, kept Dev.plan, kept Dev.seqs, kept Dev.sels,
    kept Dev.ports, kept Dev.ser, kept Dev.bridge, kept Dev.rings, kept Dev.twins, kept Dev.mirror,
    kept (fun e => e.team.role)⟩

end Sys2Proof.Proofs
end

section
/-! What follows a command in a calm block, and the audit that is due there all the same (R223). -/

namespace Sys2Proof.Proofs

open Sys2Proof Sys2Proof.Machine Sys2Proof.Laws Sys2Proof.Safety

/-- Changes of mirrored state are issued by a unit that was ACTIVE and still is (R209). -/
theorem mirrorSync_of_not_active {old d : Dev} (hrole : d.team.role ≠ .active) : Dev.mirrorSync old d = d := by
  simp [Dev.mirrorSync, hrole]

/-- The audits of a leg leave, or are dropped where nothing mirrors: none is due afterwards (R223). -/
theorem auditsLeave_of_not_mirrors {d : Dev} (hm : d.mirrors = false) :
    d.auditsLeave = { d with mirror := { d.mirror with auditDue := false } } := by
  by_cases hdue : d.mirror.auditDue = true
  · have hm' : ({ d with mirror := { d.mirror with auditDue := false } } : Dev).mirrors = false := hm
    simp only [Dev.auditsLeave, hdue, if_true, Dev.sendAudits, hm', Bool.not_false]
  · rw [Dev.auditsLeave, if_neg hdue, ← Bool.eq_false_iff.mpr hdue]

/-- Only a boot waits for its pair join (R349). -/
theorem bootSettle_of_not_boot {d : Dev} (hboot : d.pw.st ≠ .boot) : d.bootSettle = d := by
  simp [Dev.bootSettle, hboot]

/-- In a calm block of a unit that is not ACTIVE, with the quality unchanged, a command is followed by one thing: no audit
stays due. -/
theorem settle_of_calm {o : Otp} {old d : Dev} (hcalm : Calm d) (hq : old.pitch.quality = d.pitch.quality)
    (hrole : d.team.role ≠ .active) :
    Dev.settle o old d = { d with mirror := { d.mirror with auditDue := false } } := by
  obtain ⟨hboot, hlooped, howed, hmirrors⟩ := hcalm
  have hquality : Dev.noteQuality old d = d := if_pos hq
  have hflush : d.ledFlush = d := by simp [Dev.ledFlush, howed]
  calc Dev.settle o old d
    _ = (Dev.mirrorSync old (Dev.noteQuality old (if d.looped.isEmpty then d else d.loopDeliver o .quiet)).ledFlush
          ).auditsLeave.bootSettle := rfl
    _ = d.auditsLeave.bootSettle := by
      rw [hlooped, List.isEmpty_nil, if_pos rfl, hquality, hflush, mirrorSync_of_not_active hrole]
    _ = { d with mirror := { d.mirror with auditDue := false } } := by
      rw [auditsLeave_of_not_mirrors hmirrors]
      exact bootSettle_of_not_boot hboot

/-- A unit alone in SERVICE with nothing owed but an audit of the leg. -/
def auditDueUnit : State :=
  { State.reset with
    dev := { pw := { st := .service, porst := false }, team := { role := .solo }, mirror := { auditDue := true } } }

/-- Refutes O13: `Calm` does not ask that no audit is due, and what follows every command clears one that is. In
`auditDueUnit`, which is calm, TAP_RESET changes the mirroring state beside the scan port. -/
theorem not_quietCommandsFrame : ¬ Obligations.QuietCommandsFrame := by
  unfold Obligations.QuietCommandsFrame
  intro h
  have hcalm : Calm (auditDueUnit.at 0) := ⟨by decide, rfl, rfl, rfl⟩
  have hkeeps : Dev.settle auditDueUnit.otp auditDueUnit.dev (auditDueUnit.at 0).tapReset = _ :=
    congrArg State.dev (Host.Outcome.next.inj (h auditDueUnit (auditDueUnit.at 0) 0 rfl hcalm).1)
  have hclears : Dev.settle auditDueUnit.otp auditDueUnit.dev (auditDueUnit.at 0).tapReset = _ :=
    settle_of_calm hcalm rfl (by decide)
  exact Bool.false_ne_true (congrArg (fun e => e.mirror.auditDue) (hclears.symm.trans hkeeps))

end Sys2Proof.Proofs
end

section
/-! The object dictionary: an entry read after a write, and the form in which commands write an entry that the checks of R36
pass (R22, R24, R27, R28). -/

namespace Sys2Proof.Proofs

open Sys2Proof Sys2Proof.Machine Sys2Proof.Laws Sys2Proof.Safety

/-- Different entries have different keys, as a subindex is one byte. -/
theorem odKey_inj {idx sub idx' sub' : Nat} (hsub : sub < 256) (hsub' : sub' < 256) :
    odKey idx' sub' = odKey idx sub ↔ (idx', sub') = (idx, sub) := by
  rw [Prod.mk.injEq, odKey, odKey]
  omega

/-- An entry of a canonical dictionary reads what was stored, and the others read as before. -/
theorem get_put {d : Dev} {idx sub v idx' sub' : Nat} (hwf : SMap.wf odDefault d.od = true) (hsub : sub < 256)
    (hsub' : sub' < 256) :
    (d.put idx sub v).get idx' sub' = if (idx', sub') = (idx, sub) then v else d.get idx' sub' := by
  rw [Dev.get, Dev.put, get_set (odKey idx sub) v (odKey idx' sub') hwf]
  simp only [odKey_inj hsub hsub', Dev.get]

/-- Settles O11, from a read after a write in a sparse list. -/
theorem dictionaryReadAfterWrite : Obligations.DictionaryReadAfterWrite := by
  unfold Obligations.DictionaryReadAfterWrite
  intro d idx sub v idx' sub' hwf hsub hsub'
  refine ⟨wf_set _ v hwf, ?_, fun hne => ?_⟩
  · rw [get_put hwf hsub hsub, if_pos rfl]
  · rw [get_put hwf hsub hsub', if_neg hne]

/-- A command that writes an entry which no check of R36 stops leaves the effect of the entry, on the block whose access
has ended its initiator's snapshots. -/
theorem core_writeOd {s : State} {t : Nat} {tr : Transport} {idx sub v : Nat} {size : Option Nat} {x : Outside} {r : OdRow}
    {d e : Dev} (hd : d = (s.at t).accessBegins tr) (hon : d.reaches tr = true) (hc : d.writeCheck tr idx sub size v = none)
    (hr : dictFind idx sub = some r) (he : d.writeEntry s.otp tr r idx sub v x = e) :
    s.core t (fun d => d.writeOd s.otp tr idx sub size v x) = .next (s.finish e) := by
  subst hd
  rw [accessBegins_reaches] at hon
  rw [accessBegins_writeCheck] at hc
  exact core_next rfl (coreOn_of_reaches hon) ((writeOd_accepted hon hc hr).trans he)

/-- A command that reads an entry which no check of R36 stops answers its value, on the block whose access has ended its
initiator's snapshots. -/
theorem core_readTaken {s : State} {t : Nat} {tr : Transport} {idx sub v : Nat} {d e : Dev}
    (hd : d = (s.at t).accessBegins tr) (hon : d.reaches tr = true) (hc : d.readCheck tr idx sub = none)
    (he : d.readEntry tr idx sub = (e, v)) :
    s.core t (fun d => d.readTaken tr idx sub) = .next (s.finish (e.valueTaken tr v)) := by
  subst hd
  rw [accessBegins_reaches] at hon
  refine core_next rfl (coreOn_of_reaches hon) ?_
  simp only [Dev.readTaken, hon, Bool.not_true, Bool.false_eq_true, if_false, Dev.readAccess, hc, he]

/-- OD_WRITE that no check of R36 stops has the effect of its entry. -/
theorem exec_odWrite_accepted {s : State} {t : Nat} {tr : Transport} {idx : BitVec 16} {sub : BitVec 8} {size : Option Nat}
    {v : Word64} {x : Outside} {r : OdRow} {d e : Dev} (hd : d = (s.at t).accessBegins tr) (hon : d.reaches tr = true)
    (hc : d.writeCheck tr idx.toNat sub.toNat size v.toNat = none) (hr : dictFind idx.toNat sub.toNat = some r)
    (he : d.writeEntry s.otp tr r idx.toNat sub.toNat v.toNat x = e) :
    exec (.odWrite t tr idx sub size v x) s = .next (s.finish e) :=
  core_writeOd hd hon hc hr he

/-- A low word held for more than 1 ms is dropped (R28). -/
theorem lowLapse_of_expired {d : Dev} {tr : Transport} {i j lo a : Nat} (hw : (d.words.get tr).held = some (i, j, lo, a))
    (hlate : a + msCycles < d.now) :
    d.lowLapse tr = { d with words := d.words.set tr { d.words.get tr with held := none } } := by
  simp only [Dev.lowLapse, hw, if_pos hlate, Dev.setWords]

/-- The low word of a readable 64-bit entry is read over a word transport with a snapshot of the whole value (R28). -/
theorem snapshotRead_of_wide {d e : Dev} {tr : Transport} {idx sub v : Nat} {r : OdRow} (hon : d.reaches tr = true)
    (htr : tr = .hlb ∨ tr = .pcie) (hr : dictFind idx sub = some r) (hwide : r.ty.wide = true) (hacc : r.acc ≠ .wo)
    (he : (d.windowSnapsEnd tr).readEntry tr idx sub = (e, v)) :
    d.snapshotRead tr idx sub =
      (e.setWords tr { e.words.get tr with snap := some (idx, sub, v) }).valueTaken tr (bits v 31 0) := by
  have hword : ¬ ((!d.reaches tr) = true ∨ tr = .sdo ∨ tr = .od) := by
    rcases htr with rfl | rfl <;> simp [hon]
  simp only [Dev.snapshotRead, if_neg hword, hr, if_pos (And.intro hwide hacc), Dev.lowRead, he]

/-- Settles O19, from the effect of an accepted write, the lapse of a low word and the snapshot of a low-word read. -/
theorem acceptedWritesAndSnapshots : Obligations.AcceptedWritesAndSnapshots := by
  unfold Obligations.AcceptedWritesAndSnapshots
  refine ⟨?_, ?_, ?_, ?_, ?_⟩
  · exact fun s d t tr idx sub size v x r hd hon hc hr => exec_odWrite_accepted hd hon hc hr rfl
  · exact fun s d t tr size v x hd hon hc => exec_odWrite_accepted hd hon hc rfl rfl
  · exact fun s d t tr size v x hd hon hc => exec_odWrite_accepted hd hon hc rfl rfl
  · exact fun s d t tr i j lo a hd hon hw hlate => core_next hd hon (lowLapse_of_expired hw hlate)
  · exact fun s d t tr idx sub r e v hd hon htr hr hwide hacc he =>
      core_next hd (coreOn_of_reaches hon) (snapshotRead_of_wide hon htr hr hwide hacc he)

end Sys2Proof.Proofs
end

section
/-! The domain port of a transport (R30). -/

namespace Sys2Proof.Proofs

open Sys2Proof Sys2Proof.Machine Sys2Proof.Laws Sys2Proof.Safety

section Accesses

variable {s : State} {t : Nat} {tr : Transport} {d : Dev} (hd : d = (s.at t).accessBegins tr)
include hd

/-- DOMAIN_TARGET_WRITE is the write of Target. -/
theorem exec_domainTargetWrite {v : Word32} (ha : Accepted d tr 0x2010 1 v.toNat) :
    exec (.domainTargetWrite t tr v) s = .next (s.finish (d.domTarget tr v.toNat)) :=
  core_writeOd hd ha.1 ha.2 rfl rfl

/-- DOMAIN_DATA_WRITE is the write of Data. -/
theorem exec_domainDataWrite {v : Word32} (ha : Accepted d tr 0x2010 3 v.toNat) :
    exec (.domainDataWrite t tr v) s = .next (s.finish (d.domDataWrite tr v.toNat)) :=
  core_writeOd hd ha.1 ha.2 rfl rfl

/-- DOMAIN_COMMIT is the write of 1 to Control. -/
theorem exec_domainCommit (ha : Accepted d tr 0x2010 4 1) :
    exec (.domainCommit t tr) s = .next (s.finish (d.domCommit tr)) :=
  core_writeOd hd ha.1 ha.2 rfl rfl

/-- DOMAIN_DISCARD is the write of 2 to Control. -/
theorem exec_domainDiscard (ha : Accepted d tr 0x2010 4 2) :
    exec (.domainDiscard t tr) s = .next (s.finish (d.domDiscard tr)) :=
  core_writeOd hd ha.1 ha.2 rfl rfl

end Accesses

/-- A read of Data takes four bytes of a DOMAIN other than 0x2A10, and moves the offset on. -/
theorem domDataRead_of_domain {d : Dev} {tr : Transport} {p : DomainPort} (hp : d.dom.get tr = p)
    (hdomain : isDomain p.idx p.sub = true) (hexport : p.idx ≠ 0x2A10) :
    d.domDataRead tr = (d.setPortal tr { p with offset := (p.offset + 4) % 2 ^ 32, last := d.now },
      ofLe (((d.domainBytes p.idx p.sub).drop p.offset).take 4)) := by
  subst hp
  simp only [Dev.domDataRead, if_pos hdomain, Dev.domainRead, hexport, false_and, if_false]

/-- A commit that passes its checks gives the DOMAIN the written bytes and leaves the port with none. -/
theorem domCommit_of_admitted {d e : Dev} {tr : Transport} {p : DomainPort} (hp : d.dom.get tr = p)
    (hc : d.commitCheck p.idx p.sub p.len = 2) (he : d.domainCommit p.idx p.sub (writtenBytes p.written p.len) = e) :
    d.domCommit tr = e.setPortal tr { p with
      written := [], len := 0, status := 2, last := e.now, copy := (e.dom.get tr).copy } := by
  subst hp he
  simp only [Dev.domCommit, hc, if_true]

/-- A transfer that is open and has been idle for more than 1,000 ms is discarded. -/
theorem domTimeout_of_idle {d : Dev} {tr : Transport} (hopen : (d.dom.get tr).status = 1)
    (hlate : (d.dom.get tr).last + 1000 * msCycles < d.now) : d.domTimeout tr = d.domDiscard tr :=
  if_pos (by simp only [Dev.domIdle, hopen, hlate, decide_true, Bool.and_self])

/-- Settles O20, one clause for each access to a domain port, and its timeout. -/
theorem domainPortCommands : Obligations.DomainPortCommands := by
  unfold Obligations.DomainPortCommands
  refine ⟨?_, ?_, ?_, ?_, ?_, ?_⟩
  · exact fun s d t tr v hd ha => exec_domainTargetWrite hd ha
  · rintro s d t tr v _ hd ha rfl
    exact exec_domainDataWrite hd ha
  · exact fun s d t tr p hd hon hc hp hdomain hexport =>
      core_readTaken hd hon hc (domDataRead_of_domain hp hdomain hexport)
  · intro s d t tr p e hd ha hp hc he
    rw [exec_domainCommit hd ha, domCommit_of_admitted hp hc he]
    rfl
  · exact fun s d t tr hd ha => exec_domainDiscard hd ha
  · exact fun s d t tr hd hon hopen hlate => core_next hd hon (domTimeout_of_idle hopen hlate)

end Sys2Proof.Proofs
end

section
/-! Access blocks of tables: their owner, their window, and the rows they stage (R31, R32, R118). -/

namespace Sys2Proof.Proofs

open Sys2Proof Sys2Proof.Machine Sys2Proof.Laws Sys2Proof.Safety

/-- A command that writes to an access block, with no check of R36 against it, has the effect of the block's entry. -/
theorem core_writeOd_tbl {s : State} {t : Nat} {tr : Transport} {tbl : Tbl} {sub v : Nat} {x : Outside} {d e : Dev}
    (hd : d = (s.at t).accessBegins tr) (ha : Accepted d tr tbl.index sub v) (he : d.blockWrite tr tbl sub v = e) :
    s.core t (fun d => d.writeOd s.otp tr tbl.index sub none v x) = .next (s.finish e) := by
  obtain ⟨hon, hc⟩ := ha
  subst hd
  rw [accessBegins_reaches] at hon
  rw [accessBegins_writeCheck] at hc
  exact core_next rfl (coreOn_of_reaches hon) ((writeOd_tbl hon hc).trans he)

/-- An owner that has been silent for more than 1 s loses its block (R32). -/
theorem ownerTimeout_of_silent {d : Dev} {tbl : Tbl} (howned : (d.block tbl).owner ≠ 0)
    (hlate : (d.block tbl).last + secCycles < d.now) :
    d.ownerTimeout tbl = d.setBlock tbl { d.block tbl with owner := 0 } :=
  if_pos ⟨howned, hlate⟩

/-- Operation 1 loads the window with the row, in every table but the last values, which have a form of their own (R117). -/
theorem tableRead_of_row {d : Dev} {tr : Transport} {tbl : Tbl} (hlast : tbl ≠ .lastval)
    (hrow : tblHasRow tbl (d.block tbl).row = true) :
    d.tableRead tr tbl = d.setBlock tbl { d.block tbl with status := 2, window := d.readRow tbl (d.block tbl).row } := by
  simp only [Dev.tableRead, hrow, Bool.not_true, Bool.false_eq_true, if_false, hlast]

/-- While no commit runs and the staged list has room, a row without an error is staged (R118). -/
theorem stage_of_fitting {d : Dev} {st : Staged} (hcommit : d.commit = none) (hroom : d.staged.length < d.stagedTop)
    (hok : (if st.empty then (if st.tbl = .lset ∧ st.row = 0 then 5 else 0)
      else (d.addStaged st).rowError st.tbl st.row st.words) = 0) :
    d.stage st = (d.addStaged st).blockStatus st.tbl 3 := by
  simp only [Dev.stage, hcommit, Option.isSome_none, Bool.false_eq_true, if_false, Nat.not_le.mpr hroom, and_false, hok, if_true]

section Staging

variable {d : Dev} {tbl : Tbl} (hlater : tblAtOnce tbl = false) (hrow : tblHasRow tbl (d.block tbl).row = true)
  (hcommit : d.commit = none) (hroom : d.staged.length < d.stagedTop)
include hlater hrow hcommit hroom

/-- Operation 2 stages the words of the window. -/
theorem tableStage_words {st : Staged}
    (hst : st = { tbl := tbl, row := (d.block tbl).row, words := storedWords tbl (d.block tbl).window, empty := false })
    (hok : (d.addStaged st).rowError tbl st.row st.words = 0) :
    d.tableStage tbl false = (d.addStaged st).blockStatus tbl 3 := by
  subst hst
  simp only [Dev.tableStage, hrow, hlater, Bool.not_true, Bool.false_eq_true, if_false]
  exact stage_of_fitting hcommit hroom hok

/-- Operation 3 stages an empty row, where the table has one: custody rows have reset values, a last value has two rows, and
row 0 of a listener set is not emptied (R103, R117, R170). -/
theorem tableStage_empty (hcustody : tbl ≠ .custody) (hlast : tbl ≠ .lastval) (hset : tbl ≠ .lset ∨ (d.block tbl).row ≠ 0) :
    d.tableStage tbl true =
      (d.addStaged { tbl := tbl, row := (d.block tbl).row, words := [], empty := true }).blockStatus tbl 3 := by
  have hempty : ¬ (tbl = .lset ∧ (d.block tbl).row = 0) := fun h => hset.elim (· h.1) (· h.2)
  simp only [Dev.tableStage, hrow, hlater, Bool.not_true, Bool.false_eq_true, if_false, if_true]
  exact stage_of_fitting hcommit hroom (by simp only [if_true, if_neg hempty])

end Staging

/-- Settles O21, from the block's entry that each command writes and the operations of R31. -/
theorem accessBlockCommands : Obligations.AccessBlockCommands := by
  unfold Obligations.AccessBlockCommands
  refine ⟨?_, ?_, ?_, ?_, ?_, ?_⟩
  · exact fun s d t tr tbl hd ha => core_writeOd_tbl hd ha rfl
  · exact fun s d t tr tbl hd ha => core_writeOd_tbl hd ha rfl
  · exact fun s d t tbl hd hon howned hlate => core_next hd hon (ownerTimeout_of_silent howned hlate)
  · exact fun s d t tr tbl hd ha hlast hrow =>
      core_writeOd_tbl hd ha (congrArg (Dev.touch · tr tbl.index) (tableRead_of_row hlast hrow))
  · exact fun s d t tr tbl st hd ha hlater hrow hcommit hroom hst hok =>
      core_writeOd_tbl hd ha (congrArg (Dev.touch · tr tbl.index) (tableStage_words hlater hrow hcommit hroom hst hok))
  · exact fun s d t tr tbl hd ha hlater hcustody hlast hset hrow hcommit hroom =>
      core_writeOd_tbl hd ha (congrArg (Dev.touch · tr tbl.index)
        (tableStage_empty hlater hrow hcommit hroom hcustody hlast hset))

end Sys2Proof.Proofs
end

section
/-! The SDO server: what each request answers, and how it leaves the transfer (R35, R36). -/

namespace Sys2Proof.Proofs

open Sys2Proof Sys2Proof.Machine Sys2Proof.Laws Sys2Proof.Safety

/-- `le` writes as many bytes as it is told. -/
theorem le_length (n v : Nat) : (le n v).length = n := by
  induction n generalizing v with
  | zero => rfl
  | succ n ih => simp only [le, List.length_cons, ih]

/-- The core is on wherever the SDO server answers. -/
theorem coreOn_of_sdoServes {d : Dev} (hs : d.sdoServes = true) : d.coreOn = true :=
  coreOn_of_on (Bool.and_eq_true_iff.mp hs).1

section Requests

variable {d e : Dev} {fd : Bool} {idx sub v : Nat} (hs : d.sdoServes = true)
include hs

section Upload

variable {r : OdRow} (hc : d.readCheck .sdo idx sub = none) (hr : dictFind idx sub = some r) (ht : r.ty ≠ .domain)
  (he : ({ d with sdo := none } : Dev).readEntry .sdo idx sub = (e, v))
include hc hr ht he

/-- A value of at most four bytes is answered at once. -/
theorem sdoUpload_of_small (hsize : r.ty.size ≤ 4) :
    d.sdoUpload fd idx sub =
      e.sdoQueue (e.sdoFrame fd (sdoBytes (0x43 + 4 * (4 - r.ty.size)) idx sub (le r.ty.size v))) := by
  have hc' : ({ d with sdo := none } : Dev).readCheck .sdo idx sub = none := hc
  simp only [Dev.sdoUpload, hs, Bool.not_true, Bool.false_eq_true, if_false, hc', hr, ht, he, hsize, if_true]

/-- A longer value opens a transfer of its eight bytes. -/
theorem sdoUpload_of_large (hsize : 4 < r.ty.size) :
    d.sdoUpload fd idx sub =
      (let f : Dev := { e with
          sdo := some { upload := true, idx := idx, sub := sub, fd := fd, data := le 8 v, last := e.now } }
       f.sdoQueue (f.sdoFrame fd (sdoBytes 0x41 idx sub (le 4 8)))) := by
  have hc' : ({ d with sdo := none } : Dev).readCheck .sdo idx sub = none := hc
  simp only [Dev.sdoUpload, hs, Bool.not_true, Bool.false_eq_true, if_false, hc', hr, ht, he, Nat.not_le.mpr hsize, le_length]

end Upload

/-- A download that is performed, and for which no acknowledgement of the standby is awaited, is confirmed. -/
theorem sdoDownload_of_done {o : Otp} {size : Option Nat} {x : Outside}
    (hw : ({ d with sdo := none } : Dev).writeAccess o .sdo idx sub (slotAddress idx sub) size v x = ⟨e, none, none⟩) :
    d.sdoDownload o fd idx sub size v x = e.sdoQueue (e.sdoFrame fd (sdoBytes 0x60 idx sub [])) := by
  simp only [Dev.sdoDownload, hs, Bool.not_true, Bool.false_eq_true, if_false, hw, Dev.sdoWritten]

/-- A segmented download that passes its checks opens an empty transfer. -/
theorem sdoOpen_of_admitted {size : Option Nat} (hc : d.sdoOpenCheck idx sub size = none) :
    d.sdoOpen fd idx sub size =
      (let f : Dev := { d with
          sdo := some { upload := false, idx := idx, sub := sub, fd := fd, data := [], last := d.now } }
       f.sdoQueue (f.sdoFrame fd (sdoBytes 0x60 idx sub []))) := by
  have hc' : ({ d with sdo := none } : Dev).sdoOpenCheck idx sub size = none := hc
  simp only [Dev.sdoOpen, hs, Bool.not_true, Bool.false_eq_true, if_false, hc']

section UploadSegment

variable {toggle : Bool} {x : SdoTransfer} (hx : d.sdo = some x) (hen : d.enabled .sdo false = true) (hup : x.upload = true)
include hx hen hup

/-- Seven bytes of an upload leave while more remain. -/
theorem sdoUploadSegment_of_more (hmore : 7 < x.data.length) :
    d.sdoUploadSegment fd toggle =
      (let f : Dev := { d with sdo := some { x with data := x.data.drop 7, last := d.now } }
       f.sdoQueue (f.sdoFrame fd (be 1 (16 * b2n toggle) ++ x.data.take 7))) := by
  have hlen : (x.data.take 7).length = 7 := List.length_take_of_le (Nat.le_of_lt hmore)
  have hrest : (x.data.drop 7).isEmpty = false := by simpa using hmore
  simp only [Dev.sdoUploadSegment, hs, hen, hx, hup, Bool.not_true, Bool.false_eq_true, if_false, hlen, hrest, Nat.sub_self,
    Nat.mul_zero, Nat.add_zero, b2n]

/-- The last segment of an upload closes the transfer, and names the bytes of its seven that it does not use. -/
theorem sdoUploadSegment_of_last (hlast : x.data.length ≤ 7) :
    d.sdoUploadSegment fd toggle =
      (let f : Dev := { d with sdo := none }
       f.sdoQueue (f.sdoFrame fd (be 1 (16 * b2n toggle + 2 * (7 - x.data.length) + 1) ++ x.data))) := by
  have hall : x.data.take 7 = x.data := List.take_of_length_le hlast
  have hrest : (x.data.drop 7).isEmpty = true := by simpa using hlast
  simp only [Dev.sdoUploadSegment, hs, hen, hx, hup, Bool.not_true, Bool.false_eq_true, if_false, hall, hrest, if_true, b2n]

end UploadSegment

/-- A segment of a download that is not the last adds its bytes to the transfer. -/
theorem sdoSegment_of_more {o : Otp} {toggle : Bool} {data : List Byte} {x : Outside} {y : SdoTransfer} (hy : d.sdo = some y)
    (hen : d.enabled .sdo true = true) (hup : y.upload = false) :
    d.sdoSegment o fd toggle false data x =
      (let f : Dev := { d with sdo := some { y with data := y.data ++ data.take 7, last := d.now } }
       f.sdoQueue (f.sdoFrame fd (be 1 (0x20 + 16 * b2n toggle)))) := by
  simp only [Dev.sdoSegment, hs, hen, hy, hup, Bool.not_true, Bool.false_eq_true, if_false]

/-- A block transfer of an entry that is there is aborted as unsupported. -/
theorem sdoBlock_of_present (hpresent : d.absent .sdo false idx sub = none) :
    d.sdoBlock fd idx sub = d.sdoAbort fd idx sub .unsupported := by
  simp only [Dev.sdoBlock, hs, Bool.not_true, Bool.false_eq_true, if_false, hpresent, Option.getD_none]

/-- A command byte without a meaning is aborted as such, where the transport may read. -/
theorem sdoUnknown_of_enabled (hen : d.enabled .sdo false = true) :
    d.sdoUnknown fd idx sub = d.sdoAbort fd idx sub .command := by
  simp only [Dev.sdoUnknown, hs, hen, Bool.not_true, Bool.false_eq_true, if_false, if_true]

/-- A transfer without its next segment for more than 1,000 ms is aborted, in the frame format of its request. -/
theorem sdoTimeout_of_idle {y : SdoTransfer} (hy : d.sdo = some y) (hlate : y.last + 1000 * msCycles < d.now) :
    d.sdoTimeout = (({ d with sdo := none } : Dev).domDiscard .sdo).sdoAbort y.fd y.idx y.sub .timeout := by
  simp only [Dev.sdoTimeout, hy, hs, hlate, and_self, if_true]

end Requests

/-- Settles O22, one clause for each request of the SDO server and its timeout. -/
theorem sdoTransfers : Obligations.SdoTransfers := by
  unfold Obligations.SdoTransfers
  refine ⟨?_, ?_, ?_, ?_, ?_, ?_, ?_, ?_, ?_, ?_⟩
  · exact fun s d t fd idx sub r e v hd hs hc hr ht hsize he =>
      core_next hd (coreOn_of_sdoServes hs) (sdoUpload_of_small hs hc hr ht he hsize)
  · exact fun s d t fd idx sub size v x e hd hs hw =>
      core_next hd (coreOn_of_sdoServes hs) (sdoDownload_of_done hs hw)
  · rintro s d t fd idx sub r e _ v hd hs hc hr ht hsize he rfl
    exact core_next hd (coreOn_of_sdoServes hs) (sdoUpload_of_large hs hc hr ht he (by omega))
  · rintro s d t fd idx sub size _ hd hs hc rfl
    exact core_next hd (coreOn_of_sdoServes hs) (sdoOpen_of_admitted hs hc)
  · rintro s d t fd toggle x _ hd hs hx hen hup hmore rfl
    exact core_next hd (coreOn_of_sdoServes hs) (sdoUploadSegment_of_more hs hx hen hup hmore)
  · rintro s d t fd toggle x _ hd hs hx hen hup hlast rfl
    exact core_next hd (coreOn_of_sdoServes hs) (sdoUploadSegment_of_last hs hx hen hup hlast)
  · rintro s d t fd toggle _ data x y _ hd hs hy hen hup rfl rfl
    exact core_next hd (coreOn_of_sdoServes hs) (sdoSegment_of_more hs hy hen hup)
  · exact fun s d t fd idx sub hd hs hpresent =>
      core_next hd (coreOn_of_sdoServes hs) (sdoBlock_of_present hs hpresent)
  · exact fun s d t fd idx sub hd hs hen => core_next hd (coreOn_of_sdoServes hs) (sdoUnknown_of_enabled hs hen)
  · rintro s d t y _ hd hs hy hlate rfl
    exact core_next hd (coreOn_of_sdoServes hs) (sdoTimeout_of_idle hs hy hlate)

end Sys2Proof.Proofs
end

section
/-! Requests of device state: into CONFIG, back to SERVICE, and the reboot from the rack (R37, R38). -/

namespace Sys2Proof.Proofs

open Sys2Proof Sys2Proof.Machine Sys2Proof.Laws Sys2Proof.Safety

/-- An accepted write of State request runs the request. -/
theorem core_stateRequest {s : State} {t : Nat} {tr : Transport} {v : Nat} {x : Outside} {d e : Dev}
    (hd : d = (s.at t).accessBegins tr) (ha : Accepted d tr 0x2000 2 v) (he : d.stateRequest s.otp v x = e) :
    s.core t (fun d => d.writeOd s.otp tr 0x2000 2 none v x) = .next (s.finish e) :=
  core_writeOd hd ha.1 ha.2 rfl he

/-- In SERVICE with no request pending the drain towards CONFIG starts, and the result is in progress. -/
theorem enterConfig_of_service {d : Dev} (hservice : d.inService = true) (hidle : d.pw.drain = none) :
    d.enterConfig =
      ({ d with pw := { d.pw with drain := some (.config, 2), drained := false } } : Dev).put 0x2000 3 1 := by
  simp only [Dev.enterConfig, hservice, hidle, Option.isNone_none, and_self, if_true, Dev.startDrain]

/-- A unit in SERVICE that has drained towards CONFIG enters it. -/
theorem configEntry_of_drained {d : Dev} {n : Nat} (hservice : d.inService = true) (hdrain : d.pw.drain = some (.config, n))
    (hdrained : d.pw.drained = true) : d.configEntry = d.configEnter.put 0x2000 3 0 := by
  simp only [Dev.configEntry, hdrain, hservice, hdrained, and_self, if_true]

/-- With every table valid the request to leave CONFIG waits for the next pitch. -/
theorem leaveConfig_of_valid {d : Dev} (hconfig : d.pw.st = .config) (hrack : d.romOnly = false) (hidle : d.pw.drain = none)
    (hvalid : d.validation.1 = false) :
    d.leaveConfig = ({ d with pw := { d.pw with resume := some d.pitch.num } } : Dev).put 0x2000 3 1 := by
  simp only [Dev.leaveConfig, hconfig, hrack, hidle, hvalid, ne_eq, not_true_eq_false, Option.isSome_none, Bool.false_eq_true,
    or_self, if_false]

/-- Once a later pitch has begun the unit enters SERVICE and joins its pair. -/
theorem serviceResume_of_boundary {d : Dev} {p : Nat} (hconfig : d.pw.st = .config) (hresume : d.pw.resume = some p)
    (hpassed : p < d.pitch.num) : d.serviceResume = d.serviceEnter.pairJoin := by
  simp only [Dev.serviceResume, hresume, hconfig, hpassed, and_self, if_true]

/-- The core is on in CONFIG. -/
theorem coreOn_of_config {d : Dev} (hconfig : d.pw.st = .config) : d.coreOn = true := coreOn_of_on (by simp [Dev.on, hconfig])

/-- Settles O23, from the effect of each request in the state that takes it. -/
theorem deviceStateRequests : Obligations.DeviceStateRequests := by
  unfold Obligations.DeviceStateRequests
  refine ⟨?_, ?_, ?_, ?_, ?_⟩
  · exact fun s d t tr hd ha hservice hidle => core_stateRequest hd ha (enterConfig_of_service hservice hidle)
  · exact fun s d t n hd hservice hdrain hdrained =>
      core_next hd (coreOn_of_service hservice) (configEntry_of_drained hservice hdrain hdrained)
  · exact fun s d t tr hd ha hconfig hrack hidle hvalid =>
      core_stateRequest hd ha (leaveConfig_of_valid hconfig hrack hidle hvalid)
  · exact fun s d t p hd hconfig hresume hpassed =>
      core_next hd (coreOn_of_config hconfig) (serviceResume_of_boundary hconfig hresume hpassed)
  · exact fun s d t tr e hd ha hhold => core_stateRequest hd ha (if_neg hhold)

end Sys2Proof.Proofs
end

section
/-! The clearing of an alert, and the end of a rack copy (R40, R48). -/

namespace Sys2Proof.Proofs

open Sys2Proof Sys2Proof.Machine Sys2Proof.Laws Sys2Proof.Safety

/-- An active alert whose clearing condition holds leaves the list, and the change is emitted. -/
theorem alertClear_of_clearable {d : Dev} {code : Nat} {a : Alert} (hon : d.coreOn = true)
    (hfind : d.alerts.find? (fun x => x.code = code) = some a) (hclear : d.clearable a = true) :
    d.alertClear code =
      ({ d with alerts := d.alerts.filter (fun x => !(x.code = code)) } : Dev).alertEmit code a.sev a.detail d.stamp false := by
  simp only [Dev.alertClear, hfind, hon, hclear, Bool.and_self, if_true, Dev.clearAlert]

/-- A copy B that was written takes its bytes, and its status is the verdict of the checks of R45. -/
theorem rackWritten_copyB {d : Dev} {p : Programming} (hp : d.programming = some p) (hcopy : p.copyB = true) :
    d.rackWritten true =
      (let e : Dev := { d with programming := none, flashB := p.bytes }
       let reason := rackReason ((Life.ofCode e.lifeCode).getD .blank) e.vault.verify p.bytes
       e.put 0x2011 3 (if reason = 0 then 2 else 16 + reason)) := by
  simp only [Dev.rackWritten, hp, Bool.not_true, Bool.false_eq_true, if_false, hcopy, if_true]

/-- A copy that the flash failed to take reports status 3. -/
theorem rackWritten_failed {d : Dev} {p : Programming} (hp : d.programming = some p) :
    d.rackWritten false = ({ d with programming := none } : Dev).put 0x2011 3 3 := by
  simp only [Dev.rackWritten, hp, Bool.not_false, if_true]

/-- Settles O24, from the clearing of an alert and the two ends of a copy. -/
theorem alertClearingAndRackCopy : Obligations.AlertClearingAndRackCopy := by
  unfold Obligations.AlertClearingAndRackCopy
  refine ⟨?_, ?_, ?_⟩
  · exact fun s d t code a hd hon hfind hclear => core_next hd hon (alertClear_of_clearable hon hfind hclear)
  · rintro s d t _ p _ hd hon hp rfl hcopy rfl
    exact core_next hd hon (rackWritten_copyB hp hcopy)
  · rintro s d t _ p hd hon hp rfl
    exact core_next hd hon (rackWritten_failed hp)

end Sys2Proof.Proofs
end

section
/-! The lanes, the issue of tags, the groups past their deadline, and the read of the last discard (R53, R55, R69, R85). -/

namespace Sys2Proof.Proofs

open Sys2Proof Sys2Proof.Machine Sys2Proof.Laws Sys2Proof.Safety

/-- A lane that finishes an item of no twin record takes its next, and the item, where its form stands, waits for its tag. -/
theorem laneDone_of_wellFormed {d : Dev} {k : Nat} {it : Item} (hlane : (d.lanes.getD k {}).item = some it)
    (hkind : it.kind ≠ 3) (hfp : fpBad it = false)
    (hpart : it.form = .sentence → (d.laneFree k).partKind it ≠ .malformed) :
    d.laneDone k =
      { d.laneFree k with waitTag := (d.laneFree k).waitTag ++ [{ it with finish := (d.laneFree k).now }] } := by
  have hform : ¬ (it.form = .sentence ∧ (d.laneFree k).partKind it = .malformed) := fun h => hpart h.1 h.2
  simp only [Dev.laneDone, hlane, if_neg hkind, hfp, Bool.false_eq_true, if_false, if_neg hform]

/-- The first item that may take a tag takes it; where it is no later part and a row holds its key, it is tagged under that
row. -/
theorem tagIssue_of_found {d e f : Dev} {waiting it : Item} {tag stream : Nat} {row : List Word32}
    (hfirst : firstToIssue (fun i => (d.tagFor i.src).isSome && !d.frameAhead i) d.waitTag = some waiting)
    (htag : d.tagFor waiting.src = some tag) (hit : it = d.named waiting)
    (he : e = (({ d with waitTag := d.waitTag.erase waiting, issue := d.issue + 1 } : Dev).loadWindow (itemBytes it)).tagHigh)
    (hpart : (e.grouping it).later = false) (hframe : fpLater it = false) (hf : f = e.count 0x2310 1)
    (hrow : f.lookup (itemKey it) = some (stream, row)) :
    d.tagIssue = { f with tagged := f.tagged ++ [f.tagItem tag it stream row] } := by
  subst hf he hit
  simp only [Dev.tagIssue, hfirst, htag, hpart, hframe, Bool.false_eq_true, or_self, if_false, hrow]

/-- In SERVICE the late groups of a source are dropped as incomplete. -/
theorem groupExpiry_of_service {d : Dev} (src : Nat) (hservice : d.inService = true) :
    d.groupExpiry src = (d.lateGroups src).foldl (fun d g => d.dropGroup g 1) d :=
  if_pos hservice

/-- A read that answers a value passed its checks, and the value is the entry's. -/
theorem readAccess_ok {d e : Dev} {tr : Transport} {idx sub v : Nat} (h : d.readAccess tr idx sub = (e, .ok v)) :
    d.readCheck tr idx sub = none ∧ d.readEntry tr idx sub = (e, v) := by
  cases hcheck : d.readCheck tr idx sub with
  | some a => simp [Dev.readAccess, hcheck] at h
  | none =>
    simp only [Dev.readAccess, hcheck, Prod.mk.injEq, Except.ok.injEq] at h
    exact ⟨rfl, Prod.ext h.1 h.2⟩

/-- Settles O25, from the end of a lane, the issue of a tag, the late groups of a source and a read that answers a value. -/
theorem ingestTaggingAndLastDiscard : Obligations.IngestTaggingAndLastDiscard := by
  unfold Obligations.IngestTaggingAndLastDiscard
  refine ⟨?_, ?_, ?_, ?_⟩
  · rintro s d t k it _ hd hon hlane hkind hfp rfl hpart
    exact core_next hd hon (laneDone_of_wellFormed hlane hkind hfp hpart)
  · exact fun s d t waiting it tag n row e f hd hon hfirst htag hit he hpart hframe hf hrow =>
      core_next hd hon (tagIssue_of_found hfirst htag hit he hpart hframe hf hrow)
  · exact fun s d t src g hd hservice _ => core_next hd (coreOn_of_service hservice) (groupExpiry_of_service src hservice)
  · intro s d t tr e v hd hreaches hread
    obtain ⟨hcheck, hentry⟩ := readAccess_ok hread
    exact core_readTaken hd hreaches hcheck hentry

end Sys2Proof.Proofs
end

section
/-! The firewall's stages on a single item, its release in stream order, and the handover to its listeners (R56, R65, R104,
R107, R108). -/

namespace Sys2Proof.Proofs

open Sys2Proof Sys2Proof.Machine Sys2Proof.Laws Sys2Proof.Safety

/-- A single item that waits for no other, is authentic and within its rate goes to the probes. -/
theorem stagesComplete_of_single {d e : Dev} {tag : Nat} {x : Tagged}
    (hfind : d.tagged.find? (fun x => x.tag = tag ∧ !x.virt ∧ x.fate == .working) = some x)
    (hstep : hasStep x.probes = false)
    (hrate : Dev.rateWaits x (d.tagged.takeWhile (fun y => !(y.tag = tag))) = false) (hframe : fpLater x.item = false)
    (hkind : x.item.kind ≠ 5) (hauth : d.authentic x = true) (hsingle : d.grouping x.item = .single)
    (hconforms : d.rateStage x = some e) : d.stagesComplete tag = e.probeStage x := by
  have hlater : (Grouping.single.later || fpLater x.item) = false := by rw [hframe]; rfl
  simp only [Dev.stagesComplete, hfind, hsingle, hlater, hstep, hrate, hauth, if_neg hkind, hconforms, Bool.false_eq_true,
    false_and, or_self, Bool.not_true, if_false]

/-- On a unit that leads, a ready item behind no earlier one leaves the path, is accounted for and goes to its decision. -/
theorem orderRelease_of_ready {d e : Dev} {tag : Nat} {virt : Bool} {x : Tagged}
    (hfind : d.tagged.find? (fun y => y.tag = tag && y.virt == virt) = some x) (hready : x.fate = .ready)
    (hfirst : (d.tagged.takeWhile (fun y => !(y.tag = tag && y.virt == virt))).any (fun y => x.behind y) = false)
    (he : e = ((({ d with
        tagged := d.tagged.filter (fun y => !(y.tag = tag && y.virt == virt)) } : Dev).lastValueUpdate x).ledItem
          x.stream x.item).tunnelEgress x.item)
    (hleads : (e.engineDelay x.item).leads = true) :
    d.orderRelease tag virt = (e.engineDelay x.item).decideItem x.proposal := by
  subst he
  have hworking : (Fate.ready == Fate.working) = false := rfl
  have hconsumed : (Fate.ready == Fate.consumed) = false := rfl
  simp only [Dev.orderRelease, hfind, hready, hworking, hconsumed, hfirst, hleads, Bool.false_eq_true, or_self, if_false,
    Bool.true_or, if_true]

/-- The plan being sent is replaced by one of its own leg. -/
theorem setPlan_of_sending {d : Dev} {pl : Plan} (hleg : d.sending.leg = pl.leg) :
    d.setPlan pl = { d with sending := pl } :=
  if_pos hleg

/-- With no plan of an earlier leg left to hand over, the plan being sent is the first that has an item. -/
theorem find_plansSent_of_sending {d : Dev} {i : PlanItem} (holder : d.older = []) (hprevious : d.previous.handNext = none)
    (hsending : d.sending.handNext = some i) :
    d.plansSent.find? (fun pl => pl.handNext.isSome) = some d.sending := by
  simp [Dev.plansSent, holder, hprevious, hsending]

/-- On a unit that leads and has no leftovers, the next item of the leg's plan goes to each listener of its mask. -/
theorem handover_of_sending {d : Dev} {cts : Nat} {i : PlanItem} (hleads : d.leads = true) (holder : d.older = [])
    (hprevious : d.previous.handNext = none) (hsending : d.sending.handNext = some i) :
    d.handover cts =
      (maskList i.hand).foldl (fun d l => d.handOne i cts l) { d with sending := d.sending.handed i } := by
  have hplan : d.setPlan (d.sending.handed i) = { d with sending := d.sending.handed i } := setPlan_of_sending rfl
  simp only [Dev.handover, hleads, Bool.true_or, Bool.not_true, Bool.false_eq_true, if_false,
    find_plansSent_of_sending holder hprevious hsending, hsending, hplan]

/-- Settles O26, from the stages of a single item, the release of a ready one and the handover of the leg's plan. -/
theorem firewallOrderAndHandover : Obligations.FirewallOrderAndHandover := by
  unfold Obligations.FirewallOrderAndHandover
  refine ⟨?_, ?_, ?_⟩
  · exact fun s d t tag x e hd hon hfind hstep hrate hframe hkind hauth hsingle hconforms =>
      core_next hd hon (stagesComplete_of_single hfind hstep hrate hframe hkind hauth hsingle hconforms)
  · exact fun s d t tag virt x e hd hon hfind hready hfirst he hleads =>
      core_next hd hon (orderRelease_of_ready hfind hready hfirst he hleads)
  · exact fun s d t cts i hd hon hleads holder hprevious hsending =>
      core_next hd hon (handover_of_sending hleads holder hprevious hsending)

end Sys2Proof.Proofs
end

section
/-! Items relayed over the rope, and the pattern frames that fill it (R70, R229). -/

namespace Sys2Proof.Proofs

open Sys2Proof Sys2Proof.Machine Sys2Proof.Laws Sys2Proof.Safety

section Received

variable {d : Dev} {f : RopeFrame} {foreign : Dev → Dev} {b : List Byte} {n : Option Nat} (hin : d.ropeIn f = .take b n)
include hin

/-- A unit that leads takes the partner's internal item as one of source 247, which waits for its tag. -/
theorem relayedReceived_of_leads (htype : frameType f = 0x50) (hleads : (d.heard n).leads = true) :
    d.relayedReceived f foreign =
      { d.heard n with
        waitTag := (d.heard n).waitTag ++
          [(d.heard n).internalItem 247 (beAt b 8 1) (beAt b 0 8) (b.drop 9) (crc64 (b.drop 9))] } :=
  (onRope_take hin htype).trans (if_pos hleads)

/-- The first pattern frame has no sequence to differ from: it seeds the checker with its last bits. -/
theorem patternReceived_of_unseeded (htype : frameType f = 0x3F) (hseed : (d.heard n).mirror.prbsRx = none) :
    d.patternReceived f foreign =
      { d.heard n with
        mirror := { (d.heard n).mirror with
          prbsRx := some (beAt b 252 4 % 2 ^ 31), hPattern := (d.heard n).mirror.hPattern + 0 } } := by
  refine (onRope_take hin htype).trans ?_
  simp only [Dev.patternCheck, hseed, if_true]

end Received

/-- Where the rope is not looped and no frame has left it for 10 µs, the next 2,048 bits of the pattern leave as a frame. -/
theorem patternTimer_of_silence {d : Dev} {bs : List Bool} {state : Nat} (hloop : bits d.loops.ports 14 12 = 0)
    (hteam : d.inTeam = true) (hsends : d.ropeSends = true) (hsilent : d.team.lastSent + 10 * usCycles ≤ d.now)
    (hbits : prbs 2048 d.mirror.prbsTx = (bs, state)) :
    d.patternTimer =
      ({ d with
          mirror := { d.mirror with prbsTx := state }, team := { d.team with lastSent := d.now } } : Dev).ropeSend 0x3F
        (bitBytes 256 bs) := by
  have hunlooped : ¬ (1 ≤ bits d.loops.ports 14 12 ∧ bits d.loops.ports 14 12 ≤ 3) := by omega
  simp only [Dev.patternTimer, hsilent, hteam, hsends, and_self, or_true, if_true, hbits, if_neg hunlooped]

/-- Settles O43, from the relayed item, the timer of the pattern generator and the first frame of its checker. -/
theorem relaysAndPatterns : Obligations.RelaysAndPatterns := by
  unfold Obligations.RelaysAndPatterns
  refine ⟨?_, ?_, ?_⟩
  · rintro s d t f b n _ hd hon hin htype rfl hleads
    exact core_next hd hon (relayedReceived_of_leads hin htype hleads)
  · exact fun s d t bs state hd hon hloop hteam hsends hsilent hbits =>
      core_next hd hon (patternTimer_of_silence hloop hteam hsends hsilent hbits)
  · rintro s d t f b n _ hd hon hin htype rfl hseed
    exact core_next hd hon (patternReceived_of_unseeded hin htype hseed)

end Sys2Proof.Proofs
end

section
/-! The codes of address characters (R77, R97). -/

namespace Sys2Proof.Proofs

open Sys2Proof Sys2Proof.Machine Sys2Proof.Laws Sys2Proof.Safety

/-- The digits are 0x30 to 0x39. -/
theorem isDigit_iff {b : Nat} : isDigit b = true ↔ 0x30 ≤ b ∧ b ≤ 0x39 := by simp [isDigit]

/-- The capital letters are 0x41 to 0x5A. -/
theorem isUpper_iff {b : Nat} : isUpper b = true ↔ 0x41 ≤ b ∧ b ≤ 0x5A := by simp [isUpper]

/-- A digit has its value as its code. -/
theorem addrCode_of_digit {b : Nat} (h : isDigit b = true) : addrCode b = b - 0x30 := if_pos h

/-- A letter's code follows the codes of the ten digits. -/
theorem addrCode_of_upper {b : Nat} (h : isUpper b = true) : addrCode b = b - 0x41 + 10 := by
  rw [isUpper_iff] at h
  have hdigit : ¬ isDigit b = true := by rw [isDigit_iff]; omega
  rw [addrCode, if_neg hdigit]
  omega

/-- A digit's code is at most 9. -/
theorem addrCode_digit_le {b : Nat} (h : isDigit b = true) : addrCode b ≤ 9 := by
  rw [addrCode_of_digit h]
  rw [isDigit_iff] at h
  omega

/-- A letter's code is between 10 and 35. -/
theorem addrCode_upper_bounds {b : Nat} (h : isUpper b = true) : 10 ≤ addrCode b ∧ addrCode b ≤ 35 := by
  rw [addrCode_of_upper h]
  rw [isUpper_iff] at h
  omega

/-- Different address characters have different codes: the codes of digits lie below those of letters, and each kind is
coded in order. -/
theorem addrCode_inj {a b : Nat} (ha : isDigit a = true ∨ isUpper a = true) (hb : isDigit b = true ∨ isUpper b = true)
    (h : addrCode a = addrCode b) : a = b := by
  rcases ha with ha | ha <;> rcases hb with hb | hb
  · rw [addrCode_of_digit ha, addrCode_of_digit hb] at h
    rw [isDigit_iff] at ha hb
    omega
  · have hle := addrCode_digit_le ha
    have hbounds := addrCode_upper_bounds hb
    omega
  · have hbounds := addrCode_upper_bounds ha
    have hle := addrCode_digit_le hb
    omega
  · rw [addrCode_of_upper ha, addrCode_of_upper hb] at h
    rw [isUpper_iff] at ha hb
    omega

/-- A sentence that passes end check 2 of R77 has an address field of five digits and capital letters. -/
theorem addressOf_of_addressOk {bytes : List Byte} (h : addressOk bytes = true) :
    (addressOf bytes).length = 5 ∧ ∀ b ∈ addressOf bytes, isDigit b.toNat = true ∨ isUpper b.toNat = true := by
  simp only [addressOk, Bool.and_eq_true, decide_eq_true_eq, List.all_eq_true, Bool.or_eq_true] at h
  obtain ⟨hlength, hchars⟩ := h
  rw [addressOf, ← hlength, ← List.prefix_iff_eq_take.mp (List.takeWhile_prefix _)]
  exact ⟨rfl, hchars⟩

/-- Settles O18, from the address field that end check 2 admits and the codes of digits and letters. -/
theorem addressCharacterCodes : Obligations.AddressCharacterCodes := by
  unfold Obligations.AddressCharacterCodes
  refine ⟨fun bytes h => ?_, fun _ _ => addrCode_inj⟩
  obtain ⟨hlength, hchars⟩ := addressOf_of_addressOk h
  refine ⟨hlength, fun b hb => (hchars b hb).imp (fun hdigit => ?_) (fun hupper => ?_)⟩
  · exact ⟨hdigit, addrCode_of_digit hdigit, addrCode_digit_le hdigit⟩
  · exact ⟨hupper, addrCode_of_upper hupper, addrCode_upper_bounds hupper⟩

end Sys2Proof.Proofs
end

section
/-! Learn records, the commit and its discard (R106, R118). -/

namespace Sys2Proof.Proofs

open Sys2Proof Sys2Proof.Machine Sys2Proof.Laws Sys2Proof.Safety

/-- A target on a leg start, two legs on or later, schedules the commit of the staged rows. -/
theorem commitTarget_of_admitted {d : Dev} {target : Nat} (hstaged : d.staged ≠ []) (hstart : target % d.legPu = 0)
    (hlater : d.legOf d.stamp + 2 * d.legPu ≤ target) :
    d.commitTarget target = ({ d with commit := some target } : Dev).put 0x2301 3 1 := by
  have hnonempty : d.staged.isEmpty = false := List.isEmpty_eq_false_iff.mpr hstaged
  simp only [Dev.commitTarget, hnonempty, hstart, Nat.not_lt.mpr hlater, Bool.false_eq_true, ne_eq, not_true_eq_false, if_false]

/-- A discard while a commit is scheduled reports status 6, and forgets the commit with the rows. -/
theorem stagedDiscard_of_scheduled {d : Dev} {c : Nat} (hc : d.commit = some c) :
    d.stagedDiscard = ({ d.put 0x2301 3 6 with staged := [], commit := none } : Dev).put 0x2301 1 0 := by
  simp only [Dev.stagedDiscard, hc, Option.isSome_some, if_true]

/-- Settles O27, from the effects of the four entries on an accepted write. -/
theorem learnAndCommit : Obligations.LearnAndCommit := by
  unfold Obligations.LearnAndCommit
  refine ⟨?_, ?_, ?_, ?_⟩
  · exact fun s d t tr v hd ha => core_writeOd hd ha.1 ha.2 rfl rfl
  · exact fun s d t tr hd ha => core_writeOd hd ha.1 ha.2 rfl rfl
  · exact fun s d t tr v hd ha hstaged hstart hlater =>
      core_writeOd hd ha.1 ha.2 rfl (commitTarget_of_admitted hstaged hstart hlater)
  · exact fun s d t tr c hd ha hc => core_writeOd hd ha.1 ha.2 rfl (stagedDiscard_of_scheduled hc)

end Sys2Proof.Proofs
end

section
/-! What follows a command in a calm block all the same: an ACTIVE without a formed team notes what changed of its mirrored
state in the versions of the segments (R208, R209). -/

namespace Sys2Proof.Proofs

open Sys2Proof Sys2Proof.Machine Sys2Proof.Laws Sys2Proof.Safety

/-- An ACTIVE in SERVICE whose team is not formed, so that it mirrors to no standby. -/
def unformedActive : Dev := { pw := { st := .service, porst := false }, team := { role := .active } }

/-- The same unit once a command has put an alert on its list. -/
def unformedActiveAlerted : Dev :=
  { unformedActive with alerts := [{ code := 0xA102, sev := 1, detail := 0, stamp := 0, latest := 0 }] }

/-- The unit owes nothing when the command has run, as it has no standby. -/
theorem calm_unformedActiveAlerted : Calm unformedActiveAlerted := ⟨by decide, rfl, rfl, rfl⟩

/-- The change of the alert list raises the version of the alert segment, and nothing is sent (R209). -/
theorem settle_raises_alert_version :
    (Dev.settle State.reset.otp unformedActive unformedActiveAlerted).segVersion (segId 3 0) = 1 := by
  decide +kernel

/-- Refutes O9: `Calm` excludes a standby to mirror to, but an ACTIVE without one still counts a change of mirrored state in
the segment's version (R209). A new alert on `unformedActive` does so. -/
theorem not_nothingFollowsInCalm : ¬ Obligations.NothingFollowsInCalm := by
  unfold Obligations.NothingFollowsInCalm
  intro h
  have hkeeps : Dev.settle State.reset.otp unformedActive unformedActiveAlerted = unformedActiveAlerted :=
    h _ _ _ calm_unformedActiveAlerted rfl
  have hversion := settle_raises_alert_version
  rw [hkeeps] at hversion
  exact absurd hversion (by decide)

end Sys2Proof.Proofs
end

section
/-! The pitch boundary, the leg boundary and the hem (R140, R158, R174, R228). -/

namespace Sys2Proof.Proofs

open Sys2Proof Sys2Proof.Machine Sys2Proof.Laws Sys2Proof.Safety

/-- In SERVICE with a role that takes part, the phase's wrap starts the next pitch, and the health sentence of the one that
ended joins the internal items. -/
theorem pitchBoundary_of_wraps {d e : Dev} (hrun : d.pitch.st ≠ .boot) (hwraps : d.pitch.wraps (tickOf d.now) = true)
    (he : e = d.enginePitch (tickOf d.now)) (hservice : e.pw.st = .service) (hnone : e.team.role ≠ .none)
    (hhold : e.team.role ≠ .hold) :
    d.pitchBoundary = ((e.internal 246 2 e.stamp (e.healthSentence d.pitch.num)).pitchCountsClear.ledBoundary) := by
  subst he
  simp [Dev.pitchBoundary, hrun, hwraps, hservice, hnone, hhold]

/-- SERVICE is no CONFIG. -/
theorem not_config_of_service {d : Dev} (hservice : d.inService = true) : (d.pw.st == .config) = false := by
  simp only [Dev.inService, beq_iff_eq] at hservice
  rw [hservice]
  rfl

/-- In SERVICE, once the leg of the open plan is reached, the leg before is rinsed and the plan's leg opens. -/
theorem legBoundary_of_reached {d e : Dev} {overrun applied : Bool} (hservice : d.inService = true)
    (hreached : d.plan.leg ≤ d.leg) (hrinse : d.legRinse = (e, overrun, applied)) :
    d.legBoundary = (e.legOpen d.leg).legStart (d.leg - d.legPu) overrun applied := by
  simp only [Dev.legBoundary, not_config_of_service hservice, hservice, Nat.not_lt.mpr hreached, hrinse, Bool.not_true,
    Bool.false_eq_true, or_self, if_false]

/-- A leading unit without a standby takes its selection points once the hem is reached. -/
theorem hemStart_of_reached {d : Dev} (hservice : d.inService = true) (hleads : d.leads = true)
    (hreached : (d.legPu - d.hemPu) * 2 ^ 16 ≤ d.legPhase16) (halone : d.selectionPoints.mirrors = false) :
    d.hemStart = d.selectionPoints := by
  simp only [Dev.hemStart, hservice, hleads, Nat.not_lt.mpr hreached, halone, Bool.true_or, Bool.not_true,
    Bool.false_eq_true, or_self, if_false]

/-- Settles O28, from the effects of the three boundaries. -/
theorem pitchLegAndHem : Obligations.PitchLegAndHem := by
  unfold Obligations.PitchLegAndHem
  refine ⟨?_, ?_, ?_⟩
  · exact fun s d t e hd hrun hwraps he hservice hnone hhold =>
      run_next hd (pitchBoundary_of_wraps hrun hwraps he hservice hnone hhold)
  · exact fun s d t e overrun applied hd hservice hreached hrinse =>
      core_next hd (coreOn_of_service hservice) (legBoundary_of_reached hservice hreached hrinse)
  · exact fun s d t hd hservice hleads hreached halone =>
      core_next hd (coreOn_of_service hservice) (hemStart_of_reached hservice hleads hreached halone)

end Sys2Proof.Proofs
end

section
/-! Reference edges of PULSE and QUAD, and master beacons received and due (R143, R146, R151, R152). -/

namespace Sys2Proof.Proofs

open Sys2Proof Sys2Proof.Machine Sys2Proof.Laws Sys2Proof.Safety

/-! The engine's state has no part in the dictionary, nor in the bounds of an interval, which are entries of it. -/

@[simp] theorem setPitch_get (d : Dev) (p : Pitch) : ({ d with pitch := p } : Dev).get = d.get := rfl
@[simp] theorem setPitch_tMin (d : Dev) (p : Pitch) : ({ d with pitch := p } : Dev).tMin = d.tMin := rfl
@[simp] theorem setPitch_tMax (d : Dev) (p : Pitch) : ({ d with pitch := p } : Dev).tMax = d.tMax := rfl

/-- A PITCH_A edge that stays high long enough passes the filter of a unit that uses PULSE. -/
theorem pulseEdge_of_filtered {d : Dev} {high : Nat} (hon : d.on = true) (huses : d.usesSource 1 = true)
    (hloop : d.loops.pitch = false) (hwide : bits (d.get 0x2100 9) 15 0 ≤ high) :
    d.pulseEdge high = d.pulseInside (tickOf d.now) := by
  simp only [Dev.pulseEdge, hon, huses, hloop, hwide, Bool.not_false, and_self, if_true]

/-- A filtered edge at a valid interval from the last is a reference point. -/
theorem pulseInside_of_valid {d : Dev} {tick l : Nat} (hlast : d.pitch.lastEdge = some l) (hmin : d.tMin ≤ tick - l)
    (hmax : tick - l ≤ d.tMax) :
    d.pulseInside tick =
      ({ d with pitch := { d.pitch with lastEdge := some tick } } : Dev).startPoint 1 tick (tick - l) := by
  simp only [Dev.pulseInside, hlast, setPitch_tMin, setPitch_tMax, hmin, hmax, and_self, if_true]

/-- The first filtered edge only starts its interval. -/
theorem pulseInside_of_first {d : Dev} (tick : Nat) (hlast : d.pitch.lastEdge = none) :
    d.pulseInside tick = { d with pitch := { d.pitch with lastEdge := some tick } } := by
  simp only [Dev.pulseInside, hlast]

/-- Off QUAD, a count that meets the filter advances the count and its interval, and notes its direction. -/
theorem quadCount_of_filtered {d : Dev} {q : Nat} (astern : Bool) (hon : d.on = true) (huses : d.usesSource 2 = true)
    (hlast : d.pitch.qTick = some q) (hfilter : d.get 0x2100 0x0B ≤ tickOf d.now - q) (hsrc : d.pitch.src ≠ 2) :
    d.quadCount astern =
      { d with
        pitch := { d.pitch with
          qcount := d.pitch.qcount + 1, qTick := some (tickOf d.now), qIval := tickOf d.now - q
          qDir := if astern then 2 else 1 } } := by
  simp only [Dev.quadCount, hon, huses, hlast, hfilter, hsrc, decide_true, Bool.not_true, Bool.false_eq_true, or_self,
    false_and, if_false]

/-- The first index restarts the count, which was whole, and only starts its interval. -/
theorem quadIndex_of_first {d : Dev} (hon : d.on = true) (huses : d.usesSource 2 = true) (hlast : d.pitch.qIndex = none)
    (hwhole : d.pitch.qcount = d.get 0x2100 0x0A) :
    d.quadIndex = { d with pitch := { d.pitch with qcount := 0, qIndex := some (tickOf d.now) } } := by
  simp only [Dev.quadIndex, hon, huses, hlast, hwhole, setPitch_get, Bool.not_true, Bool.false_eq_true, or_self, if_false,
    if_true]

/-- An index after a full count, at least T_min after the engine's boundary before it and at most T_max after the last
index, is a reference point. -/
theorem quadIndex_of_valid {d : Dev} {l : Nat} (hon : d.on = true) (huses : d.usesSource 2 = true)
    (hlast : d.pitch.qIndex = some l) (hwhole : d.pitch.qcount = d.get 0x2100 0x0A)
    (hspeed : d.pitch.boundBefore (tickOf d.now) = 0 ∨ d.tMin ≤ tickOf d.now - d.pitch.boundBefore (tickOf d.now))
    (hmax : tickOf d.now - l ≤ d.tMax) :
    d.quadIndex =
      ({ d with pitch := { d.pitch with qcount := 0, qIndex := some (tickOf d.now) } } : Dev).startPoint 2 (tickOf d.now)
        (tickOf d.now - l) := by
  have hnoOverspeed : ¬ (d.pitch.boundBefore (tickOf d.now) ≠ 0 ∧
      tickOf d.now - d.pitch.boundBefore (tickOf d.now) < d.tMin) := by omega
  simp only [Dev.quadIndex, hon, huses, hlast, hwhole, setPitch_get, setPitch_tMin, setPitch_tMax, if_neg hnoOverspeed, hmax,
    Bool.not_true, Bool.false_eq_true, or_self, if_false, if_true]

/-- A beacon of the domain master, of another pair and with no mode change, is a reference point. -/
theorem beaconDatagram_of_master {d : Dev} {payload : List Byte} (tick : Nat) (htag : formatTag "EUPB" payload = true)
    (hother : bits (beAt payload 6 2) 10 0 ≠ d.pairId) (hdomain : bits (beAt payload 6 2) 10 0 = d.get 0x2100 0x0C)
    (hmaster : bit (beAt payload 5 1) 0 = true) (hchange : bit (beAt payload 5 1) 1 = false)
    (hquality : beAt payload 11 1 ≠ 2) :
    d.beaconDatagram tick payload = d.beaconPoint (d.masterStamp payload) (beAt payload 12 4) tick := by
  have hours : decide (bits (beAt payload 6 2) 10 0 = d.pairId) = false := decide_eq_false hother
  have hmasterOf : decide (bits (beAt payload 6 2) 10 0 = d.get 0x2100 0x0C) = true := decide_eq_true hdomain
  simp only [Dev.beaconDatagram, htag, hours, hmasterOf, hmaster, hchange, decide_eq_true hquality, Bool.false_and,
    Bool.and_self, Bool.not_true, Bool.false_eq_true, and_false, if_false, if_true]

/-- At its interval a domain master in SERVICE marks every port. -/
theorem masterBeaconDue_of_interval {d : Dev} (hmaster : d.isMaster = true) (hservice : d.inService = true)
    (hphase : d.pitch.phase16 (tickOf d.now) / 2 ^ 16 % 2 ^ (24 - d.get 0x2100 0x0F) <
      max 1 (ceilDiv d.pitch.rateN d.pitch.rateD)) :
    d.masterBeaconDue = (List.range 4).foldl (fun d p => d.setPort p { d.port p with masterDue := true }) d :=
  if_pos ⟨hmaster, hservice, hphase⟩

/-- Settles O29, from the filter and the interval of each edge, the tests of a beacon and the master's interval. -/
theorem referenceEdgesAndBeacons : Obligations.ReferenceEdgesAndBeacons := by
  unfold Obligations.ReferenceEdgesAndBeacons
  refine ⟨?_, ?_, ?_, ?_, ?_, ?_, ?_⟩
  · exact fun s d t high l hd hon huses hloop hwide hlast hmin hmax =>
      core_next hd (coreOn_of_on hon)
        ((pulseEdge_of_filtered hon huses hloop hwide).trans (pulseInside_of_valid hlast hmin hmax))
  · exact fun s d t high hd hon huses hloop hwide hlast =>
      core_next hd (coreOn_of_on hon) ((pulseEdge_of_filtered hon huses hloop hwide).trans (pulseInside_of_first _ hlast))
  · exact fun s d t astern q hd hon huses hlast hfilter hsrc =>
      core_next hd (coreOn_of_on hon) (quadCount_of_filtered astern hon huses hlast hfilter hsrc)
  · exact fun s d t hd hon huses hlast hwhole =>
      core_next hd (coreOn_of_on hon) (quadIndex_of_first hon huses hlast hwhole)
  · exact fun s d t l hd hon huses hlast hwhole hspeed hmax =>
      core_next hd (coreOn_of_on hon) (quadIndex_of_valid hon huses hlast hwhole hspeed hmax)
  · exact fun s d t p payload sfd hd hon hhears htag hother hdomain hmaster hchange hquality =>
      core_next hd hon
        ((if_pos hhears).trans (beaconDatagram_of_master _ htag hother hdomain hmaster hchange hquality))
  · exact fun s d t hd hmaster hservice hphase =>
      core_next hd (coreOn_of_service hservice) (masterBeaconDue_of_interval hmaster hservice hphase)

end Sys2Proof.Proofs
end

section
/-! The states of the pitch engine, and the edges of PITCH_OUT (R144, R145, R147, R155). -/

namespace Sys2Proof.Proofs

open Sys2Proof Sys2Proof.Machine Sys2Proof.Laws Sys2Proof.Safety

/-- A source that qualifies while the engine runs FREE is locked on from its last point. -/
theorem sourceQualified_of_free {d : Dev} {source : Nat} (hon : d.on = true) (hqualified : d.qualified source = true)
    (hfree : d.pitch.st = .free) :
    d.sourceQualified source = d.lockOn source (tickOf d.now) (d.pitch.ref source) := by
  simp only [Dev.sourceQualified, hon, hqualified, hfree, beq_self_eq_true, Bool.not_true, Bool.false_eq_true, or_self,
    if_false, if_true]

/-- A LOCKED engine whose source is missing goes into HOLDOVER, and stays there where holdover has a length. -/
theorem sourceDeadline_of_missing {d : Dev} (hon : d.on = true) (hlocked : d.pitch.st = .locked)
    (hmissing : d.sourceMissing (tickOf d.now) = true) (hlength : (d.enterHoldover (tickOf d.now)).get 0x2100 8 ≠ 0) :
    d.sourceDeadline = d.enterHoldover (tickOf d.now) := by
  simp only [Dev.sourceDeadline, hon, hlocked, hmissing, hlength, beq_self_eq_true, and_self, if_true, if_false]

/-- HOLDOVER that has lasted its pitches leaves the source. -/
theorem holdoverReached_of_count {d : Dev} (hon : d.on = true) (hholdover : d.pitch.st = .holdover)
    (hcount : d.get 0x2100 8 ≤ d.pitch.holdover) : d.holdoverReached = d.leaveSource (tickOf d.now) :=
  if_pos ⟨hon, beq_iff_eq.mpr hholdover, hcount⟩

/-- A slip pitch of PULSE or QUAD that ends with no point in its closing window counts the slip, raises 0xA102, runs at the
measured period and opens the window after its end. -/
theorem slipPitchEnd_of_no_point {d e f : Dev} (hon : d.on = true) (hslip : d.pitch.st = .slip)
    (hinside : d.pitch.slip = .inside) (hbound : d.pitch.boundTick ≠ 0) (hend : d.pitch.slipEnd ≤ tickOf d.now)
    (hsrc : d.pitch.src ≠ 3) (hpoint : d.pitch.slipPoint = none)
    (he : e = (d.count 0x2111 1).raise 0xA102 1 d.pitch.slipLen) (hf : f = e.runPeriod (tickOf d.now) e.measured) :
    d.slipPitchEnd = { f with pitch := { f.pitch with slip := .window } } := by
  subst he hf
  simp only [Dev.slipPitchEnd, hon, hslip, hinside, hbound, hend, hsrc, hpoint, beq_self_eq_true, ne_eq, not_false_eq_true,
    and_self, if_true, if_false]

/-- A window that closes without a point ends in HOLDOVER. -/
theorem slipWindowClose_of_late {d : Dev} (hon : d.on = true) (hslip : d.pitch.st = .slip) (hwindow : d.pitch.slip = .window)
    (hlate : d.pitch.slipEnd + d.measured / 8 < tickOf d.now) :
    d.slipWindowClose = d.enterHoldover (tickOf d.now) :=
  if_pos ⟨hon, beq_iff_eq.mpr hslip, beq_iff_eq.mpr hwindow, hlate⟩

section PitchOut

variable {d : Dev} (hservice : d.inService = true) (hheld : d.released = false) (hmode : d.get 0x2101 1 ≠ 0)
  (hloop : d.loops.pitch = false)
include hservice hheld hmode hloop

/-- A low PITCH_OUT that no gate holds rises at its phase. -/
theorem pitchOutEdge_rises (hgate : d.pitchGated = false) (hlow : d.pitch.out = false) (hrises : d.outRises = true) :
    d.pitchOutEdge true =
      ({ d with pitch := { d.pitch with out := true, outAt := tickOf d.now } } : Dev).emit (.pitchOut (some true)) := by
  rw [Dev.inService] at hservice
  simp only [Dev.pitchOutEdge, hservice, hheld, hmode, hloop, hgate, hlow, hrises, Bool.or_true, Bool.not_true,
    Bool.false_eq_true, or_self, if_false, if_true]

/-- A high PITCH_OUT falls when its width has passed. -/
theorem pitchOutEdge_falls (hhigh : d.pitch.out = true) (hfalls : d.outFalls = true) :
    d.pitchOutEdge false =
      ({ d with pitch := { d.pitch with out := false } } : Dev).emit (.pitchOut (some false)) := by
  rw [Dev.inService] at hservice
  simp only [Dev.pitchOutEdge, Dev.outLow, hservice, hheld, hmode, hloop, hhigh, hfalls, Bool.or_true, Bool.not_true,
    Bool.false_eq_true, or_self, if_false, if_true]

end PitchOut

/-- Settles O30, from the moves of the engine and the two edges of PITCH_OUT. -/
theorem pitchEngineStates : Obligations.PitchEngineStates := by
  unfold Obligations.PitchEngineStates
  refine ⟨?_, ?_, ?_, ?_, ?_, ?_, ?_⟩
  · exact fun s d t source hd hon hqualified hfree =>
      core_next hd (coreOn_of_on hon) (sourceQualified_of_free hon hqualified hfree)
  · exact fun s d t hd hon hlocked hmissing hlength =>
      core_next hd (coreOn_of_on hon) (sourceDeadline_of_missing hon hlocked hmissing hlength)
  · exact fun s d t hd hon hholdover hcount =>
      core_next hd (coreOn_of_on hon) (holdoverReached_of_count hon hholdover hcount)
  · exact fun s d t e f hd hon hslip hinside hbound hend hsrc hpoint he hf =>
      core_next hd (coreOn_of_on hon) (slipPitchEnd_of_no_point hon hslip hinside hbound hend hsrc hpoint he hf)
  · exact fun s d t hd hon hslip hwindow hlate =>
      core_next hd (coreOn_of_on hon) (slipWindowClose_of_late hon hslip hwindow hlate)
  · exact fun s d t hd hservice hheld hmode hgate hlow hloop hrises =>
      core_next hd (coreOn_of_service hservice) (pitchOutEdge_rises hservice hheld hmode hloop hgate hlow hrises)
  · exact fun s d t hd hservice hheld hmode hhigh hloop hfalls =>
      core_next hd (coreOn_of_service hservice) (pitchOutEdge_falls hservice hheld hmode hloop hhigh hfalls)

end Sys2Proof.Proofs
end

section
/-! A received PAUSE frame, the expiry of its pause, and the ceiling that truncates it (R177, R241). -/

namespace Sys2Proof.Proofs

open Sys2Proof Sys2Proof.Machine Sys2Proof.Laws Sys2Proof.Safety

section Received

/-! A PAUSE frame is noted before its quanta are judged: `e` is the block with the frame noted, `x` its port brought up to
the instant. -/

variable {d e : Dev} {p quanta : Nat} {x : Port}
  (he : e = (d.sticky (0x3200 + p) 5 0x10).count (0x3200 + p) 0x24) (hx : x = (e.port p).settle e.ps)
include he hx

/-- A PAUSE frame whose port is under its ceiling holds the port for its quanta. -/
theorem pauseFrame_of_underCeiling (hask : quanta * e.quantum p ≠ 0) (hunder : x.honouredAt e.ps < e.ceiling p) :
    d.pauseFrame p quanta =
      (e.setPort p { x with pause := some (e.ps + quanta * e.quantum p) }).portStart p := by
  subst he hx
  simp only [Dev.pauseFrame, hask, Nat.not_le.mpr hunder, if_false]

/-- A PAUSE frame with 0 quanta ends the pause in progress. -/
theorem pauseFrame_of_zeroQuanta (hzero : quanta = 0) :
    d.pauseFrame p quanta = (e.setPort p { x with pause := none }).portStart p := by
  subst he hx hzero
  simp only [Dev.pauseFrame, Nat.zero_mul, if_true]

end Received

/-- A port that hears takes a received PAUSE frame. -/
theorem pauseReceived_of_hears {d : Dev} {p quanta : Nat} (hhears : d.portHears p = true) :
    d.pauseReceived p quanta = d.pauseFrame p quanta :=
  if_pos hhears

/-- A pause that has run its time leaves the port free to start. -/
theorem pauseExpiry_of_expired {d : Dev} {p n : Nat} (hpause : (d.port p).pause = some n) (hexpired : n ≤ d.ps) :
    d.pauseExpiry p = (d.setPort p { d.port p with pause := none }).portStart p := by
  simp only [Dev.pauseExpiry, hpause, hexpired, if_true]

/-- A pause still running when the honoured total reaches the ceiling ends there, its rest truncated. -/
theorem pauseCeiling_of_reached {d : Dev} {p n : Nat} (hpause : (d.port p).pause = some n) (hrunning : d.ps < n)
    (hreached : d.ceiling p ≤ (d.port p).honouredAt d.ps) :
    d.pauseCeiling p =
      ((d.setPort p { d.port p with pause := none }).truncatePause p (n - d.ps)).portStart p := by
  simp only [Dev.pauseCeiling, hpause, hrunning, hreached, and_self, if_true]

/-- Settles O32, from what a received PAUSE frame, its expiry and its ceiling do to the port. -/
theorem pauseFrames : Obligations.PauseFrames := by
  unfold Obligations.PauseFrames
  refine ⟨?_, ?_, ?_, ?_⟩
  · exact fun s d t p quanta e x hd hon hhears he hx hask hunder =>
      core_next hd hon ((pauseReceived_of_hears hhears).trans (pauseFrame_of_underCeiling he hx hask hunder))
  · exact fun s d t p quanta e x hd hon hhears he hx hzero =>
      core_next hd hon ((pauseReceived_of_hears hhears).trans (pauseFrame_of_zeroQuanta he hx hzero))
  · exact fun s d t p n hd hon hpause hexpired => core_next hd hon (pauseExpiry_of_expired hpause hexpired)
  · exact fun s d t p n hd hon hpause hrunning hreached =>
      core_next hd hon (pauseCeiling_of_reached hpause hrunning hreached)

end Sys2Proof.Proofs
end

section
/-! The outputs that a role drives (R190). -/

namespace Sys2Proof.Proofs

open Sys2Proof Sys2Proof.Machine Sys2Proof.Laws

/-- `e` has the team state of `d` and runs no discrete pulse. -/
def PulsesEnded (d e : Dev) : Prop := e.team = d.team ∧ e.discrete = []

/-- The frame that a controller transmits for its unit is no discrete pulse. -/
theorem PulsesEnded.canYield {d e : Dev} (h : PulsesEnded d e) (n : Nat) : PulsesEnded d (e.canYield n) := by
  unfold Dev.canYield
  split <;> exact h

/-- Of the team's outputs, a unit that stops driving its lines ends the discrete pulses; what else it releases are the
drivers of serial channels and the frames of CAN controllers. -/
theorem releaseLines_pulsesEnded (d : Dev) (hold : Bool) : PulsesEnded d (d.releaseLines hold) := by
  have serialDone : PulsesEnded d
      ((d.ser.map Prod.fst).foldl (fun (e : Dev) n => e.setSer n { e.serCh n with de := false }) d.cutPulses) :=
    List.foldlRecOn _ _ ⟨rfl, rfl⟩ (fun _ h _ _ => h)
  refine List.foldlRecOn _ _ serialDone (fun e h n _ => ?_)
  cases hold with
  | true => exact h
  | false => exact h.canYield n

/-- With no loop in force a role sets the team's outputs by its kind alone: the claim is the ACTIVE's, SER_OWN that of a unit
that leads, and ALIVE_OUT goes low in NONE and HOLD. -/
theorem setRole_team {d : Dev} (r : Role) (hloops : d.loops.any = false) :
    (d.setRole r).team =
      { d.team with
        role := r, claimOut := r == .active, serOwn := r == .active || r == .solo
        aliveOut := d.team.aliveOut && !(r == .none || r == .hold) } := by
  by_cases hdrives : (r == .active || r == .solo) = true
  · simp only [Dev.setRole, hloops, hdrives, Bool.false_eq_true, if_false, if_true]
  · simp only [Dev.setRole, hloops, hdrives, Bool.false_eq_true, if_false, (releaseLines_pulsesEnded _ _).1]

/-- In a role that does not lead no discrete pulse runs. -/
theorem setRole_discrete {d : Dev} {r : Role} (hactive : r ≠ .active) (hsolo : r ≠ .solo) : (d.setRole r).discrete = [] := by
  have hdrives : (r == .active || r == .solo) = false := by simp [hactive, hsolo]
  simp only [Dev.setRole, hdrives, Bool.false_eq_true, if_false, (releaseLines_pulsesEnded _ _).2]

/-- Settles O14, from the team state that a role gives and the end of the pulses in a role that does not lead. -/
theorem roleOutputs : Obligations.RoleOutputs := by
  unfold Obligations.RoleOutputs
  intro d r hloops
  rw [setRole_team r hloops]
  refine ⟨?_, ?_, setRole_discrete, rfl⟩
  · exact beq_iff_eq
  · simp only [Bool.or_eq_true, beq_iff_eq]

end Sys2Proof.Proofs
end

section
/-! HELLO and HEARTBEAT frames over the rope, their timers, and the presence and loss of the rope (R183, R184, R188, R247). -/

namespace Sys2Proof.Proofs

open Sys2Proof Sys2Proof.Machine Sys2Proof.Laws Sys2Proof.Safety

section Received

variable {d : Dev} {f : RopeFrame} {b : List Byte} {n : Option Nat} (hin : d.ropeIn f = .take b n)
include hin

/-- A HELLO of the session's rope epoch, or the first that is known, goes to the pairing check while the team is not formed. -/
theorem helloReceived_of_unformed {e : Dev} (htype : frameType f = 0x01) (he : e = d.heard n)
    (hepoch : e.team.peerKnown = false ∨ e.team.peerEpoch = beAt b 40 4) (hunformed : e.team.formed = false) :
    d.helloReceived f =
      (({ e with
          team := { e.team with
            peerKnown := true, peerEpoch := beAt b 40 4, partnerRole := roleOf (beAt b 0 1)
            partnerB := some (frameSenderB f) } } : Dev).put 0x2600 5 (beAt b 28 2)).pairing f b := by
  subst he
  have hsession : ¬ ((d.heard n).team.peerKnown = true ∧ (d.heard n).team.peerEpoch ≠ beAt b 40 4) := by
    rintro ⟨hknown, hother⟩
    rcases hepoch with hnew | hsame
    · exact Bool.false_ne_true (hnew.symm.trans hknown)
    · exact hother hsame
  refine (onRope_take hin htype).trans ?_
  simp only [if_neg hsession, put_team, hunformed, Bool.false_eq_true, if_false]

/-- A HEARTBEAT counts towards the presence of the rope, and the role that it shows is acted on. -/
theorem heartbeatReceived_of_taken (htype : frameType f = 0x02) :
    d.heartbeatReceived f =
      (let e := (d.heard n).beat f
       ({ e with team := { e.team with partnerRole := roleOf (beAt b 0 1), partnerB := some (frameSenderB f) } } :
          Dev).actOnPartner (decide (beAt b 4 4 ≠ e.get 0x2020 2))) :=
  onRope_take hin htype

end Received

/-- The next HELLO of a team that is not formed leaves 1,000 µs after the last. -/
theorem helloTimer_of_due {d : Dev} (hunformed : d.team.formed = false) (hdue : d.team.lastHello + msCycles ≤ d.now) :
    d.helloTimer = d.sendHello := by
  simp only [Dev.helloTimer, hunformed, Nat.not_lt.mpr hdue, decide_false, Bool.or_self, Bool.false_eq_true, if_false]

/-- Within a session a HELLO leaves and begins no other. -/
theorem sendHello_of_session {d : Dev} (hteam : d.inTeam = true) (hsends : d.ropeSends = true)
    (hsession : d.team.session = true) :
    d.sendHello = ({ d with team := { d.team with lastHello := d.now } } : Dev).ropeSend 0x01 d.helloBody := by
  simp only [Dev.sendHello, hteam, hsends, hsession, Bool.not_true, Bool.or_self, Bool.false_eq_true, if_false, if_true]

/-- A rope that was lost and is seen again begins a new series of HELLOs, clears 0xA302 and has the role decided. -/
theorem ropePresent_of_seen {d : Dev} (hlost : d.team.rope = false) (hseen : d.ropeSeen = true) :
    d.ropePresent =
      ((({ d with team := { d.team with rope := true } } : Dev).newSeries).clearAlert 0xA302).decidePaths := by
  simp only [Dev.ropePresent, hlost, hseen, Bool.not_true, Bool.or_self, Bool.false_eq_true, if_false]

section Lost

variable {d : Dev} (hpresent : d.team.rope = true)
include hpresent

/-- A present rope without a valid frame for more than 60 µs is lost: the loss is counted, the role meets it, and the session
ends. -/
theorem ropeSilent_of_late (hlate : d.team.lastRope + 60 * usCycles < d.now) :
    d.ropeSilent false =
      ((({ d with team := { d.team with rope := false, beats := 0 } } : Dev).count 0x2601 3).ropeLossRole.endSession
        ).decidePaths := by
  simp only [Dev.ropeSilent, hlate, Bool.false_or, decide_true, if_true, Dev.ropeLost, hpresent, Bool.not_true,
    Bool.not_false, Bool.and_true, Bool.false_eq_true, if_false]

/-- A link that goes down loses the rope at once, and its status reads 0. -/
theorem ropeSilent_of_linkDown {e : Dev}
    (he : e = { d with team := { d.team with rope := false, ropeLink := false, beats := 0 } }) :
    d.ropeSilent true =
      (((e.setPort 4 { e.port 4 with link := 0 }).count 0x2601 3).ropeLossRole.endSession).decidePaths := by
  subst he
  simp only [Dev.ropeSilent, Bool.true_or, if_true, Dev.ropeLost, hpresent, Bool.not_true, Bool.and_false,
    Bool.false_eq_true, if_false]

end Lost

/-- Settles O34, from the two frames of a session, their timers, and the presence and loss of the rope. -/
theorem ropeSessions : Obligations.RopeSessions := by
  unfold Obligations.RopeSessions
  refine ⟨?_, ?_, ?_, ?_, ?_, ?_, ?_⟩
  · rintro s d t f b n e _ hd hon hin htype he hepoch hunformed rfl
    exact core_next hd hon (helloReceived_of_unformed hin htype he hepoch hunformed)
  · rintro s d t f b n _ hd hon hin htype rfl
    exact core_next hd hon (heartbeatReceived_of_taken hin htype)
  · exact fun s d t hd hon hunformed hteam hsends hsession hdue =>
      core_next hd hon ((helloTimer_of_due hunformed hdue).trans (sendHello_of_session hteam hsends hsession))
  · exact fun s d t hd hon hteam => core_next hd hon (if_pos hteam)
  · exact fun s d t hd hon hlost hseen => core_next hd hon (ropePresent_of_seen hlost hseen)
  · rintro s d t _ _ hd hon hpresent rfl hlate rfl
    exact core_next hd hon (ropeSilent_of_late hpresent hlate)
  · rintro s d t _ e _ hd hon hpresent rfl he rfl
    exact core_next hd hon (ropeSilent_of_linkDown hpresent he)

end Sys2Proof.Proofs
end

section
/-! The paths of a team: ALIVE_IN, CLAIM_IN_N and the partner's beacon, and the unit's own ALIVE_OUT (R185, R188, R192). -/

namespace Sys2Proof.Proofs

open Sys2Proof Sys2Proof.Machine Sys2Proof.Laws Sys2Proof.Safety

section AliveLost

variable {d : Dev} {edge : Nat} (hpresent : d.team.alive = true) (hlate : edge + 40 * usCycles < d.now)
include hpresent hlate

/-- ALIVE is lost more than 40 µs after its last edge, where it was present. -/
theorem aliveLost_applies : ¬ (!d.team.alive || decide (d.now ≤ edge + 40 * usCycles)) = true := by
  simp [hpresent, Nat.not_le.mpr hlate]

/-- Off ACTIVE, the loss of ALIVE is noted with its last edge and has the role decided. -/
theorem aliveLost_of_not_active (hrole : d.team.role ≠ .active) :
    d.aliveLost edge = ({ d with team := { d.team with alive := false, lastAlive := edge } } : Dev).decidePaths :=
  (if_neg (aliveLost_applies hpresent hlate)).trans (if_neg (mt beq_iff_eq.mp hrole))

/-- An ACTIVE that loses ALIVE runs degraded, and where the rope is present then, it begins a new series of HELLOs. -/
theorem aliveLost_of_active {e : Dev} (hrole : d.team.role = .active)
    (he : ({ d with team := { d.team with alive := false, lastAlive := edge } } : Dev).runDegraded = e)
    (hrope : e.team.rope = true) : d.aliveLost edge = e.newSeries := by
  have hactive : (d.team.role == .active) = true := beq_iff_eq.mpr hrole
  subst he
  simp only [Dev.aliveLost, if_neg (aliveLost_applies hpresent hlate), hactive, if_true, hrope]

end AliveLost

/-- Off ACTIVE and outside its join window, a unit that sees the partner's claim has its role decided. -/
theorem claimAsserted_of_not_active {d : Dev} (hjoining : d.team.joining = none) (hrole : d.team.role ≠ .active) :
    d.claimAsserted = ({ d with team := { d.team with claimIn := true } } : Dev).decidePaths := by
  have hactive : (d.team.role == .active) = false := beq_eq_false_iff_ne.mpr hrole
  simp only [Dev.claimAsserted, hjoining, hactive, Option.isSome_none, Bool.false_eq_true, false_and, if_false]

/-- A backbone path whose next beacon is overdue is lost, and the role is decided. -/
theorem backboneSilent_of_overdue {d : Dev} (hpresent : d.team.backbone = true) (hoverdue : d.team.beaconDue < d.stamp) :
    d.backboneSilent = ({ d with team := { d.team with backbone := false } } : Dev).decidePaths := by
  simp only [Dev.backboneSilent, hoverdue, if_true, Dev.setBackbone, hpresent, Bool.true_eq_false, if_false]

/-- In SERVICE with no loop in force ALIVE_OUT toggles in every role but NONE and HOLD. -/
theorem aliveToggle_of_working {d : Dev} (hservice : d.inService = true) (hloops : d.loops.any = false)
    (hnone : d.team.role ≠ .none) (hhold : d.team.role ≠ .hold) :
    d.aliveToggle =
      ({ d with team := { d.team with aliveOut := !d.team.aliveOut } } : Dev).emit (.aliveOut !d.team.aliveOut) := by
  simp only [Dev.aliveToggle, hservice, hloops, beq_eq_false_iff_ne.mpr hnone, beq_eq_false_iff_ne.mpr hhold, Bool.or_self,
    Bool.not_false, Bool.true_or, Bool.and_self, if_true]

/-- Settles O35, from what each path's loss or return does to the unit, and the toggle of ALIVE_OUT. -/
theorem pathChanges : Obligations.PathChanges := by
  unfold Obligations.PathChanges
  refine ⟨?_, ?_, ?_, ?_, ?_, ?_, ?_⟩
  · exact fun s d t edge hd hon hpresent hrole hlate =>
      core_next hd hon (aliveLost_of_not_active hpresent hlate hrole)
  · exact fun s d t edge e hd hon hpresent hrole hlate he hrope =>
      core_next hd hon (aliveLost_of_active hpresent hlate hrole he hrope)
  · exact fun s d t hd hon => core_next hd hon rfl
  · exact fun s d t hd hon => core_next hd hon rfl
  · exact fun s d t hd hon hjoining hrole => core_next hd hon (claimAsserted_of_not_active hjoining hrole)
  · exact fun s d t hd hon hpresent hoverdue => core_next hd hon (backboneSilent_of_overdue hpresent hoverdue)
  · exact fun s d t hd hservice hloops hnone hhold =>
      core_next hd (coreOn_of_service hservice) (aliveToggle_of_working hservice hloops hnone hhold)

end Sys2Proof.Proofs
end

section
/-! Claims of the ACTIVE role, and its loss with the unit's progress (R185, R191, R194). -/

namespace Sys2Proof.Proofs

open Sys2Proof Sys2Proof.Machine Sys2Proof.Laws Sys2Proof.Safety

/-- Position B claims when its join window has passed. -/
theorem joinExpiry_of_passed {d : Dev} {a : Nat} (hjoining : d.team.joining = some a)
    (hpassed : a + d.get 0x2600 3 * usCycles < d.now) : d.joinExpiry = d.startClaim false true := by
  simp only [Dev.joinExpiry, hjoining, hpassed, if_true]

/-- A sample, 2 µs after the claim or later, that finds no other claim takes the role. -/
theorem claimSample_of_unclaimed {d : Dev} {a : Nat} {lastRow warm cold : Bool}
    (hclaiming : d.team.claiming = some (a, lastRow, warm, cold)) (hdue : a + 2 * usCycles ≤ d.now) :
    d.claimSample false =
      ({ d with team := { d.team with claiming := none, claimIn := false } } : Dev).takeActive warm cold := by
  simp only [Dev.claimSample, hclaiming, Nat.not_lt.mpr hdue, Bool.not_false, if_false, if_true]

/-- A retry, 100 µs after the claim was released or later, claims again where the partner claims nothing; an ISOLATED unit
only while it is not refused, no request is pending and ALIVE_IN is absent (R195). -/
theorem joinRetry_of_unclaimed {d : Dev} {a : Nat} (hretry : d.team.retry = some a) (hdue : a + 100 * usCycles ≤ d.now)
    (hclaim : d.team.claimIn = false)
    (hisolated : d.team.role = .isolated → d.team.refused = false ∧ d.requestPending = false ∧ d.team.alive = false) :
    d.joinRetry = d.startClaim false true := by
  have hallowed : ¬ (d.team.role == .isolated && (d.team.refused || d.requestPending || d.team.alive)) = true := by
    by_cases hrole : d.team.role = .isolated
    · obtain ⟨hrefused, hrequest, halive⟩ := hisolated hrole
      simp [hrefused, hrequest, halive]
    · simp [hrole]
  have hunclaimed : (!d.team.claimIn) = true := by rw [hclaim]; rfl
  rw [Dev.joinRetry, hretry]
  exact (if_neg (Nat.not_lt.mpr hdue)).trans ((if_neg hallowed).trans (if_pos hunclaimed))

/-- A unit that lost its progress goes to HOLD, drops what is queued and every claim, and releases PITCH_OUT. -/
theorem progressLost_of_not_hold {d e : Dev} (hrole : d.team.role ≠ .hold)
    (he : e = ((d.mirrorEnd.clearShadow.setRole .hold).endSession).dropQueued) :
    d.progressLost =
      ({ e with team := { e.team with claiming := none, retry := none, joining := none, change := none } } :
        Dev).outRelease := by
  subst he
  simp only [Dev.progressLost, beq_eq_false_iff_ne.mpr hrole, Bool.false_eq_true, if_false]

/-- Settles O36, from the starts of a claim, its sample and the loss of progress. -/
theorem claims : Obligations.Claims := by
  unfold Obligations.Claims
  refine ⟨?_, ?_, ?_, ?_⟩
  · exact fun s d t a hd hon hjoining hpassed => core_next hd hon (joinExpiry_of_passed hjoining hpassed)
  · rintro s d t _ a lastRow warm cold hd hon hclaiming hdue rfl
    exact core_next hd hon (claimSample_of_unclaimed hclaiming hdue)
  · exact fun s d t a hd hon hretry hdue hclaim hisolated =>
      core_next hd hon (joinRetry_of_unclaimed hretry hdue hclaim hisolated)
  · exact fun s d t e hd hon hrole he => core_next hd hon (progressLost_of_not_hold hrole he)

end Sys2Proof.Proofs
end

section
/-! Discrete outputs: the write of State, and the pulses that it starts (R199). -/

namespace Sys2Proof.Proofs

open Sys2Proof Sys2Proof.Machine Sys2Proof.Laws Sys2Proof.Safety

/-- The row of the dictionary with State of every discrete output: a BOOL that is written and mirrored (R198). -/
def discreteStateRow : OdRow := ⟨0x3300, 0x330F, 0x1, 0x1, .bool, .rw, 0x0, .M⟩

/-- State of each discrete output is found in that row. -/
theorem dictFind_discreteState (n : Fin 16) : dictFind (0x3300 + n.val) 1 = some discreteStateRow := by
  revert n; decide

/-- State has no reserved bit. -/
theorem keptMask_discreteState (n : Fin 16) (v : Nat) : keptMask (0x3300 + n.val) 1 v = v := by
  simp (disch := omega) only [keptMask, if_neg]

/-- A write of State is no write of a unit entry, and among the line entries it is that of a discrete output. -/
theorem writeEffect_discreteState (d : Dev) (o : Otp) (tr : Transport) (n : Fin 16) (v : Nat) (x : Outside) :
    d.writeEffect o tr (0x3300 + n.val) 1 v x = d.discreteWrite n.val v := by
  have htable : Tbl.ofIndex (0x3300 + n.val) = none := by revert n; decide
  have hunit : d.unitWrite o tr (0x3300 + n.val) 1 v x = none := by
    simp (disch := omega) only [Dev.unitWrite, if_neg]
  have hline : d.lineWrite (0x3300 + n.val) 1 v x = some (d.discreteWrite n.val v) := by
    have hindex : (0x3300 + n.val) / 16 = 0x330 := by omega
    simp (disch := omega) only [Dev.lineWrite, if_neg, hindex, and_self, if_true, Nat.add_sub_cancel_left]
  simp only [Dev.writeEffect, htable, hunit, hline]

/-- A write of State does what R199 gives it, and then sends the delta of a mirrored entry (R209). -/
theorem writeEntry_discreteState (d : Dev) (o : Otp) (tr : Transport) (n : Fin 16) (v : Nat) (x : Outside) :
    d.writeEntry o tr discreteStateRow (0x3300 + n.val) 1 v x = (d.discreteWrite n.val v).mWritten := by
  simp (disch := omega) only [Dev.writeEntry, discreteStateRow, keptMask_discreteState, writeEffect_discreteState,
    reduceCtorEq, if_neg, if_false, if_true]

/-- A unit that leads, with no loop in force, starts a pulse of the configured length on SET or CLR and counts it. -/
theorem startPulse_of_leads {d : Dev} (n v : Nat) (hleads : d.leads = true) (hloops : d.loops.any = false) :
    d.startPulse n v =
      ((d.setDisc n { pulse := some (v = 1, d.now + d.get (0x3300 + n) 2 * msCycles) }).count (0x3300 + n) 4).emit
        (.pulse n (v = 1)) := by
  simp only [Dev.startPulse, hleads, hloops, Bool.not_true, Bool.or_self, Bool.false_eq_true, if_false]

/-- A write of State starts its pulse at once where none runs and none is held. -/
theorem discreteWrite_of_idle {d e : Dev} {n v : Nat} (hpulse : (d.disc n).pulse = none) (hheld : (d.disc n).held = none)
    (he : e = (d.put (0x3300 + n) 1 v).put (0x3300 + n) 3 0) : d.discreteWrite n v = e.startPulse n v := by
  have hdisc : e.disc n = d.disc n := by rw [he]; rfl
  simp only [Dev.discreteWrite, ← he, Dev.pulseOrHold, hdisc, hpulse, hheld, Option.isSome_none, Bool.or_self,
    Bool.false_eq_true, if_false]

/-- A pulse that has run its length ends, and with no write held the output waits for nothing. -/
theorem pulseEnd_of_elapsed {d : Dev} {n w : Nat} {b : Bool} (hpulse : (d.disc n).pulse = some (b, w)) (helapsed : w ≤ d.now)
    (hheld : (d.disc n).held = none) : d.pulseEnd n = d.setDisc n { d.disc n with pulse := none, ready := 0 } := by
  simp only [Dev.pulseEnd, hpulse, helapsed, hheld, Option.isSome_none, Bool.false_eq_true, if_false, if_true]

/-- A held write starts its pulse when no other runs and the gap has passed. -/
theorem heldStart_of_ready {d : Dev} {n : Nat} {b : Bool} (hheld : (d.disc n).held = some b)
    (hpulse : (d.disc n).pulse = none) (hready : (d.disc n).ready ≤ d.now) :
    d.heldStart n = (d.setDisc n {}).startPulse n (b2n b) := by
  simp only [Dev.heldStart, hheld, hpulse, hready, Option.isNone_none, and_self, if_true]

/-- A level written as a number is the level. -/
theorem b2n_eq_one (b : Bool) : decide (b2n b = 1) = b := by cases b <;> rfl

/-- Settles O37, from the write of State, the end of a pulse and the start of a held one. -/
theorem discreteOutputs : Obligations.DiscreteOutputs := by
  unfold Obligations.DiscreteOutputs
  refine ⟨?_, ?_, ?_⟩
  · intro s d t tr n v e hd ha hpulse hheld hleads hloops he
    refine core_writeOd hd ha.1 ha.2 (dictFind_discreteState n) ((writeEntry_discreteState ..).trans ?_)
    have hleads' : e.leads = true := by rw [he]; exact hleads
    have hloops' : e.loops.any = false := by rw [he]; exact hloops
    rw [discreteWrite_of_idle hpulse hheld he, startPulse_of_leads _ _ hleads' hloops']
  · exact fun s d t n b w hd hon hpulse helapsed hheld => core_next hd hon (pulseEnd_of_elapsed hpulse helapsed hheld)
  · rintro s d t n b _ hd hon hheld hpulse hready hleads hloops rfl
    refine core_next hd hon ((heldStart_of_ready hheld hpulse hready).trans ?_)
    rw [startPulse_of_leads (d := d.setDisc n.val {}) _ _ hleads hloops, b2n_eq_one]

end Sys2Proof.Proofs
end

section
/-! Mode changes: requests of a team and of a domain, the relay to the standby and its acknowledgement (R202, R203). -/

namespace Sys2Proof.Proofs

open Sys2Proof Sys2Proof.Machine Sys2Proof.Laws Sys2Proof.Safety

/-- An accepted write of Target stamp, while 0x2020:05 holds the command's scope, is a mode request. -/
theorem core_modeWrite {s : State} {t : Nat} {tr : Transport} {scope target : Nat} {d e : Dev}
    (hd : d = (s.at t).accessBegins tr) (ha : Accepted d tr 0x2020 4 target) (hscope : d.get 0x2020 5 = scope)
    (he : d.modeRequest target = e) : s.core t (fun d => d.modeWrite s.otp tr scope target) = .next (s.finish e) := by
  obtain ⟨hon, hc⟩ := ha
  subst hd
  rw [accessBegins_reaches] at hon
  rw [accessBegins_writeCheck] at hc
  rw [accessBegins_get] at hscope
  exact core_next rfl (coreOn_of_reaches hon) ((if_pos hscope).trans ((writeOd_accepted hon hc rfl).trans he))

section Requests

variable {d e : Dev} {target : Nat} (he : e = d.clearAlert 0xA308) (hleads : e.leads = true) (hidle : e.team.change = none)
  (hmode : e.hasMode (e.get 0x2020 3) = true) (hstart : target % e.legPu = 0)
include he hleads hidle hmode hstart

/-- A team request two legs on or later is accepted with the next mode epoch. -/
theorem modeRequest_of_team (hscope : e.get 0x2020 5 = 0) (hlater : e.leg + 2 * e.legPu ≤ target) :
    d.modeRequest target =
      e.acceptMode { mode := e.get 0x2020 3, target := target, epoch := (e.get 0x2020 2 + 1) % 2 ^ 32, domain := false } := by
  subst he
  simp only [Dev.modeRequest, hscope, hleads, hidle, hmode, hstart, Nat.not_lt.mpr hlater, Nat.zero_ne_one, Bool.not_true,
    Bool.false_eq_true, false_and, or_self, ne_eq, not_true_eq_false, if_false, decide_false]

/-- A domain request of the domain master, four pitches on or later, is accepted with the next mode epoch. -/
theorem modeRequest_of_domain (hscope : e.get 0x2020 5 = 1) (hmaster : e.isMaster = true)
    (hlater : e.pitch.num + 4 ≤ target / 2 ^ 24) :
    d.modeRequest target =
      e.acceptMode { mode := e.get 0x2020 3, target := target, epoch := (e.get 0x2020 2 + 1) % 2 ^ 32, domain := true } := by
  subst he
  simp only [Dev.modeRequest, hscope, hleads, hmaster, hidle, hmode, hstart, Nat.not_lt.mpr hlater, Bool.not_true,
    Bool.false_eq_true, and_false, or_self, ne_eq, not_true_eq_false, if_false, if_true, decide_true]

end Requests

/-- A unit that shadows acknowledges a relay, notes a domain change, and pends one of another epoch whose target leg it has
not missed. -/
theorem modeRelay_of_shadow {d k g : Dev} {f : RopeFrame} {b : List Byte} {n : Option Nat} {m : ModeChange}
    (hin : d.ropeIn f = .take b n) (htype : frameType f = 0x40) (hshadows : (d.heard n).shadows = true)
    (hm : m = { mode := beAt b 0 1, target := beAt b 8 8, epoch := beAt b 4 4, domain := beAt b 1 1 ≠ 0 })
    (hk : k = (d.heard n).ropeSend 0x41 (relayBody m))
    (hg : g = if m.domain then { k with team := { k.team with lastDomain := some m } } else k)
    (hepoch : g.get 0x2020 2 ≠ m.epoch) (hmissed : g.modeMissed m.target = false) :
    d.modeRelay f = ({ g with team := { g.team with change := some m } } : Dev).modeCatch m.target := by
  have hshadows' : ¬ (!(d.heard n).shadows) = true := by simp [hshadows]
  have hmissed' : ¬ g.modeMissed m.target = true := by simp [hmissed]
  subst hm hk hg
  exact (onRope_take hin htype).trans ((if_neg hshadows').trans ((if_neg hepoch).trans (if_neg hmissed')))

/-- Settles O38, from the two requests, the relay and its acknowledgement. -/
theorem modeChanges : Obligations.ModeChanges := by
  unfold Obligations.ModeChanges
  refine ⟨?_, ?_, ?_, ?_⟩
  · exact fun s d t tr target e hd ha hscope he hscope' hleads hidle hmode hstart hlater =>
      core_modeWrite hd ha hscope (modeRequest_of_team he hleads hidle hmode hstart hscope' hlater)
  · exact fun s d t tr target e hd ha hscope he hscope' hleads hmaster hidle hmode hstart hlater =>
      core_modeWrite hd ha hscope (modeRequest_of_domain he hleads hidle hmode hstart hscope' hmaster hlater)
  · rintro s d t f b n _ m k g hd hon hin htype rfl hshadows hm hk hg hepoch hmissed
    exact core_next hd hon (modeRelay_of_shadow hin htype hshadows hm hk hg hepoch hmissed)
  · rintro s d t f b n _ hd hon hin htype rfl
    exact core_next hd hon (onRope_take hin htype)

end Sys2Proof.Proofs
end

section
/-! Fields of admission records and of mirror deltas: what their bytes hold reads back (R211, R222). -/

namespace Sys2Proof.Proofs

open Sys2Proof Sys2Proof.Machine Sys2Proof.Laws

/-- Bytes from an offset past a leading field are those of the rest. -/
theorem slice_be_append_of_le {k v off n : Nat} (ys : List Byte) (h : k ≤ off) :
    slice (be k v ++ ys) off n = slice ys (off - k) n := by
  simp [slice, List.drop_append, List.drop_eq_nil_of_le, h]

/-- A field past a leading one is a field of the rest. -/
theorem beAt_be_append_of_le {k v off n : Nat} (ys : List Byte) (h : k ≤ off) :
    beAt (be k v ++ ys) off n = beAt ys (off - k) n :=
  congrArg ofBe (slice_be_append_of_le ys h)

/-- The leading field reads back what fits in it. -/
theorem beAt_be_append {n v : Nat} (ys : List Byte) (h : v < 256 ^ n) : beAt (be n v ++ ys) 0 n = v :=
  (beAt_append [] ys n v 0 rfl).trans (Nat.mod_eq_of_lt h)

/-- A field that stands alone reads back what fits in it. -/
theorem beAt_be {n v : Nat} (h : v < 256 ^ n) : beAt (be n v) 0 n = v := by
  simpa using beAt_be_append [] h

/-- The two highest bits of a word are those above a 30-bit value. -/
theorem bits_mark {m g : Nat} (hm : m < 4) (hg : g < 2 ^ 30) : bits (m * 2 ^ 30 + g) 31 30 = m := by
  rw [bits, Nat.shiftRight_eq_div_pow]
  omega

/-- The lower 30 bits of a word are the value below its mark. -/
theorem bits_gsid {m g : Nat} (hg : g < 2 ^ 30) : bits (m * 2 ^ 30 + g) 29 0 = g := by
  rw [bits, Nat.shiftRight_zero]
  omega

/-- Bit 15 of a length field is the flag above an 11-bit length. -/
theorem bit_cont {n : Nat} (cont : Bool) (hn : n < 2 ^ 11) : bit (b2n cont * 2 ^ 15 + n) 15 = cont := by
  rw [bit, Nat.testBit_eq_decide_div_mod_eq]
  cases cont
  · exact decide_eq_false (by simp only [b2n, Bool.false_eq_true, if_false]; omega)
  · exact decide_eq_true (by simp only [b2n, if_true]; omega)

/-- A flag and a length of 11 bits fit in two bytes. -/
theorem lengthField_lt {n : Nat} (cont : Bool) (hn : n < 2 ^ 11) : b2n cont * 2 ^ 15 + n < 256 ^ 2 := by
  cases cont
  · simp only [b2n, Bool.false_eq_true, if_false]; omega
  · simp only [b2n, if_true]; omega

/-- The fields of a record in range read back from its 24 bytes. -/
theorem recordOf_recordBytes {r : AdmRec} (hmark : r.mark < 4) (hgsid : r.gsid < 2 ^ 30) (hseq : r.seq < 2 ^ 32)
    (hstamp : r.stamp < 2 ^ 64) (hdigest : r.digest < 2 ^ 64) : recordOf (recordBytes r) = r := by
  have hword : r.mark * 2 ^ 30 + r.gsid < 256 ^ 4 := by omega
  simp (disch := omega) only [recordOf, recordBytes, List.append_assoc, beAt_be_append_of_le, Nat.reduceSub, Nat.sub_self,
    beAt_be_append _ hword, beAt_be_append, beAt_be, bits_mark, bits_gsid]

/-- The fields and the data of a delta in range read back from its body. -/
theorem deltaOf_pieceBody {n seg v off : Nat} (cont : Bool) {data : List Byte} (hn : n < 2 ^ 32) (hseg : seg < 2 ^ 32)
    (hv : v < 2 ^ 32) (hoff : off < 2 ^ 16) (hdata : data.length ≤ 1024) :
    deltaOf (pieceBody n seg v off cont data) =
      { seq := n, seg := seg, version := v, offset := off, cont := cont, data := data } := by
  have hshort : data.length < 2 ^ 11 := by omega
  have hlength : (b2n cont * 2 ^ 15 + data.length) % 2 ^ 11 = data.length := by omega
  have hslice : slice data 0 data.length = data := by
    simpa using slice_append [] data [] 0 data.length rfl rfl
  simp (disch := omega) only [deltaOf, pieceBody, List.append_assoc, beAt_be_append_of_le, slice_be_append_of_le,
    Nat.reduceSub, Nat.sub_self, beAt_be_append, Nat.mod_eq_of_lt hshort, beAt_be_append _ (lengthField_lt cont hshort),
    bit_cont cont hshort, hlength, hslice]

/-- Settles O15, field by field: each is read back behind those before it. -/
theorem wireFormatsRoundTrip : Obligations.WireFormatsRoundTrip := by
  unfold Obligations.WireFormatsRoundTrip
  refine ⟨fun r hmark hgsid hseq hstamp hdigest => ⟨?_, ?_⟩, fun n seg v off cont data hn hseg hv hoff hdata => ?_⟩
  · simp only [recordBytes, List.length_append, be_length]
  · exact recordOf_recordBytes hmark hgsid hseq hstamp hdigest
  · exact deltaOf_pieceBody cont hn hseg hv hoff hdata

end Sys2Proof.Proofs
end

section
/-! ADMIT frames: the send timer, the records taken, their acknowledgement and its timeout (R211 to R213). -/

namespace Sys2Proof.Proofs

open Sys2Proof Sys2Proof.Machine Sys2Proof.Laws Sys2Proof.Safety

/-- The records that wait are sent once 60 of them wait, or the first has waited 0.2 µs. -/
theorem admitTimer_of_due {d : Dev} {w : WaitRec} {ws : List WaitRec} (hwaiting : d.mirror.waiting = w :: ws)
    (hdue : 60 ≤ (w :: ws).length ∨ w.since + 160 ≤ d.now) : d.admitTimer = d.admitSome.cairnLeave := by
  simp only [Dev.admitTimer, hwaiting, decide_eq_true_eq, if_pos hdue]

/-- Up to 60 records of the plan of the first that waits leave in a frame, and are kept until they are acknowledged. -/
theorem admitSome_of_waiting {d e : Dev} {w : WaitRec} {ws run : List WaitRec} (hwaiting : d.mirror.waiting = w :: ws)
    (hrun : run = ((w :: ws).takeWhile (fun x => x.leg = w.leg)).take 60)
    (he : e = (d.sendAdmit w.leg w.index (run.map (·.adm))).count 0x2603 1 run.length) :
    d.admitSome =
      { e with
        mirror := { e.mirror with
          waiting := e.mirror.waiting.drop run.length
          unacked := e.mirror.unacked ++ run.map (fun x => (x.leg, x.index, x.adm)) } } := by
  subst he hrun
  simp only [Dev.admitSome, hwaiting]

section Received

variable {d : Dev} {f : RopeFrame} {foreign : Dev → Dev} {b : List Byte} {n : Option Nat} (hin : d.ropeIn f = .take b n)
include hin

/-- Of a whole frame's records those from the index expected on are taken, the frame is acknowledged, and what can be
matched is. -/
theorem admitReceived_of_expected {g h : Dev} {l i m next : Nat} {fresh : List Nat} (htype : frameType f = 0x10)
    (hacks : (d.heard n).acknowledges (beAt b 0 8) = true) (hl : l = beAt b 0 8) (hi : i = beAt b 8 4)
    (hm : m = beAt b 12 1) (hnext : next = SMap.get (fun _ => 0) (d.heard n).mirror.expect l) (hreached : i ≤ next)
    (hsome : 1 ≤ m) (hmost : m ≤ 60) (hwhole : 16 + 24 * m ≤ b.length) (hfresh : fresh = (List.range m).drop (next - i))
    (hg : g = fresh.foldl (fun d j => d.takeRecord l (i + j) (recordOf (slice b (16 + 24 * j) 24))) (d.heard n))
    (hh : h = ({ g with
        mirror := { g.mirror with expect := SMap.set (fun _ => 0) g.mirror.expect l (max next (i + m)) } } : Dev).count
      0x2603 2 fresh.length) :
    d.admitReceived f foreign = (h.ropeSend 0x11 (be 8 l ++ be 4 (max next (i + m)) ++ be 4 0)).resolveAll := by
  have hvalid : ¬ ((!(d.heard n).acknowledges l) = true ∨ next < i ∨ m = 0 ∨ 60 < m ∨ b.length < 16 + 24 * m) := by
    simp only [hl, hacks, Bool.not_true, Bool.false_eq_true, false_or]
    omega
  subst hh hg hfresh hnext hl hi hm
  exact (onRope_take hin htype).trans (if_neg hvalid)

/-- A frame for a plan that is not acknowledged, or past the index expected, is discarded. -/
theorem admitReceived_of_unexpected (htype : frameType f = 0x10)
    (hreject : (d.heard n).acknowledges (beAt b 0 8) = false ∨
      SMap.get (fun _ => 0) (d.heard n).mirror.expect (beAt b 0 8) < beAt b 8 4) :
    d.admitReceived f foreign = d.heard n :=
  (onRope_take hin htype).trans
    (if_pos (hreject.imp (fun hrefuses => by rw [hrefuses]; rfl) (fun hpast => .inl hpast)))

/-- On the ACTIVE an acknowledgement forgets what it covers, closes its holds, and lets frames start. -/
theorem ackReceived_of_active {g : Dev} {l i : Nat} (htype : frameType f = 0x11) (hrole : (d.heard n).team.role = .active)
    (hl : l = beAt b 0 8) (hi : i = beAt b 8 4)
    (hg : g = ((d.heard n).mirror.admits.filter (fun a => a.1 = l ∧ a.2.1 < i)).foldl
      (fun d a => d.histAdd 24 ((d.now - a.2.2) * 5 / 4 / 100)) (d.heard n)) :
    d.ackReceived f foreign =
      (({ g with
          mirror := { (d.heard n).mirror with
            admits := (d.heard n).mirror.admits.filter (fun a => !(a.1 = l ∧ a.2.1 < i))
            unacked := (d.heard n).mirror.unacked.filter (fun u => !(u.1 = l ∧ u.2.1 < i)) } } : Dev).mapPlans
        (closeHolds l i)).portsStart := by
  subst hg hl hi
  exact (onRope_take hin htype).trans (if_pos (beq_iff_eq.mpr hrole))

/-- In another role an acknowledgement is heard and no more. -/
theorem ackReceived_of_not_active (htype : frameType f = 0x11) (hrole : (d.heard n).team.role ≠ .active) :
    d.ackReceived f foreign = d.heard n :=
  (onRope_take hin htype).trans (if_neg (fun h => hrole (beq_iff_eq.mp h)))

end Received

/-- With no acknowledgement of a frame for more than 5 µs every record of its plan not acknowledged is sent again. -/
theorem admitTimeout_of_late {d e : Dev} {l x y i : Nat} {z : AdmRec} {rs : List (Nat × Nat × AdmRec)}
    (hlate : d.mirror.admits.find? (fun a => decide (a.2.2 + 5 * usCycles < d.now)) = some (l, x, y))
    (hrs : rs = d.mirror.unacked.filter (fun u => u.1 = l)) (hhead : rs.head? = some (l, i, z))
    (he : e = { d with mirror := { d.mirror with admits := d.mirror.admits.filter (fun a => !(a.1 = l)) } }) :
    d.admitTimeout = (e.resendRecs l (rs.length + 1) i (rs.map (fun u => u.2.2))).count 0x2603 3 := by
  subst he hrs
  simp only [Dev.admitTimeout, hlate, hhead]

/-- Settles O39, from the send timer, the two frames received and the timeout of an acknowledgement. -/
theorem admitFrames : Obligations.AdmitFrames := by
  unfold Obligations.AdmitFrames
  refine ⟨?_, ?_, ?_, ?_, ?_, ?_⟩
  · intro s d t w ws run e hd hon hwaiting hdue hrun he
    refine core_next hd hon ((admitTimer_of_due hwaiting hdue).trans ?_)
    rw [admitSome_of_waiting hwaiting hrun he]
  · rintro s d t f b n _ l i m next fresh g h hd hon hin htype rfl hacks hl hi hm hnext hreached hsome hmost hwhole hfresh hg
      hh
    exact core_next hd hon
      (admitReceived_of_expected hin htype hacks hl hi hm hnext hreached hsome hmost hwhole hfresh hg hh)
  · rintro s d t f b n _ hd hon hin htype rfl hreject
    exact core_next hd hon (admitReceived_of_unexpected hin htype hreject)
  · rintro s d t f b n _ g l i hd hon hin htype rfl hrole hl hi hg
    exact core_next hd hon (ackReceived_of_active hin htype hrole hl hi hg)
  · rintro s d t f b n _ hd hon hin htype rfl hrole
    exact core_next hd hon (ackReceived_of_not_active hin htype hrole)
  · exact fun s d t l x y i z rs e hd hon hlate hrs hhead he =>
      core_next hd hon (admitTimeout_of_late hlate hrs hhead he)

end Sys2Proof.Proofs
end

section
/-! Records whose copy does not come, copies that no record matches, and cairns (R214, R216, R219 to R221). -/

namespace Sys2Proof.Proofs

open Sys2Proof Sys2Proof.Machine Sys2Proof.Laws Sys2Proof.Safety

/-- On a unit that shadows, the records pending past both instants of R214 become unheld; the first of a leg raises 0xA316
and the others renew its detail. -/
theorem pendingExpiry_of_late {d e g : Dev} {rs : List RecvRec} {k : Nat} (hshadows : d.shadows = true)
    (hrs : rs = d.mirror.recv.filter (fun r => r.state = 0 ∧ r.leg ≤ d.leg ∧ r.arrived + 2400 < d.now)) (hsome : rs ≠ [])
    (he : e = rs.foldl (fun d r => d.setRecv { r with state := 2 }) d) (hk : k = e.mirror.unheldLeg + rs.length)
    (hg : g = ({ e with mirror := { e.mirror with unheldLeg := k } } : Dev).count 0x2603 5 rs.length) :
    d.pendingExpiry =
      ((if e.mirror.unheldLeg = 0 then g.raise 0xA316 1 (sat 0xFFFFFFFF k)
        else g.alertDetail 0xA316 (sat 0xFFFFFFFF k)).chargeShadows false).cairnSettle := by
  have hacts : ¬ (rs.isEmpty = true ∨ (!d.shadows) = true) := by simp [hsome, hshadows]
  subst hg hk he
  simp only [Dev.pendingExpiry, ← hrs, if_neg hacts, decide_eq_true_eq]

/-- On a unit that shadows, the copies whose last rinse passed more than 10 µs ago leave the hold as orphans. -/
theorem orphanJudge_of_shadows {d : Dev} {due : Shadow → Bool} (hshadows : d.shadows = true)
    (hdue : due = fun x => decide (x.leg + (x.prop.defer + 1) * d.legPu < d.leg) ||
      (decide (x.leg + (x.prop.defer + 1) * d.legPu = d.leg) && decide (d.legAt + 10 * usCycles < d.now))) :
    d.orphanJudge =
      (d.mirror.shadow.filter due).foldl (fun d x => d.orphan 1 x)
        { d with mirror := { d.mirror with shadow := d.mirror.shadow.filter (fun x => !due x) } } := by
  subst hdue
  simp only [Dev.orphanJudge, hshadows, Bool.not_true, Bool.false_eq_true, if_false]

/-- A cairn of the leg just closed that agrees with the standby resets the missed count, and its digest is compared. -/
theorem cairnReceived_of_agreeing {d e : Dev} {f : RopeFrame} {foreign : Dev → Dev} {b : List Byte} {n : Option Nat}
    (hin : d.ropeIn f = .take b n) (htype : frameType f = 0x18) (he : e = d.heard n) (hrole : e.team.role = .standby)
    (hleg : beAt b 0 8 = e.leg - e.legPu) (hagrees : e.cairnDiffers b = (false, false, false, false)) :
    d.cairnReceived f foreign =
      (({ e with
          mirror := { e.mirror with
            cairnLeg := some (beAt b 0 8), cairnDeltas := some (beAt b 24 4), cairnsMissed := 0
            hCairns := e.mirror.hCairns + 1
            cairnCheck := some (beAt b 0 8 + e.legPu, beAt b 16 8, beAt b 0 8) } } : Dev).count 0x2603 6).cairnSettle := by
  have hstandby : (e.team.role == .standby) = true := beq_iff_eq.mpr hrole
  have hown : ¬ e.leg - e.legPu ≠ beAt b 0 8 := fun hother => hother hleg.symm
  have hnone : b2n false + b2n false + b2n false + b2n false = 0 := rfl
  subst he
  refine (onRope_take hin htype).trans ?_
  simp only [hstandby, Bool.true_or, Bool.not_true, Bool.false_eq_true, or_self, if_false, if_neg hown, hagrees,
    if_pos hnone]

/-- A cairn that a standby, or a unit whose takeover awaits it, lacks past the rinse and 50 µs is counted once a leg. -/
theorem cairnMissing_of_late {d : Dev} (hawaits : d.team.role = .standby ∨ d.mirror.cairnDue = some (d.leg - d.legPu))
    (hlacks : d.mirror.cairnLeg ≠ some (d.leg - d.legPu)) (hfirst : d.mirror.missedLeg ≠ some (d.leg - d.legPu))
    (hlate : d.legAt + 50 * usCycles < d.now) :
    d.cairnMissing =
      ((({ d with
          mirror := { d.mirror with cairnsMissed := d.mirror.cairnsMissed + 1, missedLeg := some (d.leg - d.legPu) } } :
        Dev).count 0x2603 8).raise 0xA311 1 (sat 0xFFFFFFFF (d.mirror.cairnsMissed + 1))) := by
  have hexpects : (d.team.role == .standby ||
      (d.team.role == .darning && decide (d.mirror.darnLegL = some (d.leg - d.legPu))) ||
      decide (d.mirror.cairnDue = some (d.leg - d.legPu))) = true := by
    rcases hawaits with hrole | hdue
    · simp [hrole]
    · simp [hdue]
  exact if_pos ⟨hexpects, hlacks, hfirst, hlate⟩

/-- Settles O40, from the expiry of pending records, the orphans, and the cairn that comes or is missed. -/
theorem recordsOrphansAndCairns : Obligations.RecordsOrphansAndCairns := by
  unfold Obligations.RecordsOrphansAndCairns
  refine ⟨?_, ?_, ?_, ?_⟩
  · exact fun s d t rs e g k hd hon hshadows hrs hsome he hk hg =>
      core_next hd hon (pendingExpiry_of_late hshadows hrs hsome he hk hg)
  · exact fun s d t due hd hon hshadows hdue => core_next hd hon (orphanJudge_of_shadows hshadows hdue)
  · exact fun s d t f b n e hd hon hin htype he hrole hleg hagrees =>
      core_next hd hon (cairnReceived_of_agreeing hin htype he hrole hleg hagrees)
  · exact fun s d t hd hon hawaits hlacks hfirst hlate =>
      core_next hd hon (cairnMissing_of_late hawaits hlacks hfirst hlate)

end Sys2Proof.Proofs
end

section
/-! Mirror deltas: one in order, an acknowledgement, and its timeout (R222). -/

namespace Sys2Proof.Proofs

open Sys2Proof Sys2Proof.Machine Sys2Proof.Laws Sys2Proof.Safety

section Received

variable {d e : Dev} {f : RopeFrame} {foreign : Dev → Dev} {b : List Byte} {n : Option Nat}
  (hin : d.ropeIn f = .take b n) (he : e = d.heard n)
include hin he

/-- A delta in order that ends its run is a run of its own: it is applied and acknowledged. -/
theorem deltaReceived_of_single {x : Delta} (htype : frameType f = 0x20) (hshadows : e.shadows = true)
    (hclaiming : e.team.claiming = none) (hx : x = deltaOf b) (horder : x.seq = e.mirror.deltaIn) (hcont : x.cont = false) :
    d.deltaReceived f foreign =
      ((({ e with
          mirror := { e.mirror with run := [], deltaIn := (e.mirror.deltaIn + 1) % 2 ^ 32 } } : Dev).applyRun
        [x]).deltaAck) := by
  have hacts : ¬ ((!e.shadows) = true ∨ e.team.claiming.isSome = true) := by simp [hshadows, hclaiming]
  subst he hx
  refine (onRope_take hin htype).trans ((if_neg hacts).trans ?_)
  simp only [horder, true_or, if_true, hcont, Bool.false_eq_true, if_false, List.nil_append, List.length_singleton]

/-- On the ACTIVE an acknowledgement drops the deltas before the one it names and completes writes. -/
theorem deltaAckReceived_of_active (htype : frameType f = 0x21) (hrole : e.team.role = .active) :
    d.deltaAckReceived f foreign =
      ({ e with
          mirror := { e.mirror with
            deltas := e.mirror.deltas.filter (fun x => decide ((x.seq + 2 ^ 32 - beAt b 0 4) % 2 ^ 32 < 2 ^ 31)) } } :
        Dev).completeWrites false := by
  subst he
  exact (onRope_take hin htype).trans (if_pos (beq_iff_eq.mpr hrole))

end Received

/-- With no acknowledgement of the oldest delta for more than 5 µs every delta is sent again. -/
theorem deltaTimeout_of_late {d : Dev} {y : Delta} {ys ds : List Delta} (hdeltas : d.mirror.deltas = y :: ys)
    (hlate : y.sent + 5 * usCycles < d.now) (hmirrors : d.mirrors = true)
    (hds : ds = (y :: ys).map (fun z => { z with sent := d.now })) :
    d.deltaTimeout =
      (ds.foldl (fun (d : Dev) z => d.sendDelta z) { d with mirror := { d.mirror with deltas := ds } }).count 0x2603 3 := by
  subst hds
  simp only [Dev.deltaTimeout, hdeltas, hlate, hmirrors, and_self, if_true]

/-- Settles O41, from a delta in order, its acknowledgement and the timeout of one. -/
theorem mirrorDeltas : Obligations.MirrorDeltas := by
  unfold Obligations.MirrorDeltas
  refine ⟨?_, ?_, ?_⟩
  · exact fun s d t f b n e x hd hon hin htype he hshadows hclaiming hx horder hcont =>
      core_next hd hon (deltaReceived_of_single hin he htype hshadows hclaiming hx horder hcont)
  · exact fun s d t f b n e hd hon hin htype he hrole =>
      core_next hd hon (deltaAckReceived_of_active hin he htype hrole)
  · exact fun s d t y ys ds hd hon hdeltas hlate hmirrors hds =>
      core_next hd hon (deltaTimeout_of_late hdeltas hlate hmirrors hds)

end Sys2Proof.Proofs
end

section
/-! Audits and segment requests, and both sides of darning (R223, R224, R442). -/

namespace Sys2Proof.Proofs

open Sys2Proof Sys2Proof.Machine Sys2Proof.Laws Sys2Proof.Safety

/-- A unit in role DARNING shadows. -/
theorem shadows_of_darning {d : Dev} (hrole : d.team.role = .darning) : d.shadows = true := by
  simp [Dev.shadows, hrole]

section Received

variable {d e : Dev} {f : RopeFrame} {foreign : Dev → Dev} {b : List Byte} {n : Option Nat}
  (hin : d.ropeIn f = .take b n) (he : e = d.heard n)
include hin he

/-- An audit of a segment held in an older version requests the segment. -/
theorem auditReceived_of_newer (htype : frameType f = 0x22) (hshadows : e.shadows = true)
    (hheld : e.segHeld (beAt b 0 4) = true) (hnewer : e.segVersion (beAt b 0 4) < beAt b 4 4) :
    d.auditReceived f foreign = e.requestSegment (beAt b 0 4) := by
  have hacts : ¬ ((!e.shadows) = true ∨ (!e.segHeld (beAt b 0 4)) = true) := by simp [hshadows, hheld]
  subst he
  exact (onRope_take hin htype).trans ((if_neg hacts).trans (if_pos hnewer))

/-- The unit that mirrors serves a request and counts it. -/
theorem segmentRequest_of_mirrors (htype : frameType f = 0x34) (hmirrors : e.mirrors = true) :
    d.segmentRequest f foreign = (e.sendSegment (beAt b 0 4)).count 0x2603 9 := by
  subst he
  exact (onRope_take hin htype).trans (if_pos hmirrors)

/-- DARN BEGIN gives a joining unit the partner's mode, mode epoch and generation, empties what it holds of the mirror, and
starts its count of segments; the first plan that it acknowledges, once set, is kept over a further DARN BEGIN (log
entry 44). -/
theorem darnBegin_of_darning {g h : Dev} (htype : frameType f = 0x30) (hrole : e.team.role = .darning)
    (hg : g = ((e.put 0x2020 2 (beAt b 4 4)).put 0x2020 1 (beAt b 8 1)).adoptGeneration (beAt b 0 4))
    (hh : h = { g with
      slots := (g.slots.map (fun x => (x.1, { x.2 with fromActive := false }))).filter (fun x => x.2 ≠ ({} : Slot))
      team := { g.team with change := none }
      mirror := { g.mirror with
        held := [], versions := [], pieces := [], requested := [], run := [], darnStart := g.now, darnLegL := none
        cairnCheck := none, cairnDeltas := none, ackFrom := some (g.mirror.ackFrom.getD (g.plan.leg + g.legPu)) } }) :
    d.darnBegin f foreign =
      (((((h.put 0x2604 1 1).put 0x2604 2 (beAt b 20 4)).put 0x2604 3 0).count 0x2603 0x0A).raise 0xA313 1 (beAt b 20 4)) := by
  have hacts : ¬ (!e.shadows) = true := by simp [shadows_of_darning hrole]
  have hjoining : ¬ (e.team.role == .standby) = true := by simp [hrole]
  subst he hg hh
  refine (onRope_take hin htype).trans ((if_neg hacts).trans ?_)
  simp only [if_neg hjoining]

/-- A piece that is a whole segment replaces the pieces kept of it. -/
theorem segmentReceived_of_whole {x : Delta} (htype : frameType f = 0x31) (hshadows : e.shadows = true) (hx : x = deltaOf b)
    (hfirst : x.seq = 0) (hstart : x.offset = 0) (hwhole : x.data.length = segSize x.seg) :
    d.segmentReceived f foreign =
      ({ e with mirror := { e.mirror with pieces := e.mirror.pieces.filter (fun p => !(p.1 = x.seg)) } } : Dev).segmentWhole
        x.seg x.version (patch (List.replicate (segSize x.seg) 0) 0 x.data) := by
  have hacts : ¬ (!e.shadows) = true := by simp [hshadows]
  subst he hx
  refine (onRope_take hin htype).trans ((if_neg hacts).trans ?_)
  simp only [hfirst, if_true, List.nil_append, List.map_cons, List.map_nil, List.sum_singleton, hwhole,
    Nat.lt_irrefl, if_false, List.foldl_cons, List.foldl_nil, hstart]

/-- While darning runs, the acknowledgement of a segment that waits for it is noted and counted, and the last ends the
sending. -/
theorem segmentAck_of_awaited {g : Dev} (htype : frameType f = 0x32) (hmirrors : e.mirrors = true)
    (hawaited : e.mirror.darnWait.contains (beAt b 0 4) = true) (hdarning : e.mirror.darning = true)
    (hg : g = { e with
      mirror := { e.mirror with
        darnWait := e.mirror.darnWait.filter (· ≠ beAt b 0 4)
        peerHeld := if e.mirror.peerHeld.contains (beAt b 0 4) then e.mirror.peerHeld
          else e.mirror.peerHeld ++ [beAt b 0 4] } }) :
    d.segmentAck f foreign = (g.put 0x2604 3 (g.get 0x2604 3 + 1)).darnEnd := by
  subst he hg
  exact (onRope_take hin htype).trans ((if_pos ⟨hmirrors, hawaited⟩).trans (if_pos hdarning))

/-- DARN END gives a joining unit at step 1 the leg that decides, and takes it to step 2. -/
theorem darnEndReceived_of_darning (htype : frameType f = 0x33) (hrole : e.team.role = .darning)
    (hstep : e.get 0x2604 1 = 1) :
    d.darnEndReceived f foreign =
      ({ e with mirror := { e.mirror with darnLegL := some (beAt b 0 8) } } : Dev).put 0x2604 1 2 := by
  subst he
  exact (onRope_take hin htype).trans (if_pos ⟨beq_iff_eq.mpr hrole, hstep⟩)

end Received

/-- A partner that still shows DARNING 70 µs after the leg that decides has closed is darned again. -/
theorem darnTimeout_of_late {d : Dev} {l : Nat} (hleg : d.mirror.darnLegL = some l) (hmirrors : d.mirrors = true)
    (hdarning : d.mirror.darning = true) (hpartner : d.team.partnerRole = .darning) (hclosed : l + d.legPu = d.leg)
    (hlate : d.legAt + 70 * usCycles < d.now) : d.darnTimeout = d.startDarning := by
  rw [Dev.darnTimeout, hleg]
  exact if_pos ⟨hmirrors, hdarning, beq_iff_eq.mpr hpartner, .inr ⟨hclosed, hlate⟩⟩

/-- A piece that is not the last of its segment leaves, and the next is due. -/
theorem darnSend_of_pieces {d : Dev} {l v i : Nat} {x y : List Byte} {ys : List (List Byte)} (hmirrors : d.mirrors = true)
    (hnow : d.mirror.darnNow = some (l, v, i)) (hpieces : d.mirror.darnPieces = x :: y :: ys) :
    d.darnSend =
      ({ d with mirror := { d.mirror with darnPieces := y :: ys, darnNow := some (l, v, i + 1) } } : Dev).ropeSend 0x31
        (pieceBody i l v (1024 * i) false x) := by
  simp only [Dev.darnSend, hmirrors, hnow, hpieces, Bool.not_true, List.isEmpty_cons, Bool.false_eq_true, false_and,
    if_false]

/-- Settles O42, from what each frame of audits and darning does, the restart when late, and the next piece. -/
theorem auditsAndDarning : Obligations.AuditsAndDarning := by
  unfold Obligations.AuditsAndDarning
  refine ⟨?_, ?_, ?_, ?_, ?_, ?_, ?_, ?_⟩
  · exact fun s d t f b n e hd hon hin htype he hshadows hheld hnewer =>
      core_next hd hon (auditReceived_of_newer hin he htype hshadows hheld hnewer)
  · exact fun s d t f b n e hd hon hin htype he hmirrors =>
      core_next hd hon (segmentRequest_of_mirrors hin he htype hmirrors)
  · exact fun s d t f b n e g h hd hon hin htype he hrole hg hh =>
      core_next hd hon (darnBegin_of_darning hin he htype hrole hg hh)
  · exact fun s d t f b n e x hd hon hin htype he hshadows hx hfirst hstart hwhole =>
      core_next hd hon (segmentReceived_of_whole hin he htype hshadows hx hfirst hstart hwhole)
  · exact fun s d t f b n e g hd hon hin htype he hmirrors hawaited hdarning hg =>
      core_next hd hon (segmentAck_of_awaited hin he htype hmirrors hawaited hdarning hg)
  · exact fun s d t f b n e hd hon hin htype he hrole hstep =>
      core_next hd hon (darnEndReceived_of_darning hin he htype hrole hstep)
  · exact fun s d t l hd hon hleg hmirrors hdarning hpartner hclosed hlate =>
      core_next hd hon (darnTimeout_of_late hleg hmirrors hdarning hpartner hclosed hlate)
  · exact fun s d t l v i x y ys hd hon hdarning hmirrors hnow hpieces =>
      core_next hd hon (darnSend_of_pieces hmirrors hnow hpieces)

end Sys2Proof.Proofs
end

section
/-! The gates of a backbone port and the end of its frame in progress (R239). -/

namespace Sys2Proof.Proofs

open Sys2Proof Sys2Proof.Machine Sys2Proof.Laws Sys2Proof.Safety

section Gates

variable {d : Dev} {p entry : Nat} {g : Gate} (hgate : (d.gates p d.leg).find? (fun g => g.entry = entry) = some g)
include hgate

/-- A window without class 7 opens on a running port with no leftover frames, between its shifted phases. -/
theorem gateOpen_of_inWindow (hclosed : (d.port p).opened.contains entry = false) (hleft : (d.port p).hasLeft = false)
    (hruns : d.portRuns p = true) (hfrom : g.openAt * 2 ^ 16 + d.psTo16 ((d.port p).shiftAt d.ps) ≤ d.legPhase16)
    (hto : d.legPhase16 ≤ g.close * 2 ^ 16 + d.psTo16 ((d.port p).shiftAt d.ps)) (hseven : bit g.cmask 7 = false) :
    d.gateOpen p entry =
      (d.setPort p { d.port p with opened := (d.port p).opened ++ [entry] }).portStart p := by
  simp only [Dev.gateOpen, hgate, hclosed, hleft, hruns, hseven, Nat.not_lt.mpr hfrom, Nat.not_lt.mpr hto, Bool.not_true,
    Bool.false_eq_true, or_self, false_and, if_false]

/-- A window closes once its shifted close is reached. -/
theorem gateClose_of_reached (hreached : g.close * 2 ^ 16 + d.psTo16 ((d.port p).shiftAt d.ps) ≤ d.legPhase16) :
    d.gateClose p entry =
      (d.setPort p { d.port p with opened := (d.port p).opened.filter (· ≠ entry) }).portStart p := by
  simp only [Dev.gateClose, hgate, Nat.not_lt.mpr hreached, if_false]

end Gates

/-- A planned frame whose last byte has left frees the transmitter, which looks for the next frame. -/
theorem portFrameEnd_of_plan {d : Dev} {p leg n : Nat} {f : PlanFrame} {left : Bool}
    (htx : (d.port p).tx = .plan f leg left n) (hended : n ≤ d.ps) :
    d.portFrameEnd p = (d.setPort p { d.port p with tx := .idle }).portStart p := by
  simp only [Dev.portFrameEnd, htx, hended, if_true]

/-- An unscheduled frame whose last byte has left frees the transmitter, which looks for the next frame. -/
theorem portFrameEnd_of_other {d : Dev} {p n : Nat} {u : Unsched} (htx : (d.port p).tx = .other u n) (hended : n ≤ d.ps) :
    d.portFrameEnd p = (d.setPort p { d.port p with tx := .idle }).portStart p := by
  simp only [Dev.portFrameEnd, htx, hended, if_true]

/-- Settles O31, from what the opening and the closing of a gate and the end of either kind of frame do to the port. -/
theorem gateWindows : Obligations.GateWindows := by
  unfold Obligations.GateWindows
  refine ⟨?_, ?_, ?_, ?_⟩
  · exact fun s d t p entry g hd hon hgate hclosed hleft hruns hfrom hto hseven =>
      core_next hd hon (gateOpen_of_inWindow hgate hclosed hleft hruns hfrom hto hseven)
  · exact fun s d t p entry g hd hon hgate hreached => core_next hd hon (gateClose_of_reached hgate hreached)
  · exact fun s d t p f leg left n hd hon htx hended => core_next hd hon (portFrameEnd_of_plan htx hended)
  · exact fun s d t p u n hd hon htx hended => core_next hd hon (portFrameEnd_of_other htx hended)

end Sys2Proof.Proofs
end

section
/-! What a backbone port receives, the coming and going of its link, its departure stamps, and the whistles that wake the
unit (R233, R234, R242, R246). -/

namespace Sys2Proof.Proofs

open Sys2Proof Sys2Proof.Machine Sys2Proof.Laws Sys2Proof.Safety

/-- A frame of whole length with a fitting check sequence, within the port's limit, reaches orders 5 to 8 of R234. -/
theorem portFrame_of_whole {d : Dev} {o : Otp} {a : Arrival} {x : Outside} (hlong : 64 ≤ a.frame.length)
    (hfcs : fcsFits a.frame = true) (hmost : a.frame.length ≤ d.get (0x3200 + a.port) 3) :
    d.portFrame o a false x = d.frameArrives o a x := by
  simp only [Dev.portFrame, Nat.not_lt.mpr hlong, hfcs, Nat.not_lt.mpr hmost, Bool.not_true, Bool.false_eq_true, if_false]

/-- A frame shorter than 64 bytes is a runt, whatever else is wrong with it. -/
theorem portFrame_of_runt {d : Dev} {o : Otp} {a : Arrival} {codeError : Bool} {x : Outside} (hrunt : a.frame.length < 64) :
    d.portFrame o a codeError x = d.macDiscard a.port 0x20 1 :=
  if_pos hrunt

/-- A backbone port that hears takes a frame from its pins, stamped at its SFD. -/
theorem frameReceived_of_hears {d : Dev} {o : Otp} {p sfd : Nat} {bytes : List Byte} {codeError : Bool} {x : Outside}
    (hport : p < 4) (hhears : d.portHears p = true) :
    d.frameReceived o p bytes sfd codeError x = d.portFrame o
      { port := p, frame := bytes, stamp := d.stampAt sfd, tick := tickOf sfd, quality := d.qualityAt sfd } codeError x :=
  (if_pos hport).trans (if_pos hhears)

/-- The link of a used port comes up in SERVICE and in CONFIG, and 0xA400 ends with the last port that had lost its link. -/
theorem linkRises_of_used {d : Dev} {p : Nat} (status : Nat) (hport : p < 4) (hst : d.pw.st = .service ∨ d.pw.st = .config)
    (hused : d.portUsed p = true) :
    d.linkRises p status = (d.setPort p { d.port p with
      linkUp := true, link := d.linkBits p status, fell := false }).linkAlertEnds := by
  have hup : d.linkRises p status = d.linkChange p true status := by
    rcases hst with hst | hst <;> simp [Dev.linkRises, Nat.ne_of_lt hport, hst, hused]
  rw [hup]
  simp only [Dev.linkChange, Nat.not_le.mpr hport, if_false, if_true]

/-- The link of an enabled rope port comes up while the dictionary is reachable. -/
theorem linkRises_rope {d e : Dev} {status : Nat} (hon : d.on = true) (henabled : d.get 0x3210 1 ≠ 0)
    (he : e = d.setPort 4 { d.port 4 with link := d.linkBits 4 status }) :
    d.linkRises 4 status = { e with team := { d.team with ropeLink := true } } := by
  rw [he, Dev.linkRises, if_pos rfl, if_pos ⟨henabled, .inl hon⟩]

/-- A used port with no loop that loses its link tells so with 0xA400. -/
theorem linkFalls_of_up {d : Dev} {p : Nat} (hport : p < 4) (hup : (d.port p).linkUp = true) (hused : d.portUsed p = true)
    (hloop : d.portLooped p = false) (hon : d.on = true) :
    d.linkFalls p =
      (d.setPort p { d.port p with linkUp := false, link := 0, fell := true }).raise 0xA400 2 p := by
  simp only [Dev.linkFalls, Nat.ne_of_lt hport, Dev.linkChange, Nat.not_le.mpr hport, hup, hused, hloop, hon, Bool.not_false,
    Bool.and_self, Bool.or_true, Bool.false_eq_true, if_false, if_true]

/-- The row of the dictionary with Stamp pop of every backbone port: written only, neither kept nor mirrored (R242). -/
def stampPopRow : OdRow := ⟨0x3200, 0x3203, 0xB, 0xB, .u8, .wo, 0x0, .V⟩

/-- Stamp pop of each port is found in that row. -/
theorem dictFind_stampPop (p : Fin 4) : dictFind (0x3200 + p.val) 0xB = some stampPopRow := by
  revert p; decide

/-- Stamp pop has no reserved bit. -/
theorem keptMask_stampPop (p : Fin 4) (v : Nat) : keptMask (0x3200 + p.val) 0xB v = v := by
  simp (disch := omega) only [keptMask, if_neg]

/-- A write of Stamp pop is no write of a unit entry, and among the line entries it is that of a backbone port. -/
theorem writeEffect_stampPop (d : Dev) (o : Otp) (tr : Transport) (p : Fin 4) (v : Nat) (x : Outside) :
    d.writeEffect o tr (0x3200 + p.val) 0xB v x = d.stampPop p.val := by
  have htable : Tbl.ofIndex (0x3200 + p.val) = none := by revert p; decide
  have hunit : d.unitWrite o tr (0x3200 + p.val) 0xB v x = none := by
    simp (disch := omega) only [Dev.unitWrite, if_neg]
  have hline : d.lineWrite (0x3200 + p.val) 0xB v x = some (d.stampPop p.val) := by
    have hindex : 0x3200 ≤ 0x3200 + p.val ∧ 0x3200 + p.val ≤ 0x3203 := by omega
    simp (disch := omega) only [Dev.lineWrite, if_neg, hindex, and_self, if_true, Nat.add_sub_cancel_left]
  simp only [Dev.writeEffect, htable, hunit, hline]

/-- A write of Stamp pop pops the port's queue and does nothing more. -/
theorem writeEntry_stampPop (d : Dev) (o : Otp) (tr : Transport) (p : Fin 4) (v : Nat) (x : Outside) :
    d.writeEntry o tr stampPopRow (0x3200 + p.val) 0xB v x = d.stampPop p.val := by
  simp (disch := omega) only [Dev.writeEntry, stampPopRow, keptMask_stampPop, writeEffect_stampPop, reduceCtorEq, if_neg,
    if_false]

/-- A pop moves the head of the queue of departure stamps to the entries that show it. -/
theorem stampPop_of_cons {d : Dev} {p : Nat} {r : StampRec} {rs : List StampRec} (hstamps : (d.port p).stamps = r :: rs) :
    d.stampPop p = d.setPort p { d.port p with
      stamps := rs, popped := (r.stamp, 2 ^ 31 + b2n r.gap * 2 ^ 30 + r.lost * 2 ^ 16 + r.queue, r.number) } := by
  simp only [Dev.stampPop, hstamps]

/-- A sound frame after arming, at a whistle port with a mode, wakes a unit in BIVOUAC with the first pattern it fits. -/
theorem whistle_of_fitting {d : Dev} {p sfd i : Nat} {bytes : List Byte} (hst : d.pw.st = .bivouac)
    (harmed : d.pw.armed = true) (hport : p < 2) (hmode : d.portMode p ≠ 0) (hafter : d.pw.armedAt < sfd)
    (hlong : 64 ≤ bytes.length) (hfcs : fcsFits bytes = true)
    (hfits : (List.range 8).find? (fun i => bit (d.get (0x3200 + p) 0x10) i &&
      whistleFits (d.storedDomain (0x3200 + p) (0x11 + i)) bytes) = some i) :
    d.whistle p bytes sfd false = d.wakeEvent 2 0xA404 (i * 16 + p) := by
  refine (if_pos ⟨hst, harmed, hport, hmode, hafter, hlong, rfl, hfcs⟩).trans ?_
  simp only [hfits]

/-- Settles O33, from the checks of a received frame, the moves of a link, the pop of a stamp and the whistle. -/
theorem portReceptionAndLinks : Obligations.PortReceptionAndLinks := by
  unfold Obligations.PortReceptionAndLinks
  refine ⟨?_, ?_, ?_, ?_, ?_, ?_, ?_⟩
  · rintro s d t bytes sfd codeError x q a hd hon hport hhears hlong rfl hfcs hmost rfl
    exact core_next hd hon ((frameReceived_of_hears hport hhears).trans (portFrame_of_whole hlong hfcs hmost))
  · exact fun s d t bytes sfd codeError x q hd hon hport hhears hrunt =>
      core_next hd hon ((frameReceived_of_hears hport hhears).trans (portFrame_of_runt hrunt))
  · exact fun s d t status q hd hport hst hused => run_next hd (linkRises_of_used status hport hst hused)
  · exact fun s d t status e hd hon henabled he => run_next hd (linkRises_rope hon henabled he)
  · exact fun s d t q hd hport hup hused hloop hon => run_next hd (linkFalls_of_up hport hup hused hloop hon)
  · exact fun s d t tr p r rs hd ha hstamps =>
      core_writeOd hd ha.1 ha.2 (dictFind_stampPop p) ((writeEntry_stampPop ..).trans (stampPop_of_cons hstamps))
  · rintro s d t p bytes sfd codeError i hd hst harmed hmode hafter hlong rfl hfcs hfits
    exact run_next hd (whistle_of_fitting hst harmed p.isLt hmode hafter hlong hfcs hfits)

end Sys2Proof.Proofs
end

section
/-! The OD-access datagrams: what each served request answers, and the end of an idle transfer (R261, R262). -/

namespace Sys2Proof.Proofs

open Sys2Proof Sys2Proof.Machine Sys2Proof.Laws Sys2Proof.Safety

section Requests

variable {d : Dev} {q : OdRequest} {peer : Nat}

/-- The core is on wherever a request is served. -/
theorem coreOn_of_served (hserved : Served d q peer) : d.coreOn = true := coreOn_of_on hserved.1

/-- A served request of a known type, with the right and the transport enabled, answers what its execution gives. -/
theorem core_odRequest {s : State} {t : Nat} {ty : OdOp} {x : Outside} {a : OdAnswer} (hd : d = s.at t)
    (hserved : Served d q peer) (hty : ∀ c, ty ≠ .other c) (hright : bit (d.get 0x1C02 (peer + 1)) (b2n ty.writes) = true)
    (henabled : d.enabled .od ty.writes = true) (ha : d.odExecute s.otp peer ty q x = a) :
    s.core t (fun d => d.odRequest s.otp ty q x) = .next (s.finish (Dev.odAnswer a peer ty q)) :=
  core_next hd (coreOn_of_served hserved)
    ((odRequest_served hserved hty hright henabled).trans (congrArg (Dev.odAnswer · peer ty q) ha))

/-- A read that passes its checks, of the length of the entry's type, answers the entry's value. -/
theorem odRead_of_readable {r : OdRow} {e : Dev} {v : Nat} (hcheck : d.readCheck .od q.idx q.sub = none)
    (hrow : dictFind q.idx q.sub = some r) (hdomain : r.ty ≠ .domain) (hlength : q.len = r.ty.size)
    (hread : d.readEntry .od q.idx q.sub = (e, v)) : d.odRead q = ⟨e, 0, le r.ty.size v, none⟩ := by
  have hfits : ¬ (r.ty = .domain ∨ q.len ≠ r.ty.size) := by simp [hdomain, hlength]
  simp only [Dev.odRead, hcheck, hrow, if_neg hfits, hread]

/-- A write that is accepted, and for which no acknowledgement of the standby is awaited, answers status 0. -/
theorem odWrite_of_accepted {o : Otp} {x : Outside} {e : Dev}
    (hwrite : d.writeAccess o .od q.idx q.sub (slotAddress q.idx q.sub) (some q.len) (ofLe (q.data.take q.len)) x =
      ⟨e, none, none⟩) : d.odWrite o q x = ⟨e, 0, [], none⟩ := by
  simp only [Dev.odWrite, hwrite, Option.map_none, Option.getD_none]

/-- A domain read that passes its checks answers the bytes at the offset, and its time is kept as the transfer's last. -/
theorem odDomainRead_of_checked {e : Dev} {bs : List Byte} (hcheck : d.odDomainCheck peer q false 0 = none)
    (hread : d.domainRead .od q.idx q.sub q.offset (min 1024 q.len) = (e, bs)) :
    d.odDomainRead peer q = ⟨e.setPortal .od { e.dom.get .od with last := e.now }, 0, bs, none⟩ := by
  simp only [Dev.odDomainRead, hcheck, hread]

/-- A domain write that passes its checks joins the open transfer of its target, or opens it. -/
theorem odDomainWrite_of_checked {e : Dev} {bs : List Byte} {y : DomainPort} (hbytes : bs = (q.data.take q.len).take 1024)
    (hcheck : d.odDomainCheck peer q true (q.offset + bs.length) = none) (he : e = d.odTarget peer q)
    (hy : y = e.dom.get .od) :
    d.odDomainWrite peer q = ⟨e.setPortal .od { y with
      written := (q.offset, bs) :: y.written, len := max y.len (q.offset + bs.length),
      offset := q.offset + bs.length, status := 1, last := e.now }, 0, [], none⟩ := by
  subst hbytes he hy
  simp only [Dev.odDomainWrite, hcheck]

/-- A commit of the open transfer of its entry that the entry takes answers status 0. -/
theorem odDomainCommit_of_taken (hcheck : d.odDomainCheck peer q true (d.dom.get .od).len = none)
    (hopen : (d.dom.get .od).status = 1) (htarget : (d.dom.get .od).target = q.idx % 65536 * 256 + q.sub % 256)
    (htaken : ((d.domCommit .od).dom.get .od).status = 2) :
    d.odDomainCommit peer q = ⟨d.domCommit .od, 0, [], none⟩ := by
  have hours : ¬ ((d.dom.get .od).status ≠ 1 ∨ (d.dom.get .od).target ≠ q.idx % 65536 * 256 + q.sub % 256) := by
    simp [hopen, htarget]
  simp only [Dev.odDomainCommit, hcheck, if_neg hours, htaken, if_true]

/-- An abort that passes its checks drops what the transfer wrote. -/
theorem odDomainAbort_of_checked (hcheck : d.odDomainCheck peer q true 0 = none) :
    d.odDomainAbort peer q = ⟨d.domDiscard .od, 0, [], none⟩ := by
  simp only [Dev.odDomainAbort, hcheck]

/-- A served request of an unknown type, with some right and the transport enabled for reads or writes, answers the abort
of an unknown command; which right it needs is the model's choice (log entry 19). -/
theorem odRequest_of_unknown {o : Otp} {x : Outside} {c : Nat} (hserved : Served d q peer)
    (hright : bit (d.get 0x1C02 (peer + 1)) 0 = true ∨ bit (d.get 0x1C02 (peer + 1)) 1 = true)
    (henabled : d.enabled .od false = true ∨ d.enabled .od true = true) :
    d.odRequest o (.other c) q x = Dev.odAnswer ⟨d, Abort.command.code, [], none⟩ peer (.other c) q := by
  obtain ⟨hon, hruns, hlink, hnode, hpeer, hnew⟩ := hserved
  have hheard : ¬ ((!d.on) = true ∨ (!d.portRuns q.port) = true ∨ (!d.linkUp q.port) = true ∨ q.node ≠ d.node) := by
    simp [hon, hruns, hlink, hnode]
  simp only [Dev.odRequest, if_neg hheard, hpeer, hnew, Bool.or_eq_true_iff.mpr hright, Bool.or_eq_true_iff.mpr henabled,
    Bool.and_self, if_true, Dev.odExecute]

/-- A type byte above 6 is one of no request. -/
theorem odUnknown_of_above {type : Nat} (o : Otp) (habove : 6 < type) :
    d.odUnknown o type q = d.odRequest o (.other type) q .quiet :=
  if_neg fun h => Nat.not_le.mpr habove h.2

/-- A transfer without a request for more than 1,000 ms is dropped, and its last write request is answered (the model's choice,
log entry 19). -/
theorem odTimeout_of_idle {e : Dev} (hstatus : (d.dom.get .od).status = 1)
    (hlate : (d.dom.get .od).last + 1000 * msCycles < d.now) (hopen : d.odOpen = some (peer, q))
    (he : e = { d.domDiscard .od with odOpen := none }) :
    d.odTimeout = e.odReply q (odReplyBody q .domainWrite Abort.timeout.code []) := by
  have hidle : d.domIdle .od = true := by simp only [Dev.domIdle, hstatus, hlate, decide_true, Bool.and_self]
  simp only [Dev.odTimeout, hidle, if_true, hopen, he]

end Requests

/-- Settles O44, from what each served request answers and the end of an idle transfer. -/
theorem odAccessRequests : Obligations.OdAccessRequests := by
  unfold Obligations.OdAccessRequests
  refine ⟨?_, ?_, ?_, ?_, ?_, ?_, ?_, ?_⟩
  · exact fun s d t q peer r e v hd hserved hright henabled hcheck hrow hdomain hlength hread =>
      core_odRequest hd hserved nofun hright henabled (odRead_of_readable hcheck hrow hdomain hlength hread)
  · exact fun s d t q x peer e hd hserved hright henabled hwrite =>
      core_odRequest hd hserved nofun hright henabled (odWrite_of_accepted hwrite)
  · exact fun s d t q peer e bs hd hserved hright henabled hcheck hread =>
      core_odRequest hd hserved nofun hright henabled (odDomainRead_of_checked hcheck hread)
  · exact fun s d t q peer e bs y hd hserved hright henabled hbytes hcheck he hy =>
      core_odRequest hd hserved nofun hright henabled (odDomainWrite_of_checked hbytes hcheck he hy)
  · exact fun s d t q peer hd hserved hright henabled hcheck hopen htarget htaken =>
      core_odRequest hd hserved nofun hright henabled (odDomainCommit_of_taken hcheck hopen htarget htaken)
  · exact fun s d t q peer hd hserved hright henabled hcheck =>
      core_odRequest hd hserved nofun hright henabled (odDomainAbort_of_checked hcheck)
  · exact fun s d t q type peer hd hserved habove hright henabled =>
      core_next hd (coreOn_of_served hserved)
        ((odUnknown_of_above s.otp habove).trans (odRequest_of_unknown hserved hright henabled))
  · exact fun s d t peer q e hd hcore hstatus hlate hopen he =>
      core_next hd hcore (odTimeout_of_idle hstatus hlate hopen he)

end Sys2Proof.Proofs
end

section
/-! How commands run: every command completes, and the queue, the fuses and a block with its core off follow from the form of
its meaning (R338, R371, R373; log entries 2 and 3). -/

namespace Sys2Proof.Proofs

open Sys2Proof Sys2Proof.Machine Sys2Proof.Laws Sys2Proof.Safety

/-- Every command but TRANSITION_COMPLETE runs as an effect on the block at the command's instant. -/
theorem exec_eq_run (c : Instr) (s : State) (hc : ∀ t f x e, c ≠ .transitionComplete t f x e) :
    ∃ t f, exec c s = s.run t f := by
  cases c with
  | transitionComplete t f x e => exact absurd rfl (hc t f x e)
  | _ => exact ⟨_, _, rfl⟩

/-- A command that does not reach the keep-alive domain, the supplies, the pins or the scan port is one of the core. -/
theorem exec_eq_core (c : Instr) (s : State) (hc : reachesOff c = false) : ∃ t f, exec c s = s.core t f := by
  cases c <;> cases hc <;> exact ⟨_, _, rfl⟩

/-- TRANSITION_COMPLETE keeps the fuses, or ends a transition in them. -/
theorem exec_transitionComplete (t : Nat) (failed : Bool) (salt : Nat) (e : BootEnv) (s : State) :
    ∃ u, exec (.transitionComplete t failed salt e) s = .next u ∧ u.pending = s.pending ∧
      (u.otp = s.otp ∨ ∃ x, u.otp = s.otp.transition x failed salt) := by
  change ∃ u, execTransitionComplete t failed salt e s = .next u ∧ _
  cases htransition : s.dev.vault.transition with
  | none =>
    simp only [execTransitionComplete, htransition]
    exact ⟨_, rfl, rfl, .inl rfl⟩
  | some x =>
    by_cases hcore : s.dev.coreOn = true
    · simp only [execTransitionComplete, htransition, hcore, if_true]
      exact ⟨_, rfl, rfl, .inr ⟨x, rfl⟩⟩
    · simp only [execTransitionComplete, htransition, hcore]
      exact ⟨_, rfl, rfl, .inl rfl⟩

/-- What a command can do to the queue and the fuses: it completes with the same commands waiting, and the fuses stay or
end a transition. -/
theorem exec_cases (c : Instr) (s : State) :
    ∃ u, exec c s = .next u ∧ u.pending = s.pending ∧
      (u.otp = s.otp ∨ ∃ x failed salt, u.otp = s.otp.transition x failed salt) := by
  by_cases hc : ∀ t f x e, c ≠ .transitionComplete t f x e
  · obtain ⟨t, f, h⟩ := exec_eq_run c s hc
    exact ⟨s.after t f, h, rfl, .inl rfl⟩
  · simp only [ne_eq, Classical.not_forall, Classical.not_not] at hc
    obtain ⟨t, failed, salt, e, rfl⟩ := hc
    obtain ⟨u, hu, hpending, hotp⟩ := exec_transitionComplete t failed salt e s
    exact ⟨u, hu, hpending, hotp.imp_right fun ⟨x, hx⟩ => ⟨x, failed, salt, hx⟩⟩

/-- What a step can do to the fuses: it keeps them, or ends a transition in them. -/
theorem step_otp {s u : State} (h : step s = .next u) :
    u.otp = s.otp ∨ ∃ x failed salt, u.otp = s.otp.transition x failed salt := by
  unfold step at h
  split at h
  · next => exact .inl (congrArg State.otp (Host.Outcome.next.inj h)).symm
  · next c rest _ =>
    obtain ⟨v, hv, _, hotp⟩ := exec_cases c { s with pending := rest }
    obtain rfl : v = u := Host.Outcome.next.inj (hv.symm.trans h)
    exact hotp

/-- The end of a transition leaves the life cycle, or moves it as R371 permits. -/
theorem lifeFollows_transition (o : Otp) (x : Transition) (failed : Bool) (salt : Nat) :
    LifeFollows o.life (o.transition x failed salt).life := by
  unfold Otp.transition
  split
  · exact .inl rfl
  · split
    · next hpermits => exact .inr hpermits
    · exact .inl rfl

/-- No move leads back to BLANK (R371). -/
theorem ne_blank_of_permits {a b : Life} (h : a.permits b = true) : b ≠ .blank := by
  rintro rfl
  cases a <;> cases h

/-- No move of the life cycle leads to BLANK. -/
theorem ne_blank_of_lifeFollows {a b : Life} (h : LifeFollows a b) (ha : a ≠ .blank) : b ≠ .blank :=
  h.elim (fun heq => heq ▸ ha) ne_blank_of_permits

/-- The end of a transition spends a spare row, gives the new state its three, or keeps them (R373). -/
theorem spare_transition_le {o : Otp} (x : Transition) (failed : Bool) (salt : Nat) (h : o.spare ≤ 3) :
    (o.transition x failed salt).spare ≤ 3 := by
  unfold Otp.transition
  split
  · exact Nat.le_trans (Nat.sub_le _ _) h
  · split
    · exact Nat.le_refl 3
    · exact h

/-- Settles O6, from what a step can do to the fuses. -/
theorem lifeOnlyForward : Obligations.LifeOnlyForward := by
  unfold Obligations.LifeOnlyForward
  intro s u h
  obtain hotp | ⟨x, failed, salt, hotp⟩ := step_otp h
  · exact .inl (congrArg Otp.life hotp).symm
  · exact hotp ▸ lifeFollows_transition s.otp x failed salt

/-- Settles O7, from what a step can do to the fuses, for the life cycle as for the spare rows. -/
theorem fusesStayLegal : Obligations.FusesStayLegal := by
  unfold Obligations.FusesStayLegal
  rintro s u ⟨hlife, hspare⟩ h
  refine ⟨ne_blank_of_lifeFollows (lifeOnlyForward s u h) hlife, ?_⟩
  obtain hotp | ⟨x, failed, salt, hotp⟩ := step_otp h
  · exact hotp ▸ hspare
  · exact hotp ▸ spare_transition_le x failed salt hspare

/-- Settles O4, from the form of each command's meaning. -/
theorem everyCommandCompletes : Obligations.EveryCommandCompletes := by
  unfold Obligations.EveryCommandCompletes
  intro c s
  obtain ⟨u, hu, hpending, _⟩ := exec_cases c s
  refine ⟨u, hu, hpending, fun hc => ?_⟩
  obtain ⟨t, f, h⟩ := exec_eq_run c s hc
  obtain rfl : s.after t f = u := Host.Outcome.next.inj (h.symm.trans hu)
  rfl

/-- Settles O8: a command of the core lets time alone pass with the core off. -/
theorem coreOffFreezes : Obligations.CoreOffFreezes := by
  unfold Obligations.CoreOffFreezes
  intro c s hoff hc
  obtain ⟨t, f, h⟩ := exec_eq_core c s hc
  exact ⟨t, h.trans (core_off hoff)⟩

/-- A step with a command in front is that command on the queue's rest. -/
theorem step_cons (c : Instr) (q : List Instr) (s : State) :
    step { s with pending := c :: q } = exec c { s with pending := q } := rfl

/-- An outcome with another queue behind it. -/
def withQueue (q : List Instr) : Result → Result
  | .next u => .next { u with pending := q }
  | r => r

/-- No command looks at the commands behind it. -/
theorem exec_withQueue (c : Instr) (s : State) (q : List Instr) :
    exec c { s with pending := q } = withQueue q (exec c s) := by
  cases c with
  | transitionComplete t failed salt e =>
    change execTransitionComplete t failed salt e { s with pending := q } =
      withQueue q (execTransitionComplete t failed salt e s)
    simp only [execTransitionComplete]
    split
    · rfl
    · split <;> rfl
  | _ => rfl

/-- Settles O5, by induction on the commands in front: a step runs the first of them and leaves the others, and its outcome
is the same behind any queue. -/
theorem queueIsFirstInFirstOut : Obligations.QueueIsFirstInFirstOut := by
  unfold Obligations.QueueIsFirstInFirstOut
  intro cs q
  induction cs with
  | nil => exact fun s => ⟨{ s with pending := q }, rfl, rfl, rfl⟩
  | cons c cs ih =>
    intro s
    obtain ⟨v, hv, hpending, _⟩ := exec_cases c { s with pending := cs ++ q }
    have hfront : step { s with pending := (c :: cs) ++ q } = .next v := (step_cons c (cs ++ q) s).trans hv
    have halone : exec c { s with pending := q } = .next { v with pending := q } :=
      (exec_withQueue c { s with pending := cs ++ q } q).trans (congrArg (withQueue q) hv)
    have hrest : ({ v with pending := cs ++ q } : State) = v :=
      congrArg (fun p => { v with pending := p }) hpending.symm
    obtain ⟨u, hrun, hq, hall⟩ := ih v
    rw [hrest] at hrun
    refine ⟨u, ?_, hq, ?_⟩
    · simpa only [List.length_cons, Host.Core.run, Host.Check.core_step, hfront] using hrun
    · simpa only [runAll, halone] using hall

/-- Settles O1. -/
theorem stepRunsFront : Obligations.StepRunsFront := fun c s => step_cons c s.pending s

/-- Settles O2. -/
theorem idleAndWords : Obligations.IdleAndWords := by
  unfold Obligations.IdleAndWords
  refine ⟨fun s hempty => ?_, fun s nbits w => ⟨rfl, rfl⟩⟩
  simp only [step, hempty]

/-- Settles O3: an empty dictionary reads the default of every entry. -/
theorem resetState : Obligations.ResetState := by
  unfold Obligations.ResetState
  exact ⟨rfl, rfl, rfl, rfl, rfl, fun _ _ => rfl, rfl, ⟨rfl, rfl, rfl⟩, rfl, rfl, ⟨nofun, Nat.le_refl 3⟩,
    ⟨nofun, rfl, rfl, rfl⟩⟩

end Sys2Proof.Proofs
end

section
/-! The object-dictionary entries of the lines: a write of one that does more than store, in the form in which commands write
it (R24, R39, R209). -/

namespace Sys2Proof.Proofs

open Sys2Proof Sys2Proof.Machine Sys2Proof.Laws Sys2Proof.Safety

section LineWrites

variable {d e : Dev} {o : Otp} {tr : Transport} {idx sub v : Nat} {x : Outside}

/-- From the sleep entries on, no entry is one of the unit. -/
theorem unitWrite_of_line (hidx : 0x2C00 ≤ idx) : d.unitWrite o tr idx sub v x = none := by
  simp (disch := omega) only [Dev.unitWrite, if_neg]

/-- From the sleep entries on there is no access block. -/
theorem ofIndex_of_line (hidx : 0x2C00 ≤ idx) : Tbl.ofIndex idx = none := by
  have habove : ∀ t : Tbl, t.index < 0x2C00 := fun t => by cases t <;> decide
  refine List.find?_eq_none.mpr fun t _ heq => ?_
  have := habove t
  rw [beq_iff_eq.mp heq] at this
  omega

/-- The effect of a write of a line entry is the one that its family gives. -/
theorem writeEffect_of_line (hidx : 0x2C00 ≤ idx) (hline : d.lineWrite idx sub v x = some e) :
    d.writeEffect o tr idx sub v x = e := by
  simp only [Dev.writeEffect, ofIndex_of_line hidx, unitWrite_of_line hidx, hline]

/-- An accepted write of a channel's entry, of which no bit is reserved, has the effect that its family gives; a P entry
then joins the configuration digest (R39) and an M entry of a team sends its delta (R209). -/
theorem writeEntry_of_line {r : OdRow} (hidx : 0x2C00 ≤ idx) (hchannel : idx < 0x3200) (hkept : keptMask idx sub v = v)
    (hline : d.lineWrite idx sub v x = some e) :
    d.writeEntry o tr r idx sub v x =
      if r.keep = .M then (if r.keep = .P then e.pWritten idx sub v else e).mWritten
      else if r.keep = .P then e.pWritten idx sub v else e := by
  simp (disch := omega) only [Dev.writeEntry, hkept, writeEffect_of_line hidx hline, if_neg]

/-- A read of a line entry restarts the release timer of no access block (R32). -/
theorem touch_of_line (hidx : 0x2C00 ≤ idx) : d.touch tr idx = d := by
  simp only [Dev.touch, ofIndex_of_line hidx]

end LineWrites

end Sys2Proof.Proofs
end

section
/-! The serial channels: RTS_N in RAW mode, the registers, reception, transmission and the wake buffer (R271 to R291). -/

namespace Sys2Proof.Proofs

open Sys2Proof Sys2Proof.Machine Sys2Proof.Laws Sys2Proof.Safety

/-! ### What replacing a channel's state keeps -/

@[simp] theorem setSer_get (d : Dev) (n : Nat) (x : SerCh) : (d.setSer n x).get = d.get := rfl
@[simp] theorem setSer_serMode (d : Dev) (n : Nat) (x : SerCh) : (d.setSer n x).serMode = d.serMode := rfl
@[simp] theorem setSer_serFormat (d : Dev) (n : Nat) (x : SerCh) : (d.setSer n x).serFormat = d.serFormat := rfl
@[simp] theorem setSer_serWake (d : Dev) (n : Nat) (x : SerCh) : (d.setSer n x).serWake = d.serWake := rfl
@[simp] theorem setSer_tunnelIn (d : Dev) (n : Nat) (x : SerCh) : (d.setSer n x).tunnelIn = d.tunnelIn := rfl
@[simp] theorem setSer_coreOn (d : Dev) (n : Nat) (x : SerCh) : (d.setSer n x).coreOn = d.coreOn := rfl

/-! ### RTS_N (R280) -/

section Rts

variable {d : Dev} {n : Nat}

/-- In RAW mode with RTS_EN set the pin follows the level that the FIFO gives. -/
theorem serRts_of_raw (hmode : d.serMode n = 2) (hrts : d.serRtsEn n = true) : d.serRts n = (d.serCh n).rts := by
  simp [Dev.serRts, hmode, hrts]

/-- From RTS_HI on RTS_N is released. -/
theorem rtsUpdate_of_high (hhigh : bits (d.serLine n) 31 24 ≤ (d.serCh n).rx.length) :
    d.rtsUpdate n = d.setSer n { d.serCh n with rts := false } := by
  simp only [Dev.rtsUpdate, hhigh, if_true]

/-- Down to RTS_LO, below RTS_HI, RTS_N is asserted. -/
theorem rtsUpdate_of_low (hbelow : (d.serCh n).rx.length < bits (d.serLine n) 31 24)
    (hlow : (d.serCh n).rx.length ≤ bits (d.serLine n) 23 16) :
    d.rtsUpdate n = d.setSer n { d.serCh n with rts := true } := by
  simp only [Dev.rtsUpdate, Nat.not_le.mpr hbelow, hlow, if_false, if_true]

/-- Between the two thresholds RTS_N keeps its level. -/
theorem rtsUpdate_of_between (hbelow : (d.serCh n).rx.length < bits (d.serLine n) 31 24)
    (habove : bits (d.serLine n) 23 16 < (d.serCh n).rx.length) : d.rtsUpdate n = d.setSer n (d.serCh n) := by
  simp only [Dev.rtsUpdate, Nat.not_le.mpr hbelow, Nat.not_le.mpr habove, if_false]

/-- A character that finds room joins the FIFO with the overrun mark, and RTS_N follows. -/
theorem serRaw_of_room {e : Dev} {c c' : RxChar} (hroom : (d.serCh n).rx.length < 64) (hmark : d.serMark n c = (e, c')) :
    d.serRaw n c = (e.setSer n { e.serCh n with rx := (e.serCh n).rx ++ [c'] }).rtsUpdate n := by
  simp only [Dev.serRaw, Nat.not_le.mpr hroom, hmark, if_false]

/-- A read of RX data in RAW mode pops the head of the FIFO, and RTS_N follows; flags that no read of RX status told set
UNREPORTED. -/
theorem rxDataRead_of_cons {e : Dev} {tr : Transport} {c : RxChar} {rest : List RxChar} (hmode : d.serMode n = 2)
    (htunnel : (d.tunnelIn false n 0).isSome = false) (hrx : (d.serCh n).rx = c :: rest)
    (htold : (d.serCh n).statusRead.get tr = true ∨ (c.framing || c.parity || c.brk || c.overrun) = false)
    (he : e = d.setSer n { d.serCh n with statusRead := (d.serCh n).statusRead.set tr false }) :
    d.rxDataRead tr n =
      ((e.setSer n { e.serCh n with rx := rest }).rtsUpdate n,
        2 ^ 15 + 256 * b2n (c.addr && ((e.setSer n { e.serCh n with rx := rest }).rtsUpdate n).nineBit n) + c.data.toNat) := by
  have hreported : (!(d.serCh n).statusRead.get tr && (c.framing || c.parity || c.brk || c.overrun)) = false := by
    rcases htold with h | h <;> simp only [h, Bool.not_true, Bool.false_and, Bool.and_false]
  subst he
  simp only [Dev.rxDataRead, setSer_serMode, setSer_tunnelIn, hmode, htunnel, hrx, hreported, ne_eq, not_true,
    Bool.false_eq_true, or_self, if_false]

end Rts

/-- Settles O17, from the three cases of the rule and the two commands that change COUNT. -/
theorem rtsHysteresis : Obligations.RtsHysteresis := by
  unfold Obligations.RtsHysteresis
  refine ⟨?_, ?_, ?_, ?_⟩
  · exact fun d n hmode hrts => serRts_of_raw hmode hrts
  · rintro d n _ rfl
    exact ⟨rtsUpdate_of_high, rtsUpdate_of_low, rtsUpdate_of_between⟩
  · exact fun d e n c c' hroom hmark => serRaw_of_room hroom hmark
  · exact fun d e tr n c rest hmode htunnel hrx hclean he =>
      congrArg Prod.fst (rxDataRead_of_cons hmode htunnel hrx (.inr hclean) he)

/-! ### Registers (R275, R279, R286) -/

/-- The rows of the dictionary with Baud, RX status, RX data and TX data of every serial channel (R292). -/
def baudRow : OdRow := ⟨0x3000, 0x30BF, 0x2, 0x2, .u32, .rw, 0x12C0, .P⟩
def txDataRow : OdRow := ⟨0x3000, 0x30BF, 0x13, 0x13, .u16, .wo, 0x0, .V⟩

/-- Baud of each channel is found in its row. -/
theorem dictFind_baud (n : Fin 192) : dictFind (0x3000 + n.val) 2 = some baudRow := by
  revert n; decide +kernel

/-- TX data of each channel is found in its row. -/
theorem dictFind_txData (n : Fin 192) : dictFind (0x3000 + n.val) 0x13 = some txDataRow := by
  revert n; decide +kernel

/-- Baud and TX data have no reserved bit. -/
theorem keptMask_serial {sub : Nat} (n : Fin 192) (v : Nat) (hsub : sub = 2 ∨ sub = 0x13) :
    keptMask (0x3000 + n.val) sub v = v := by
  simp (disch := omega) only [keptMask, if_neg]

section Registers

variable {tr : Transport} {d : Dev} (n : Fin 192)

/-- A write of Baud sets the divisor of the channel. -/
theorem lineWrite_baud (v : Nat) (x : Outside) : d.lineWrite (0x3000 + n.val) 2 v x = some (d.baudSet n.val v x.rxBusy) := by
  have hchannel : 0x3000 ≤ 0x3000 + n.val ∧ 0x3000 + n.val ≤ 0x30BF := by omega
  simp (disch := omega) only [Dev.lineWrite, if_neg, hchannel, and_self, if_true, if_false, Nat.add_sub_cancel_left,
    Nat.reduceEqDiff]

/-- A write of TX data gives the channel a character. -/
theorem lineWrite_txData (v : Nat) (x : Outside) : d.lineWrite (0x3000 + n.val) 0x13 v x = some (d.txWrite n.val v x.cts) := by
  have hchannel : 0x3000 ≤ 0x3000 + n.val ∧ 0x3000 + n.val ≤ 0x30BF := by omega
  simp (disch := omega) only [Dev.lineWrite, if_neg, hchannel, and_self, if_true, if_false, Nat.add_sub_cancel_left,
    Nat.reduceEqDiff]

/-- A read of RX status is noted for its initiator. -/
theorem readEntry_rxStatus : d.readEntry tr (0x3000 + n.val) 0x10 = d.rxStatusRead tr n.val := by
  have hchannel : 0x3000 ≤ 0x3000 + n.val ∧ 0x3000 + n.val ≤ 0x30BF := by omega
  simp (disch := omega) only [Dev.readEntry, touch_of_line, if_neg, hchannel, and_self, if_true, Nat.add_sub_cancel_left]

/-- A read of RX data takes a character from the FIFO. -/
theorem readEntry_rxData : d.readEntry tr (0x3000 + n.val) 0x11 = d.rxDataRead tr n.val := by
  have hchannel : 0x3000 ≤ 0x3000 + n.val ∧ 0x3000 + n.val ≤ 0x30BF := by omega
  simp (disch := omega) only [Dev.readEntry, touch_of_line, if_neg, hchannel, and_self, if_true, Nat.add_sub_cancel_left]

/-- A write of TX data in RAW mode that finds room joins the transmit FIFO, and the transmitter looks for a character with
CTS_N as the command tells it. -/
theorem txWrite_of_room {n v : Nat} {cts : Bool} (hmode : d.serMode n = 2) (hroom : (d.serCh n).tx.length < 64) :
    d.txWrite n v (some cts) = ((d.setSer n { d.serCh n with
      tx := (d.serCh n).tx ++ [(BitVec.ofNat 8 v, bit v 8)] }).ctsTold n cts).serNext n := by
  simp only [Dev.txWrite, hmode, Nat.not_le.mpr hroom, ne_eq, not_true, if_false, Dev.ctsFrom]

end Registers

/-- Settles O46, from what each register of a serial channel does when it is read or written. -/
theorem serialRegisters : Obligations.SerialRegisters := by
  unfold Obligations.SerialRegisters
  refine ⟨?_, ?_, ?_, ?_⟩
  · exact fun s d t tr n v rxBusy hd ha => core_writeOd hd ha.1 ha.2 (dictFind_baud n)
      (writeEntry_of_line (by omega) (by omega) (keptMask_serial n _ (.inl rfl)) (lineWrite_baud n _ _))
  · exact fun s d t tr n hd hon hcheck => core_readTaken hd hon hcheck (readEntry_rxStatus n)
  · exact fun s d t tr n ch rest e hd hon hcheck hmode hrx htold he hmode' htunnel => core_readTaken hd hon hcheck
      ((readEntry_rxData n).trans (rxDataRead_of_cons hmode (by rw [he] at htunnel; exact htunnel) hrx (.inl htold) he))
  · exact fun s d t tr n v cts hd ha hmode hroom => core_writeOd hd ha.1 ha.2 (dictFind_txData n)
      ((writeEntry_of_line (by omega) (by omega) (keptMask_serial n _ (.inr rfl)) (lineWrite_txData n _ _)).trans
        (txWrite_of_room hmode hroom))

/-! ### Reception and line stuck (R271, R273, R274, R288) -/

section Reception

variable {d e : Dev} {n edge : Nat} {samples : List Bool}

/-- With no Baud write waiting a decision leaves the receiver's rate. -/
theorem rxRate_of_settled (hpend : (d.serCh n).rxPend = false) : d.rxRate n = d := by
  simp only [Dev.rxRate, hpend, Bool.false_eq_true, if_false]

/-- A receiver that is not blind hears every character. -/
theorem serUnblind_of_sighted (hblind : (d.serCh n).blind = false) : d.serUnblind n edge = (d, true) := by
  simp only [Dev.serUnblind, hblind, Bool.not_false, if_true]

/-- A start bit that is decided high is a false start. -/
theorem serOutcome_of_start {format : Nat} {b : SerBits} (hstart : b.start = true) : serOutcome format b = none := by
  simp only [serOutcome, hstart, if_true]

section Heard

variable (hstuck : (d.serCh n).stuck = false) (hloop1 : d.serLoop n ≠ 1) (hloop2 : d.serLoop n ≠ 2)
  (hruns : (d.serRuns n || d.serKa n) = true)
include hstuck hloop1 hloop2 hruns

/-- The channel's receiver hears its line. -/
theorem hears_of_running :
    ¬ ((d.serCh n).stuck = true ∨ d.serLoop n = 1 ∨ d.serLoop n = 2 ∨ (!(d.serRuns n || d.serKa n)) = true) := by
  simp [hstuck, hloop1, hloop2, hruns]

/-- Samples without a falling edge leave the line's last level alone. -/
theorem serDecided_of_no_edge (hsampled : serSampled (d.serFormat n) (d.serCh n).high samples = none) :
    d.serDecided n samples edge = d.setSer n { d.serCh n with high := samples.getLastD (d.serCh n).high } := by
  simp only [Dev.serDecided, if_neg (hears_of_running hstuck hloop1 hloop2 hruns), hsampled]

/-- The samples from a falling edge on are decided: a false start is counted, and a character is counted and goes to the wake
buffer on the keep-alive clock, to its channel's reception on the PORT clock. -/
theorem serDecided_of_outcome {b : SerBits} {high : Bool} {outcome : Option RxChar}
    (hsampled : serSampled (d.serFormat n) (d.serCh n).high samples = some (b, high))
    (houtcome : serOutcome (d.serFormat n) b = outcome) (he : e = d.setSer n { d.serCh n with high := high })
    (hpend : (e.serCh n).rxPend = false) (hblind : (e.serCh n).blind = false) :
    d.serDecided n samples edge = outcome.elim (e.count (0x3000 + n) 0x25) fun ch =>
      if (d.serCh n).ka then (e.serCount n ch).wakeChar n ch edge else (e.serCount n ch).serDeliver n ch edge := by
  have hformat : e.serFormat n = d.serFormat n := by rw [he]; rfl
  have hheard : ((d.setSer n { d.serCh n with high := high }).rxRate n).serUnblind n edge = (e, true) := by
    rw [← he, rxRate_of_settled hpend, serUnblind_of_sighted hblind]
  simp only [Dev.serDecided, if_neg (hears_of_running hstuck hloop1 hloop2 hruns), hsampled, hheard, hformat, houtcome]
  cases outcome <;> rfl

end Heard

section Stuck

variable (hstuck : (d.serCh n).stuck = false) (hruns : (d.serRuns n || d.serKa n) = true)
  (hlow : edge + d.get (0x3000 + n) 6 * msCycles ≤ d.now)
include hstuck hruns hlow

/-- The line of a running receiver has been low for Stuck time. -/
theorem stuck_of_low :
    ¬ ((d.serCh n).stuck = true ∨ (!(d.serRuns n || d.serKa n)) = true ∨ d.now < edge + d.get (0x3000 + n) 6 * msCycles) := by
  simp [hstuck, hruns, hlow]

/-- On the PORT clock a line that becomes stuck ends the run and the item of its channel. -/
theorem lineStuck_of_port (hka : (d.serCh n).ka = false)
    (he : e = d.setSer n { d.serCh n with
      stuck := true, high := false, wakeBuf := if (d.serCh n).wakeHit.isSome then (d.serCh n).wakeBuf else [] }) :
    d.lineStuck n edge =
      ((((e.closeRun n).endItem n).serSticky n 2).count (0x3000 + n) 0x26).raiseKa 0xA420 2 n := by
  subst he
  simp only [Dev.lineStuck, if_neg (stuck_of_low hstuck hruns hlow), hka, Bool.false_eq_true, if_false]

/-- On the keep-alive clock a line that becomes stuck ends the run, and the wake buffer notes where its item is cut. -/
theorem lineStuck_of_keepAlive {buf : List (RxChar × Nat)} (hka : (d.serCh n).ka = true)
    (hbuf : buf = if (d.serCh n).wakeHit.isSome then (d.serCh n).wakeBuf else [])
    (he : e = d.setSer n { d.serCh n with
      stuck := true, high := false, wakeBuf := buf, wakeCuts := (d.serCh n).wakeCuts ++ [buf.length] }) :
    d.lineStuck n edge = (((e.closeRun n).serSticky n 2).count (0x3000 + n) 0x26).raiseKa 0xA420 2 n := by
  subst he hbuf
  simp only [Dev.lineStuck, if_neg (stuck_of_low hstuck hruns hlow), hka, if_true]

end Stuck

section Free

variable (hstuck : (d.serCh n).stuck = true) (hhigh : edge + d.rxTime n 1 ≤ d.now)
  (he : e = d.setSer n { d.serCh n with stuck := false, high := true })
include hstuck hhigh he

/-- A line that is free again outside BIVOUAC clears the alert with the last stuck one. -/
theorem lineFree_of_awake (hst : d.pw.st ≠ .bivouac) :
    d.lineFree n edge =
      if e.coreOn = true ∧ e.ser.any (fun kv => kv.2.stuck) = false then e.clearAlert 0xA420 else e := by
  have hfree : ¬ ((!(d.serCh n).stuck) = true ∨ d.now < edge + d.rxTime n 1) := by simp [hstuck, hhigh]
  have hawake : ¬ (e.pw.st = .bivouac) := by rw [he]; exact hst
  simp only [Dev.lineFree, if_neg hfree, ← he, hawake, false_and, and_false, if_false]
  cases e.coreOn <;> cases e.ser.any (fun kv => kv.2.stuck) <;> rfl

/-- A watch channel whose line is free again in BIVOUAC is armed, and the alert waits for the core. -/
theorem lineFree_of_watch (hst : d.pw.st = .bivouac) (harmed : d.pw.armed = true) (hn : n < 16)
    (hka : (d.serCh n).ka = false) (hwake : d.serWake n = 2 ∨ d.serWake n = 3) (hmode : d.serMode n ≠ 0) :
    d.lineFree n edge = e.armReceiver n := by
  have hfree : ¬ ((!(d.serCh n).stuck) = true ∨ d.now < edge + d.rxTime n 1) := by simp [hstuck, hhigh]
  have hwatch : n < 16 ∧ e.pw.st = .bivouac ∧ e.pw.armed = true ∧ (!(d.serCh n).ka) = true ∧
      (e.serWake n = 2 ∨ e.serWake n = 3) ∧ e.serMode n ≠ 0 := by
    rw [he]
    exact ⟨hn, hst, harmed, by rw [hka]; rfl, hwake, hmode⟩
  have hoff : (e.armReceiver n).coreOn = false := by
    rw [he]
    simp [Dev.armReceiver, Dev.coreOn, Dev.on, hst]
  simp only [Dev.lineFree, if_neg hfree, ← he, if_pos hwatch, hoff, Bool.not_false, true_or, if_true]

end Free

end Reception

/-- Settles O45, from the decision on a line's samples and from what a line does that becomes stuck or free. -/
theorem serialReception : Obligations.SerialReception := by
  unfold Obligations.SerialReception
  refine ⟨?_, ?_, ?_, ?_, ?_, ?_, ?_, ?_⟩
  · intro s d t n samples edge b high ch e hd hstuck hloop1 hloop2 hruns hka hsampled houtcome he hpend hblind
    refine run_next hd ((serDecided_of_outcome hstuck hloop1 hloop2 (Bool.or_eq_true_iff.mpr (.inl hruns)) hsampled houtcome he
      hpend hblind).trans ?_)
    rw [Option.elim_some, hka, if_neg Bool.false_ne_true]
  · intro s d t n samples edge b high ch e hd hstuck hloop1 hloop2 hruns hka hsampled houtcome he hpend hblind
    refine run_next hd ((serDecided_of_outcome hstuck hloop1 hloop2 (Bool.or_eq_true_iff.mpr (.inr hruns)) hsampled houtcome he
      hpend hblind).trans ?_)
    rw [Option.elim_some, if_pos hka]
  · exact fun s d t n samples edge b high e hd hstuck hloop1 hloop2 hruns hsampled hstart he hpend hblind =>
      run_next hd (serDecided_of_outcome hstuck hloop1 hloop2 (Bool.or_eq_true_iff.mpr hruns) hsampled
        (serOutcome_of_start hstart) he hpend hblind)
  · exact fun s d t n samples edge hd hstuck hloop1 hloop2 hruns hsampled =>
      run_next hd (serDecided_of_no_edge hstuck hloop1 hloop2 (Bool.or_eq_true_iff.mpr hruns) hsampled)
  · exact fun s d t n edge e hd hstuck hruns hka hlow he =>
      run_next hd (lineStuck_of_port hstuck (Bool.or_eq_true_iff.mpr (.inl hruns)) hlow hka he)
  · exact fun s d t n edge buf e hd hstuck hruns hka hlow hbuf he =>
      run_next hd (lineStuck_of_keepAlive hstuck (Bool.or_eq_true_iff.mpr (.inr hruns)) hlow hka hbuf he)
  · exact fun s d t n edge e hd hstuck hhigh hst he => run_next hd (lineFree_of_awake hstuck hhigh he hst)
  · exact fun s d t n edge e hd hstuck hhigh hst harmed hn hka hwake hmode he =>
      run_next hd (lineFree_of_watch hstuck hhigh he hst harmed hn hka hwake hmode)

/-! ### Transmission (R281 to R285, R334) -/

section Transmission

variable {d : Dev} {n : Nat}

/-- The end of a RAW character outside every loop is counted by a transmitter that is no shadow, driven, and followed by the
next character. -/
theorem serSent_of_raw {e g : Dev} {cts : Bool} {ch : Byte × Bool} (hshift : (d.serCh n).shift = some ch)
    (hraw : (d.serCh n).shiftRaw = true)
    (he : e = (d.setSer n { d.serCh n with shift := none, txEnd := d.now, quiet := d.now }).ctsTold n cts)
    (hlive : e.serLive n = true) (hg : g = e.count (0x3000 + n) 0x28) (hdrives : g.serDrives n = true)
    (hloop : (g.emit (.serial n ch.1 ch.2)).serLoop n = 0) :
    d.serSent n cts = (g.emit (.serial n ch.1 ch.2)).serNext n := by
  have hquiet : ¬ ((g.emit (.serial n ch.1 ch.2)).serLoop n = 1 ∨ (g.emit (.serial n ch.1 ch.2)).serLoop n = 2) := by
    simp [hloop]
  simp only [Dev.serSent, hshift, ← he, if_pos hlive, ← hg, if_pos hdrives, if_pos hraw, if_neg hquiet]

/-- A collision of a RAW character withdraws it, and is marked, counted and alerted from the fourth of a pitch on. -/
theorem serCollision_of_raw (hshift : (d.serCh n).shift.isSome = true) (hhdx : d.serHdx n = true)
    (hraw : (d.serCh n).shiftRaw = true) :
    d.serCollision n = (((d.setSer n { d.serCh n with
      shift := none, de := false, txEnd := d.now, quiet := d.now, coll := (d.serCh n).coll + 1 }).serSticky n 3).count
        (0x3000 + n) 0x29).raiseFrom 0xA424 1 (decide (4 ≤ (d.serCh n).coll + 1)) (countDetail n) := by
  have hsends : ¬ ((d.serCh n).shift.isNone = true ∨ (!d.serHdx n) = true) := by simp [Option.isSome_iff_ne_none.mp hshift, hhdx]
  simp only [Dev.serCollision, if_neg hsends, if_pos hraw]

/-- A retry whose wait is over starts its item again. -/
theorem retryTimer_of_due {cts : Bool} {w : Nat} (hwait : (d.serCh n).waitUntil = some w) (hdue : w ≤ d.now) :
    d.retryTimer n cts = ((d.setSer n { d.serCh n with waitUntil := none }).ctsTold n cts).serNext n := by
  simp only [Dev.retryTimer, hwait, if_pos hdue]

/-- A tunnel's run ends once its idle gap has passed. -/
theorem tunnelIdle_of_gap {k st q w : Nat} {row : List Word32} {bs : List Byte} (htunnel : d.tunnelIn false n 0 = some (k, row))
    (hrun : (d.serCh n).run = some (st, q, bs, w)) (hgap : w + d.rxTime n (fieldOf row 1 15 8) < d.now) :
    d.tunnelIdle n = (d.setSer n { d.serCh n with run := none }).cutRun n k 0 st q bs := by
  simp only [Dev.tunnelIdle, htunnel, hrun, if_pos hgap, Dev.closeRun]

/-- Driver enable falls one bit time after the last stop bit. -/
theorem deRelease_of_bitTime (hde : (d.serCh n).de = true) (hshift : (d.serCh n).shift = none)
    (htime : (d.serCh n).txEnd + ceilDiv (d.serCh n).txDiv 4 ≤ d.now) :
    d.deRelease n = d.setSer n { d.serCh n with de := false } :=
  if_pos ⟨hde, Option.isNone_iff_eq_none.mpr hshift, htime⟩

end Transmission

/-- Settles O47, from what the end, the collision and the timers of a transmission do. -/
theorem serialTransmission : Obligations.SerialTransmission := by
  unfold Obligations.SerialTransmission
  refine ⟨?_, ?_, ?_, ?_, ?_, ?_⟩
  · exact fun s d t n cts ch e g hd hon hshift hraw _ he hlive hg hdrives hloop =>
      core_next hd hon (serSent_of_raw hshift hraw he hlive hg hdrives hloop)
  · exact fun s d t n hd hon hshift hhdx hraw => core_next hd hon (serCollision_of_raw hshift hhdx hraw)
  · exact fun s d t n cts w hd hon hwait hdue => core_next hd hon (retryTimer_of_due hwait hdue)
  · exact fun s d t n k st q w row bs hd hon htunnel hrun hgap => core_next hd hon (tunnelIdle_of_gap htunnel hrun hgap)
  · exact fun s d t n hd hon => core_next hd hon rfl
  · exact fun s d t n hd hon hde hshift htime => core_next hd hon (deRelease_of_bitTime hde hshift htime)

/-! ### Wake and the wake buffer (R288 to R290, R346) -/

/-- The first wake event of BIVOUAC after the entry sets the wake cause and the stamp, and its alert waits. -/
theorem wakeEvent_of_first {d e : Dev} {source code detail : Nat} (hst : d.pw.st = .bivouac) (harmed : d.pw.armed = true)
    (hout : d.pw.wakeOut = false) (hentered : d.pw.entryDone ≤ d.now)
    (he : e = (d.put 0x2001 6 (2 ^ 31 + source * 2 ^ 28 + detail % 2 ^ 16)).put 0x2001 7 d.stamp) :
    d.wakeEvent source code detail = { e with pw := { e.pw with wakeOut := true, wakeAlert := some (code, detail) } } := by
  have hwakes : ¬ (d.pw.st ≠ .bivouac ∨ (!d.pw.armed) = true) := by simp [hst, harmed]
  have hafter : ¬ (d.now < d.pw.entryDone ∧ d.pw.wakeDuring.isNone = true) := fun h => Nat.not_lt.mpr hentered h.1
  simp only [Dev.wakeEvent, if_neg hwakes, if_neg hafter, hout, Bool.false_eq_true, if_false, he]

section Wake

variable {d : Dev} {n : Nat}

/-- A start edge wakes a channel with Wake 1 whose line is not stuck. -/
theorem serEdgeWake_of_wake1 (hn : n < 192) (hwake : d.serWake n = 1) (hmode : d.serMode n ≠ 0)
    (hstuck : (d.serCh n).stuck = false) : d.serEdgeWake n = d.wakeEvent 0 0xA422 (0xFF * 256 + n) :=
  if_pos ⟨hn, hwake, hmode, by rw [hstuck]; rfl⟩

/-- A match of the channel's Wake is given as a wake event once. -/
theorem serMatchWake_of_hit {wake r : Nat} (hst : d.pw.st = .bivouac) (hhit : (d.serCh n).wakeHit = some r)
    (hka : (d.serCh n).ka = true) (htold : (d.serCh n).wakeTold = false) (hwake : d.serWake n = wake) :
    d.serMatchWake n wake = (d.setSer n { d.serCh n with wakeTold := true }).wakeEvent 0 0xA422 (r * 256 + n) := by
  have htells : (d.serCh n).ka = true ∧ (!(d.serCh n).wakeTold) = true ∧ d.serWake n = wake ∧ d.pw.st = .bivouac :=
    ⟨hka, by rw [htold]; rfl, hwake, hst⟩
  simp only [Dev.serMatchWake, hhit, if_pos htells]

end Wake

/-- Settles O60, from the wake event of an edge, of a match, and the buffer's handover. -/
theorem serialWake : Obligations.SerialWake := by
  unfold Obligations.SerialWake
  refine ⟨?_, ?_, ?_, ?_⟩
  · intro s d t n e hd hst harmed hwake hmode hstuck hout hentered he
    exact run_next hd ((serEdgeWake_of_wake1 n.isLt hwake hmode hstuck).trans
      (wakeEvent_of_first hst harmed hout hentered (by simpa only [Nat.zero_mul, Nat.add_zero] using he)))
  · exact fun s d t n r hd hst hhit hka htold hwake => run_next hd (serMatchWake_of_hit hst hhit hka htold hwake)
  · exact fun s d t n r hd hst hhit hka htold hwake => run_next hd (serMatchWake_of_hit hst hhit hka htold hwake)
  · rintro s d t n x e g feed hd hst rfl hka rfl rfl rfl
    have hhands : ¬ ((!(d.serCh n.val).ka) = true ∨ d.pw.st ≠ .service) := by simp [hka, hst]
    exact core_next hd (coreOn_of_service (by rw [Dev.inService, hst]; rfl)) (if_neg hhands)

end Sys2Proof.Proofs
end

section
/-! The CAN channels: frames, errors, bus-off and stuck lines, and the sleep of an edge network (R294 to R312). -/

namespace Sys2Proof.Proofs

open Sys2Proof Sys2Proof.Machine Sys2Proof.Laws Sys2Proof.Safety

/-! ### Frames (R297, R301) -/

section Frames

variable {d e : Dev} {n : Nat} {f : CanFrame}

/-- An FD frame in CLASSIC is a protocol exception (R297). -/
theorem canReceive_of_exception {sof : Nat} (hbus : d.canOnBus n = true) (hfdf : f.fdf = true) (hmode : d.canMode n = 2) :
    d.canReceive n f sof = ((d.count (0x3100 + n) 0x28).sticky (0x3100 + n) 7 2).canException n := by
  simp only [Dev.canReceive, hbus, hfdf, hmode, and_self, Bool.not_true, Bool.false_eq_true, if_false, if_true]

/-- Every other frame is counted, and goes on as data where the SDO server does not take it. -/
theorem canReceive_of_good {sof : Nat} (hbus : d.canOnBus n = true) (hgood : f.fdf = true → d.canMode n ≠ 2)
    (he : e = ((d.count (0x3100 + n) 0x20).canRxGood n).canShadow n f) :
    d.canReceive n f sof = if e.isSdo n f then e else e.canData n f sof := by
  have hfits : ¬ (f.fdf = true ∧ d.canMode n = 2) := not_and.mpr hgood
  simp only [Dev.canReceive, hbus, if_neg hfits, ← he, Bool.not_true, Bool.false_eq_true, if_false]

/-- A frame that is none of the SDO channel, or no frame that the controller takes, is only heard. -/
theorem canFrameTaken_of_not_sdo {o : Otp} {sof : Nat} {x : Outside} (hloop : d.canLoop n ≠ 1)
    (hno : d.isSdo n f = false ∨ (f.fdf = true ∧ d.canMode n = 2)) :
    d.canFrameTaken o n f sof x = d.canReceive n f sof := by
  rcases hno with h | ⟨hfdf, hmode⟩
  · simp [Dev.canFrameTaken, Dev.canHeard, h, hloop]
  · simp [Dev.canFrameTaken, Dev.canHeard, hfdf, hmode, hloop]

/-- A frame with the server's COB-ID on the SDO channel is heard, and the SDO server acts on it. -/
theorem canFrameTaken_of_sdo {o : Otp} {sof : Nat} {x : Outside} (hbus : d.canOnBus n = true)
    (hgood : f.fdf = true → d.canMode n ≠ 2) (hsdo : d.isSdo n f = true) (hident : f.ident / 128 = 12)
    (hloop : d.canLoop n ≠ 1) : d.canFrameTaken o n f sof x = (d.canReceive n f sof).sdoTake o f x := by
  have hfits : (f.fdf && decide (d.canMode n = 2)) = false := by
    cases hfdf : f.fdf with
    | false => rfl
    | true => simp [hgood hfdf]
  simp [Dev.canFrameTaken, Dev.canHeard, hbus, hfits, hsdo, hident, hloop]

/-- A frame of the first queue that was sent leaves it, is counted and driven, and the next is looked for. -/
theorem canSent_of_prio {g h : Dev} (htx : (d.canCh n).tx = some (.prio, f))
    (he : e = d.setCan n { d.canCh n with tx := none })
    (hg : g = e.setCan n { e.canCh n with prio := (e.canCh n).prio.drop 1 }) (hidle : g.canIdle n = false)
    (hh : h = ((g.count (0x3100 + n) 0x23).canDrive n f).canTxGood n) (hloop : h.canLoop n = 0) :
    d.canSent n = h.canNext n := by
  have hdequeued : e.canDequeue n .prio = g := hg.symm
  have hquiet : ¬ (h.canLoop n = 1 ∨ h.canLoop n = 2) := by simp [hloop]
  simp only [Dev.canSent, htx, ← he, hdequeued, hidle, Bool.false_eq_true, if_false, ← hh, if_neg hquiet]

end Frames

/-! ### Errors, bus-off and stuck lines (R304, R311) -/

section Faults

variable {d e : Dev} {n : Nat}

/-- An error moves the counters by the error confinement, and a transmit count above 255 is bus-off. -/
theorem canError_of_counts {asTx : Bool} {x : CanFault} {tec rec : Nat} (hbus : d.canOnBus n = true)
    (hsleep : (d.canCh n).sleep ≠ .agreed)
    (hcounts : faultCounts x asTx (d.canCh n).tx.isSome (d.canCh n).txErr (d.canCh n).rxErr = (tec, rec))
    (he : e = if faultIsError x then d.count (0x3100 + n) 0x24 else d) :
    d.canError n asTx x = if 255 < tec then (e.canCounts n tec rec).canBusOff n else e.canCounts n tec rec := by
  simp only [Dev.canError, hbus, beq_false_of_ne hsleep, hcounts, ← he, Bool.not_true, Bool.false_eq_true, if_false]

/-- In selective listen an error is only counted (R311). -/
theorem canError_of_agreed {asTx : Bool} {x : CanFault} (hbus : d.canOnBus n = true) (hsleep : (d.canCh n).sleep = .agreed)
    (herror : faultIsError x = true) : d.canError n asTx x = d.count (0x3100 + n) 0x2B := by
  simp only [Dev.canError, hbus, hsleep, herror, beq_self_eq_true, Bool.not_true, Bool.false_eq_true, if_false, if_true]

/-- A controller on the bus that holds it dominant too long is bus-off. -/
theorem txDominant_of_onBus (hbus : d.canOnBus n = true) :
    d.txDominant n =
      (((d.sticky (0x3100 + n) 7 0x20).count (0x3100 + n) 0x27).raise 0xA432 2 n).canBusOff n := by
  simp only [Dev.txDominant, hbus, Bool.not_true, Bool.false_eq_true, if_false]

/-- A powered channel whose line is dominant for Stuck time loses its custody and is marked, counted and alerted. -/
theorem canStuck_of_dominant {edge k : Nat} (hstuck : (d.canCh n).stuck = false) (hpowered : d.canPowered n = true)
    (hlow : edge + d.get (0x3100 + n) 5 * msCycles ≤ d.now) (hlost : d.canCustodyLoss n = (e, k)) :
    d.canStuck n edge = (((e.setCan n { e.canCh n with stuck := true, sync := false }).sticky (0x3100 + n) 7 0x10).count
      (0x3100 + n) 0x26).raise 0xA431 2 (sat 0xFFFF k * 2 ^ 16 + n) := by
  simp only [Dev.canStuck, hstuck, hpowered, Nat.not_lt.mpr hlow, hlost, Bool.not_true, Bool.false_eq_true, or_self, if_false]

/-- The last stuck line that is recessive for 11 bit times clears the alert. -/
theorem canFree_of_last {edge : Nat} (hstuck : (d.canCh n).stuck = true)
    (hhigh : edge * 1250 + 11 * bitPs (d.get (0x3100 + n) 2) ≤ d.ps)
    (he : e = d.setCan n { d.canCh n with stuck := false })
    (hlast : (List.range 16).any (fun m => (e.canCh m).stuck) = false) : d.canFree n edge = e.clearAlert 0xA431 := by
  have hfree : ¬ ((!(d.canCh n).stuck) = true ∨ d.ps < edge * 1250 + 11 * bitPs (d.get (0x3100 + n) 2)) := by
    simp [hstuck, hhigh]
  simp only [Dev.canFree, if_neg hfree, ← he, hlast, Bool.false_eq_true, if_false]

/-- A request starts the recovery of a controller that is bus-off, where AUTO_REC does not. -/
theorem recoveryRequest_of_busOff (hoff : (d.canCh n).busOff = true) (hauto : bit (d.get (0x3100 + n) 4) 1 = false) :
    d.recoveryRequest n = d.setCan n { d.canCh n with recovering := true } :=
  if_pos ⟨hoff, by rw [hauto]; rfl⟩

/-- The recovery of the last controller that is bus-off clears the alert, and the controller looks for a frame. -/
theorem recoveryDone_of_last (hoff : (d.canCh n).busOff = true) (hrecovering : (d.canCh n).recovering = true)
    (he : e = (d.setCan n { d.canCh n with busOff := false, recovering := false, sync := true }).canCounts n 0 0)
    (hlast : (List.range 16).any (fun m => (e.canCh m).busOff) = false) :
    d.recoveryDone n = (e.clearAlert 0xA430).canNext n := by
  simp only [Dev.recoveryDone, if_pos (And.intro hoff hrecovering), ← he, hlast, Bool.false_eq_true, if_false]

/-- A running controller that is not on the bus joins it. -/
theorem canIntegrate_of_running (hruns : d.canRuns n = true) (hsync : (d.canCh n).sync = false)
    (hoff : (d.canCh n).busOff = false) :
    d.canIntegrate n = (d.setCan n { d.canCh n with sync := true }).canNext n :=
  if_pos ⟨hruns, by rw [hsync]; rfl, by rw [hoff]; rfl⟩

end Faults

/-- The row of the dictionary with Recovery request of every CAN channel (R305). -/
def recoveryRow : OdRow := ⟨0x3100, 0x310F, 0x8, 0x8, .u8, .wo, 0x0, .V⟩

/-- Recovery request of each channel is found in its row. -/
theorem dictFind_recovery (n : Fin 16) : dictFind (0x3100 + n.val) 8 = some recoveryRow := by
  revert n; decide

/-- A write of Recovery request requests a recovery, whatever its value, and no bit of it is reserved. -/
theorem writeEntry_recovery (d : Dev) (o : Otp) (tr : Transport) (n : Fin 16) (v : Nat) (x : Outside) :
    d.writeEntry o tr recoveryRow (0x3100 + n.val) 8 v x = d.recoveryRequest n.val := by
  have hkept : keptMask (0x3100 + n.val) 8 v = v := by simp (disch := omega) only [keptMask, if_neg]
  have hline : d.lineWrite (0x3100 + n.val) 8 v x = some (d.recoveryRequest n.val) := by
    have hindex : (0x3100 + n.val) / 16 = 0x310 := by omega
    simp (disch := omega) only [Dev.lineWrite, if_neg, hindex, if_true, if_false, Nat.add_sub_cancel_left, Nat.reduceEqDiff]
  exact writeEntry_of_line (by omega) (by omega) hkept hline

/-- Settles O48, from what the controller does with each frame and each fault. -/
theorem canBus : Obligations.CanBus := by
  unfold Obligations.CanBus
  refine ⟨?_, ?_, ?_, ?_, ?_, ?_, ?_, ?_, ?_, ?_, ?_, ?_, ?_⟩
  · rintro s d t n f sof x _ hd hon hbus hfdf hmode hloop rfl
    exact core_next hd hon ((canFrameTaken_of_not_sdo hloop (.inr ⟨hfdf, hmode⟩)).trans
      (canReceive_of_exception hbus hfdf hmode))
  · intro s d t n f sof x e hd hon hbus hgood he hsdo hsdo' hloop
    refine core_next hd hon ((canFrameTaken_of_not_sdo hloop (.inl hsdo)).trans ((canReceive_of_good hbus hgood he).trans ?_))
    rw [hsdo', if_neg Bool.false_ne_true]
  · intro s d t n f sof x e hd hon hbus hgood he hsdo hsdo' hident hloop
    refine core_next hd hon ((canFrameTaken_of_sdo hbus hgood hsdo hident hloop).trans ?_)
    rw [canReceive_of_good hbus hgood he, if_pos hsdo']
  · exact fun s d t n f e g h hd hon htx _ he hg hidle hh hloop =>
      core_next hd hon (canSent_of_prio htx he hg hidle hh hloop)
  · exact fun s d t n asTx x tec rec e hd hon hbus hsleep hcounts hfew he =>
      core_next hd hon ((canError_of_counts hbus hsleep hcounts he).trans (if_neg (Nat.not_lt.mpr hfew)))
  · exact fun s d t n asTx x tec rec e hd hon hbus hsleep hcounts hmany he =>
      core_next hd hon ((canError_of_counts hbus hsleep hcounts he).trans (if_pos hmany))
  · exact fun s d t n asTx x hd hon hbus hsleep herror => core_next hd hon (canError_of_agreed hbus hsleep herror)
  · exact fun s d t n hd hon hbus => core_next hd hon (txDominant_of_onBus hbus)
  · exact fun s d t n edge e k hd hon hstuck hpowered hlow hlost =>
      core_next hd hon (canStuck_of_dominant hstuck hpowered hlow hlost)
  · exact fun s d t n edge e hd hon hstuck hhigh he hlast => core_next hd hon (canFree_of_last hstuck hhigh he hlast)
  · exact fun s d t tr n hd ha hoff hauto => core_writeOd hd ha.1 ha.2 (dictFind_recovery n)
      ((writeEntry_recovery ..).trans (recoveryRequest_of_busOff hoff hauto))
  · exact fun s d t n e hd hon hoff hrecovering he hlast =>
      core_next hd hon (recoveryDone_of_last hoff hrecovering he hlast)
  · exact fun s d t n hd hon hruns hsync hoff => core_next hd hon (canIntegrate_of_running hruns hsync hoff)

/-! ### Sleep of an edge network (R306 to R312) -/

section Sleep

variable {d e : Dev} {n : Nat}

/-- Arming moves an AWAKE channel to ARMED and starts its report timer. -/
theorem armSet_of_awake (he : e = d.put (0x2C10 + n) 1 1) (hsleep : (e.canCh n).sleep = .awake) :
    d.armSet n 1 = (e.setCan n { e.canCh n with
      sleep := .armed, armBy := e.inMs (e.nm n 7), seen := false, reported := false }).startReport n := by
  have hawake : ((e.canCh n).sleep == .awake) = true := beq_iff_eq.mpr hsleep
  simp only [Dev.armSet, ← he, if_pos hawake, if_true]

/-- Disarming moves an ARMED channel to AWAKE. -/
theorem armSet_of_armed (he : e = d.put (0x2C10 + n) 1 0) (hsleep : (e.canCh n).sleep = .armed) :
    d.armSet n 0 = e.setCan n { e.canCh n with sleep := .awake } := by
  have harmed : ((e.canCh n).sleep == .armed) = true := beq_iff_eq.mpr hsleep
  simp only [Dev.armSet, ← he, if_pos harmed, Nat.zero_ne_one, if_false]

/-- A wake event starts the controller of an ASLEEP channel. -/
theorem wakeCan_of_asleep (hstuck : (d.canCh n).stuck = false) (hsleep : (d.canCh n).sleep = .asleep) :
    d.wakeCan n = d.toWaking n := by
  simp only [Dev.wakeCan, hstuck, hsleep, Bool.false_eq_true, if_false]

/-- A wake on the bus within the re-wake window is counted and starts the controller of a COMMITTED channel. -/
theorem busWake_of_window (hsleep : (d.canCh n).sleep = .committed) (hwindow : d.stamp ≤ (d.canCh n).windowBy)
    (hstuck : (d.canCh n).stuck = false) (he : e = d.count (0x2C10 + n) 0x23) : d.busWake n = e.toWaking n := by
  have hin : d.inWindow n = true := by simp [Dev.inWindow, hsleep, hwindow]
  simp only [Dev.busWake, Dev.wakeCan, hin, hstuck, hsleep, ← he, Bool.false_eq_true, if_false, if_true]

/-- An ARMED channel agrees to sleep once no awake request stands and its custody is empty. -/
theorem agreement_of_quiet {w : Nat} (hsleep : (d.canCh n).sleep = .armed) (hrequest : (d.canCh n).reqBy = some w)
    (hpast : w < d.stamp) (hcustody : (d.canCh n).custody = []) :
    d.agreement n =
      (d.setCan n { d.canCh n with sleep := .agreed, commitBy := d.inMs (d.nm n 8) }).count (0x2C10 + n) 0x20 := by
  simp [Dev.agreement, hsleep, hrequest, hpast, hcustody]

/-- A channel still ARMED at its report timer reports its Keeper, once per arming. -/
theorem reportExpiry_of_due {k : Nat} (hsleep : (d.canCh n).sleep = .armed) (hreported : (d.canCh n).reported = false)
    (hdue : (d.canCh n).reportBy ≤ d.stamp)
    (hk : k = b2n (bit (d.nm n 0x0C) 31) * 2 ^ 16 + d.nm n 0x0C % 256 * 256 + n) :
    d.reportExpiry n = (((d.setCan n { d.canCh n with reported := true }).count (0x2C10 + n) 0x26).raise 0xA437 1 k).journal
      0xA437 1 k := by
  have hreports : ((d.canCh n).sleep == .armed && !(d.canCh n).reported && decide ((d.canCh n).reportBy ≤ d.stamp)) = true := by
    simp [hsleep, hreported, hdue]
  simp only [Dev.reportExpiry, if_pos hreports, hk]

/-- Past its commit delay an AGREED channel is COMMITTED, and its re-wake window begins. -/
theorem commitExpiry_of_past (hsleep : (d.canCh n).sleep = .agreed) (hpast : (d.canCh n).commitBy < d.stamp) :
    d.commitExpiry n = (d.setCan n { d.canCh n with
      sleep := .committed, tx := none, sync := false, windowBy := d.inMs 1 }).count (0x2C10 + n) 0x21 := by
  simp [Dev.commitExpiry, hsleep, hpast]

/-- Past its re-wake window a COMMITTED channel is ASLEEP. -/
theorem windowEnd_of_past (hsleep : (d.canCh n).sleep = .committed) (hpast : (d.canCh n).windowBy < d.stamp) :
    d.windowEnd n = d.setCan n { d.canCh n with sleep := .asleep } := by
  simp [Dev.windowEnd, hsleep, hpast]

/-- A wake input of a channel that wakes the unit gives its wake event in BIVOUAC. -/
theorem canWakeInput_of_bivouac (hst : d.pw.st = .bivouac) (henabled : d.nm n 0x0B ≠ 0) (harmed : d.pw.armed = true)
    (hstuck : (d.canCh n).stuckThen = false) :
    d.canWakeInput n = (d.setCan n { d.canCh n with woke := true }).wakeEvent 1 0xA435 n := by
  have hwakes : d.nm n 0x0B ≠ 0 ∧ d.pw.armed = true ∧ (!(d.canCh n).stuckThen) = true :=
    ⟨henabled, harmed, by rw [hstuck]; rfl⟩
  simp only [Dev.canWakeInput, if_pos hst, if_pos hwakes]

/-- A WAKING channel whose Arm is set is ASLEEP again when no valid communication came in time. -/
theorem validExpiry_of_armed (hsleep : (d.canCh n).sleep = .waking) (hpast : (d.canCh n).validBy < d.stamp)
    (harmed : d.armed n = true) :
    d.validExpiry n = ((d.setCan n { d.canCh n with sleep := .asleep, tx := none, sync := false }).count (0x2C10 + n)
      0x24).raise 0xA436 1 n := by
  have hlate : ((d.canCh n).sleep == .waking && decide ((d.canCh n).validBy < d.stamp)) = true := by simp [hsleep, hpast]
  simp only [Dev.validExpiry, if_pos hlate, harmed, if_true, Bool.not_true, Bool.and_false]

end Sleep

/-- The rows of the dictionary with Arm and Wake request of every CAN channel (R306): Arm is mirrored. -/
def armRow : OdRow := ⟨0x2C10, 0x2C1F, 0x1, 0x1, .bool, .rw, 0x0, .M⟩
def wakeRow : OdRow := ⟨0x2C10, 0x2C1F, 0x2, 0x2, .u8, .wo, 0x0, .V⟩

/-- Arm of each channel is found in its row. -/
theorem dictFind_arm (n : Fin 16) : dictFind (0x2C10 + n.val) 1 = some armRow := by
  revert n; decide

/-- Wake request of each channel is found in its row. -/
theorem dictFind_wake (n : Fin 16) : dictFind (0x2C10 + n.val) 2 = some wakeRow := by
  revert n; decide

/-- No bit of the sleep entries is reserved. -/
theorem keptMask_sleep (n : Fin 16) (sub v : Nat) : keptMask (0x2C10 + n.val) sub v = v := by
  simp (disch := omega) only [keptMask, if_neg]

/-- A write of Arm arms or disarms the channel, and then sends the delta of a mirrored entry (R209). -/
theorem writeEntry_arm (d : Dev) (o : Otp) (tr : Transport) (n : Fin 16) (v : Nat) (x : Outside) :
    d.writeEntry o tr armRow (0x2C10 + n.val) 1 v x = (d.armSet n.val v).mWritten := by
  have hline : d.lineWrite (0x2C10 + n.val) 1 v x = some (d.armSet n.val v) := by
    have hindex : (0x2C10 + n.val) / 16 = 0x2C1 := by omega
    simp (disch := omega) only [Dev.lineWrite, if_neg, hindex, if_true, Nat.add_sub_cancel_left]
  exact writeEntry_of_line (by omega) (by omega) (keptMask_sleep n _ v) hline

/-- A write of Wake request gives the channel a wake event. -/
theorem writeEntry_wake (d : Dev) (o : Otp) (tr : Transport) (n : Fin 16) (v : Nat) (x : Outside) :
    d.writeEntry o tr wakeRow (0x2C10 + n.val) 2 v x = d.wakeCan n.val := by
  have hline : d.lineWrite (0x2C10 + n.val) 2 v x = some (d.wakeCan n.val) := by
    have hindex : (0x2C10 + n.val) / 16 = 0x2C1 := by omega
    simp (disch := omega) only [Dev.lineWrite, if_neg, hindex, if_true, Nat.add_sub_cancel_left]
  exact writeEntry_of_line (by omega) (by omega) (keptMask_sleep n _ v) hline

/-- Settles O49, from the moves of the sleep state. -/
theorem edgeSleep : Obligations.EdgeSleep := by
  unfold Obligations.EdgeSleep
  refine ⟨?_, ?_, ?_, ?_, ?_, ?_, ?_, ?_, ?_, ?_⟩
  · exact fun s d t tr n e hd ha he hsleep => core_writeOd hd ha.1 ha.2 (dictFind_arm n)
      ((writeEntry_arm ..).trans (congrArg Dev.mWritten (armSet_of_awake he hsleep)))
  · exact fun s d t tr n e hd ha he hsleep => core_writeOd hd ha.1 ha.2 (dictFind_arm n)
      ((writeEntry_arm ..).trans (congrArg Dev.mWritten (armSet_of_armed he hsleep)))
  · exact fun s d t tr n hd ha hstuck hsleep => core_writeOd hd ha.1 ha.2 (dictFind_wake n)
      ((writeEntry_wake ..).trans (wakeCan_of_asleep hstuck hsleep))
  · exact fun s d t n w hd hon hsleep hrequest hpast hcustody =>
      core_next hd hon (agreement_of_quiet hsleep hrequest hpast hcustody)
  · exact fun s d t n k hd hon hsleep hreported hdue hk => core_next hd hon (reportExpiry_of_due hsleep hreported hdue hk)
  · exact fun s d t n hd hon hsleep hpast => core_next hd hon (commitExpiry_of_past hsleep hpast)
  · exact fun s d t n hd hon hsleep hpast => core_next hd hon (windowEnd_of_past hsleep hpast)
  · exact fun s d t n e hd hon hsleep hwindow hstuck he => core_next hd hon (busWake_of_window hsleep hwindow hstuck he)
  · exact fun s d t n hd hst henabled harmed hstuck => run_next hd (canWakeInput_of_bivouac hst henabled harmed hstuck)
  · exact fun s d t n hd hon hsleep hpast harmed => core_next hd hon (validExpiry_of_armed hsleep hpast harmed)

end Sys2Proof.Proofs
end

section
/-! The host ports: accesses over the HLB and over BAR0, the remote windows, the mailbox, the rings and MSI-X (R315 to R332). -/

namespace Sys2Proof.Proofs

open Sys2Proof Sys2Proof.Machine Sys2Proof.Laws Sys2Proof.Safety

/-! ### Local accesses over the HLB (R317) -/

section Local

variable {d : Dev} {addr : Nat} (hon : d.on = true) (hlocal : isRemote addr = false) (hreset : bit d.clk.inReset 1 = false)
  (hbelow : addr < 0x20000000)
include hon hlocal hreset hbelow

/-- The HLB side answers a local access, whose beats lie at ascending addresses. -/
theorem hlbLocal_answers :
    ¬ ((!d.on) = true ∨ isRemote addr = true ∨ bit d.clk.inReset 1 = true) ∧ ¬ 0x20000000 ≤ addr / 4 * 4 := by
  refine ⟨by simp [hon, hlocal, hreset], ?_⟩
  omega

/-- Each beat of a local read is read in order. -/
theorem hlbLocal_read {o : Otp} {x : Outside} {k : Nat} :
    d.hlbLocal o addr (.read k) x = d.hlbReads (beatAddrs (addr / 4 * 4) k) := by
  obtain ⟨hanswers, hlow⟩ := hlbLocal_answers hon hlocal hreset hbelow
  simp only [Dev.hlbLocal, if_neg hanswers, if_neg hlow]

/-- A local write that is not held and holds no delayed write is performed beat by beat, and done. -/
theorem hlbLocal_write {o : Otp} {x : Outside} {bs : List (Nat × Nat)} {ws : List (Nat × Nat × Nat)}
    (hws : ws = ((beatAddrs (addr / 4 * 4) bs.length).zip bs).map (fun w => (w.1, w.2.1, w.2.2)))
    (hheld : d.bridge.slots.any (fun y => (y.st == .writing || y.st == .written) && y.addr = addr / 4 * 4 && y.data = bs) =
      false)
    (hdelays : ws.any (fun w => decide (w.1 < 0x02000000) && d.delays w.1 w.2.1 w.2.2) = false) :
    d.hlbLocal o addr (.write bs) x = (d.hlbWrites o x ws).hlbOut .hlbDone := by
  obtain ⟨hanswers, hlow⟩ := hlbLocal_answers hon hlocal hreset hbelow
  simp only [Dev.hlbLocal, if_neg hanswers, if_neg hlow, ← hws, hheld, hdelays, Bool.false_eq_true, or_self, if_false]

end Local

section Slots

variable {d : Dev} {k : Nat} {y : BridgeSlot} (hslot : d.bridge.slots[k]? = some y)
include hslot

/-- A delayed write of a unit that mirrors to no standby takes effect. -/
theorem delayedDone_of_writing (hst : y.st = .writing) (hmirrors : d.mirrors = false) :
    d.delayedDone k = d.setSlot4 k { y with st := .written, since := d.now } := by
  simp only [Dev.delayedDone, hslot, hst, hmirrors, Bool.false_and, Bool.not_false, and_self, if_true]

/-- A write that nobody collected within 10 ms frees its slot. -/
theorem delayedExpiry_of_late (hst : y.st = .written) (hlate : y.since + 10 * msCycles < d.now) :
    d.delayedExpiry k = d.setSlot4 k {} := by
  simp only [Dev.delayedExpiry, hslot, hst, hlate, and_self, if_true]

/-! ### Delayed reads (R319) -/

/-- A fetch that is answered holds its value. -/
theorem fetchAnswered_ok {v : Nat} {w : Option Nat} (hst : y.st = .fetching) (hprefetch : y.prefetch = false) :
    d.fetchAnswered k (.ok v w) = d.setSlot4 k { y with st := .fetched, value := some v, since := d.now } := by
  simp only [Dev.fetchAnswered, hslot, hst, ne_eq, not_true, if_false, hprefetch, Bool.false_eq_true]

/-- A fetch that is aborted fails. -/
theorem fetchAnswered_abort {a : Nat} (hst : y.st = .fetching) : d.fetchAnswered k (.abort a) = d.fetchFailed k y a := by
  simp only [Dev.fetchAnswered, hslot, hst, ne_eq, not_true, if_false]

/-- A fetched value that nobody took within 10 ms is discarded. -/
theorem readAbandoned_of_late {e : Dev} {v : Nat} (hst : y.st = .fetched) (hlate : y.since + 10 * msCycles < d.now)
    (hvalue : y.value = some v) (he : e = (d.setSlot4 k {}).count 0x2740 2)
    (hprefetch : (e.window (winOf y.addr)).prefetch = none) :
    d.readAbandoned k = e.discardSlots (winOf y.addr) [(slotOf (winOffset y.addr), v)] := by
  simp only [Dev.readAbandoned, hslot, if_pos (And.intro hst hlate), hvalue, ← he, hprefetch]

/-- The last attempt of a fetch that is not answered in time fails. -/
theorem requestTimeout_slot {k' : Fin 4} (hk : k = k'.val) (hst : y.st = .fetching)
    (hlate : y.since + d.winTimeout (winOf y.addr) < d.now) (hattempts : d.winAttempts (winOf y.addr) ≤ y.attempts) :
    d.requestTimeout (.slot k') = d.fetchFailed k y 0 := by
  subst hk
  simp only [Dev.requestTimeout, hslot, if_pos (And.intro hst hlate), if_neg (Nat.not_lt.mpr hattempts)]

end Slots

/-! ### Remote windows (R319, R322) -/

section Remote

variable {d : Dev} {addr : Nat} (hready : d.hlbReady = true) (hremote : isRemote addr = true)
  (henabled : d.winEnabled (winOf addr) = true) (hsem : d.bridge.sem = none)
include hready hremote henabled hsem

/-- A remote read without a lock is served by its window. -/
theorem hlbRead_of_window {beats : Nat} (hburst : badBurst addr beats = false) :
    d.hlbRead addr beats false = Dev.replied ((d.clearSnaps (winOf addr)).readSlot addr beats beats) := by
  simp only [Dev.hlbRead, if_pos (And.intro hready hremote), Dev.remoteRead, henabled, Dev.lockGate, hsem, hburst, Bool.not_true,
    Bool.false_eq_true, if_false]

/-- A remote write without a lock is taken beat by beat. -/
theorem hlbWrite_of_window {beats : List (Nat × Nat)} (hburst : badBurst addr beats.length = false) :
    d.hlbWrite addr beats false = Dev.replied ((d.clearSnaps 8).beatWrites (winOf addr) false addr beats) := by
  simp only [Dev.hlbWrite, if_pos (And.intro hready hremote), Dev.remoteWrite, henabled, Dev.lockGate, hsem, hburst,
    Bool.not_true, Bool.false_eq_true, if_false]

end Remote

/-! ### Posted writes, the lock and timeouts (R318, R322, R323) -/

section Posted

variable {d : Dev}

/-- The oldest write of a window that is answered leaves the queue, and the next is sent. -/
theorem writeAnswered_ok {w v : Nat} {y : Posted} {z : Option Nat}
    (holdest : d.bridge.posted.find? (fun y => y.win = w) = some y) (hsent : y.sent = true) :
    d.writeAnswered w (.ok v z) = (d.popWrite w).sendNext w 33 := by
  simp only [Dev.writeAnswered, holdest, hsent, Bool.not_true, Bool.false_eq_true, if_false]

/-- The last attempt of a write that is not answered in time fails, and the next is sent. -/
theorem requestTimeout_write {w : Fin 8} {y : Posted} (holdest : d.bridge.posted.find? (fun p => p.win = w.val) = some y)
    (hsent : y.sent = true) (hlate : y.since + d.winTimeout w.val < d.now) (hattempts : d.winAttempts w.val ≤ y.attempts) :
    d.requestTimeout (.write w) = ((d.writeFailed w.val y.addr y.data 1 0).popWrite w.val).sendNext w.val 33 := by
  simp only [Dev.requestTimeout, holdest, if_pos (And.intro hsent hlate), if_neg (Nat.not_lt.mpr hattempts)]

/-- The last attempt of a mailbox access that is not answered in time fails. -/
theorem requestTimeout_mailbox (hstatus : d.bridge.mailbox.status = 1) (hstarted : d.bridge.mailbox.attempts ≠ 0)
    (hlate : d.bridge.mailbox.since + d.winTimeout d.bridge.mailbox.win < d.now)
    (hattempts : d.winAttempts d.bridge.mailbox.win ≤ d.bridge.mailbox.attempts) :
    d.requestTimeout .mailbox = d.mailboxEnd 3 0 none := by
  simp only [Dev.requestTimeout, if_pos (And.intro hstatus (And.intro hstarted hlate)), if_neg (Nat.not_lt.mpr hattempts)]

/-- A pop of the write log moves its oldest entry into the entries that show it. -/
theorem logPop_of_cons {e : Dev} {y : LogEntry} {rest : List LogEntry} (hlog : d.bridge.log = y :: rest)
    (he : e = { d with bridge := { d.bridge with log := rest } }) :
    d.logPop = ((((e.put 0x2730 3 y.addr).put 0x2730 4 (y.data % 2 ^ 32)).put 0x2730 5 (2 ^ 31 + y.node * 2 ^ 16 + y.code)).put
      0x2730 6 y.abort).put 0x2730 7 y.stamp := by
  simp only [Dev.logPop, hlog, he]

/-- A semaphore held for 10 ms without an access is released, counted and alerted. -/
theorem lockTimeout_of_late {e : Dev} {w y a : Nat} (hsem : d.bridge.sem = some (w, y, a)) (hlate : a + 10 * msCycles < d.now)
    (he : e = d.lockEnd) :
    d.lockTimeout = ((e.count 0x2740 8).cause 3).raise 0xA703 1 (0x10000000 + 0x02000000 * w + y) := by
  simp only [Dev.lockTimeout, hsem, if_pos hlate, he, winAddr]

end Posted

/-- Settles O50, from what each access, each answer and each timeout of the bridge does. -/
theorem hlbAccesses : Obligations.HlbAccesses := by
  unfold Obligations.HlbAccesses
  refine ⟨?_, ?_, ?_, ?_, ?_, ?_, ?_, ?_, ?_, ?_, ?_, ?_, ?_, ?_, ?_, ?_⟩
  · exact fun s d t addr x k hd hon hlocal hreset hbelow =>
      core_next hd (coreOn_of_on hon) (hlbLocal_read hon hlocal hreset hbelow)
  · exact fun s d t addr x bs ws hd hon hlocal hreset hbelow hws hheld hdelays =>
      core_next hd (coreOn_of_on hon) (hlbLocal_write hon hlocal hreset hbelow hws hheld hdelays)
  · exact fun s d t k y hd hon hslot hst hmirrors => core_next hd hon (delayedDone_of_writing hslot hst hmirrors)
  · exact fun s d t k y hd hon hslot hst hlate => core_next hd hon (delayedExpiry_of_late hslot hst hlate)
  · rintro s d t addr beats _ hd hon hready hremote henabled hsem hburst rfl
    exact core_next hd (coreOn_of_on hon) (hlbRead_of_window hready hremote henabled hsem hburst)
  · exact fun s d t k y v w hd hon hslot hst hprefetch => core_next hd hon (fetchAnswered_ok hslot hst hprefetch)
  · exact fun s d t k y a hd hon hslot hst => core_next hd hon (fetchAnswered_abort hslot hst)
  · exact fun s d t k y v e hd hon hslot hst hlate hvalue he hprefetch =>
      core_next hd hon (readAbandoned_of_late hslot hst hlate hvalue he hprefetch)
  · rintro s d t addr beats _ hd hon hready hremote henabled hsem hburst rfl
    exact core_next hd (coreOn_of_on hon) (hlbWrite_of_window hready hremote henabled hsem hburst)
  · exact fun s d t w y v z hd hon holdest hsent => core_next hd hon (writeAnswered_ok holdest hsent)
  · exact fun s d t tr y rest e hd ha hlog he => core_writeOd hd ha.1 ha.2 rfl (logPop_of_cons hlog he)
  · exact fun s d t hd hon => core_next hd hon rfl
  · exact fun s d t w y a e hd hon hsem hlate he => core_next hd hon (lockTimeout_of_late hsem hlate he)
  · exact fun s d t k y hd hon hslot hst hlate hattempts =>
      core_next hd hon (requestTimeout_slot hslot rfl hst hlate hattempts)
  · exact fun s d t w y hd hon holdest hsent hlate hattempts =>
      core_next hd hon (requestTimeout_write holdest hsent hlate hattempts)
  · exact fun s d t hd hon hstatus hstarted hlate hattempts =>
      core_next hd hon (requestTimeout_mailbox hstatus hstarted hlate hattempts)

end Sys2Proof.Proofs
end

section
/-! The PCIe side: BAR0, the mailbox, the DMA rings and MSI-X (R325 to R332). -/

namespace Sys2Proof.Proofs

open Sys2Proof Sys2Proof.Machine Sys2Proof.Laws Sys2Proof.Safety

/-! ### BAR0 and BAR2 (R325) -/

/-- A command that accesses a register of BAR2 leaves the effect of that register, on the block whose access has ended the
snapshots of the PCIe host (R28). -/
theorem core_bar {s : State} {t : Nat} {d e : Dev} {f : Dev → Dev} (hd : d = (s.at t).snapEnds .pcie) (hon : d.coreOn = true)
    (hbar : d.barReady = true) (he : f d = e) : s.core t (fun d => d.bar f) = .next (s.finish e) := by
  subst hd
  exact core_next rfl hon ((if_pos hbar).trans he)

/-- An aligned request of four bytes within BAR0 is supported. -/
theorem pcie_supports {d : Dev} {addr : Nat} (hreleased : d.released = false) (hbelow : addr < 0x02000000)
    (haligned : addr % 4 = 0) :
    ¬ (d.released = true ∨ 0x02000000 ≤ addr ∨ (!(4 = 4 && addr % 4 = 0 || 4 = 8 && addr % 8 = 0)) = true) := by
  simp [hreleased, hbelow, haligned]

section Bar0

variable {d : Dev} {o : Otp} {x : Outside} {addr : Nat} (hon : d.on = true) (hreset : bit d.clk.inReset 0 = false)
include hon hreset

/-- The PCIe side completes requests. -/
theorem pcie_answers : ¬ ((!d.on) = true ∨ bit d.clk.inReset 0 = true) := by simp [hon, hreset]

/-- Once every output is released, every request completes with Unsupported Request. -/
theorem pcieAccess_of_released {bytes : Nat} {w : Option (Nat × Nat)} (hreleased : d.released = true) :
    d.pcieAccess o addr bytes w x = (d.snapEnds .pcie).emit .pcieUnsupported :=
  (if_neg (pcie_answers hon hreset)).trans (if_pos (.inl hreleased))

variable (hreleased : d.released = false) (hbelow : addr < 0x02000000) (haligned : addr % 4 = 0)
include hreleased hbelow haligned

/-- A word of BAR0 is read, and its value completes the request. -/
theorem pcieAccess_read {e : Dev} {v : Nat} (hread : d.wordRead .pcie addr = (e, v)) :
    d.pcieAccess o addr 4 none x = e.emit (.pcieData v) :=
  have hvalue := congrArg (fun r : Dev × Nat => r.1.emit (.pcieData r.2)) hread
  (if_neg (pcie_answers hon hreset)).trans ((if_neg (pcie_supports hreleased hbelow haligned)).trans hvalue)

/-- A word of BAR0 is written. -/
theorem pcieAccess_write {v be : Nat} :
    d.pcieAccess o addr 4 (some (v, be)) x = ((d.wordWrite o .pcie addr v be x).dev).emit .pcieDone :=
  (if_neg (pcie_answers hon hreset)).trans (if_neg (pcie_supports hreleased hbelow haligned))

end Bar0

/-! ### The mailbox (R326) -/

section Mailbox

variable {d e : Dev} {w slot : Nat} {m : Mailbox} (hfree : d.bridge.mailbox.status ≠ 1) (he : e = d.setMailbox m)
  (henabled : e.winEnabled w = true) (hsem : e.bridge.sem = none)
include hfree he henabled hsem

/-- A read command of a free mailbox waits behind the posted writes of its window, or starts. -/
theorem mailboxStart_read
    (hm : m = {
      win := w, slot := slotOf (slot % 0x02000000)
      low := bits (d.bridge.mailbox.low + 2 ^ 32 * d.bridge.mailbox.high) 31 0
      high := bits (d.bridge.mailbox.low + 2 ^ 32 * d.bridge.mailbox.high) 63 32, command := 1, status := 1 }) :
    d.mailboxStart w slot none =
      ((e.readReaches w m.slot).setMailbox { m with behind := (e.postedTo w).length }).startMailbox := by
  subst he hm
  simp only [Dev.mailboxStart, if_neg hfree, Option.getD_none, Option.isSome_none, Bool.false_eq_true, if_false, henabled,
    Bool.not_true, hsem, Option.map_none, reduceCtorEq]

/-- A write command of a free mailbox waits behind the posted writes of its window, or starts. -/
theorem mailboxStart_write {v : Nat}
    (hm : m = {
      win := w, slot := slotOf (slot % 0x02000000), low := bits v 31 0, high := bits v 63 32, command := 2, status := 1 }) :
    d.mailboxStart w slot (some v) =
      ((e.writeReaches w m.slot).setMailbox { m with behind := (e.postedTo w).length }).startMailbox := by
  subst he hm
  simp only [Dev.mailboxStart, if_neg hfree, Option.getD_some, Option.isSome_some, if_true, henabled, Bool.not_true,
    Bool.false_eq_true, if_false, hsem, Option.map_none, reduceCtorEq]

end Mailbox

/-- A read of the mailbox that is answered reports its value and cause 9. -/
theorem mailboxAnswered_read {d : Dev} {v : Nat} {z : Option Nat} (hstatus : d.bridge.mailbox.status = 1)
    (hstarted : d.bridge.mailbox.attempts ≠ 0) (hcommand : d.bridge.mailbox.command = 1) :
    d.mailboxAnswered (.ok v z) = (d.setMailbox { d.bridge.mailbox with
      status := 2, abort := 0, attempts := 0, behind := 0, low := bits v 31 0, high := bits v 63 32 }).cause 9 := by
  have hruns : ¬ (d.bridge.mailbox.status ≠ 1 ∨ d.bridge.mailbox.attempts = 0) := by simp [hstatus, hstarted]
  simp only [Dev.mailboxAnswered, if_neg hruns, if_pos hcommand, Dev.mailboxEnd]

/-- Settles O51, from the accesses to BAR0 and the course of a mailbox command. -/
theorem pcieAccesses : Obligations.PcieAccesses := by
  unfold Obligations.PcieAccesses
  refine ⟨?_, ?_, ?_, ?_, ?_, ?_⟩
  · exact fun s d t addr x e v hd hon hreset hreleased hbelow haligned hread =>
      core_next hd (coreOn_of_on hon) (pcieAccess_read hon hreset hreleased hbelow haligned hread)
  · exact fun s d t addr x v be hd hon hreset hreleased hbelow haligned =>
      core_next hd (coreOn_of_on hon) (pcieAccess_write hon hreset hreleased hbelow haligned)
  · exact fun s d t addr bytes x w hd hon hreset hreleased =>
      core_next hd (coreOn_of_on hon) (pcieAccess_of_released hon hreset hreleased)
  · exact fun s d t w slot m e hd hon hbar hfree hm he henabled hsem =>
      core_bar hd hon hbar (mailboxStart_read hfree he henabled hsem hm)
  · exact fun s d t w slot v m e hd hon hbar hfree hm he henabled hsem =>
      core_bar hd hon hbar (mailboxStart_write hfree he henabled hsem hm)
  · exact fun s d t v z hd hon hstatus hstarted hcommand =>
      core_next hd hon (mailboxAnswered_read hstatus hstarted hcommand)

/-! ### Rings and MSI-X (R327 to R332) -/

section Rings

variable {d : Dev} {r : Nat}

/-- Control with ENABLE set switches a ring on. -/
theorem ringControl_enables {v : Nat} (henable : bit v 0 = true) :
    d.ringControl r v =
      d.setRing r { d.ring r with enable := true, vector := bits v 12 8, holdoff := bits v 25 16 } := by
  simp only [Dev.ringControl, Ring.control, henable, Bool.not_true, Bool.false_eq_true, and_false, if_false]

/-- Control with ENABLE clear switches a receive ring off, which loses what was admitted to it. -/
theorem ringControl_disables {v : Nat} (hdisable : bit v 0 = false) (hreceive : r < 32) (hwas : (d.ring r).enable = true) :
    d.ringControl r v =
      (d.setRing r { d.ring r with enable := false, vector := bits v 12 8, holdoff := bits v 25 16 }).ringDrop r := by
  simp only [Dev.ringControl, Ring.control, hdisable, hreceive, hwas, Bool.not_false, and_self, if_true]

/-- The low word of Base is written on a ring that is off. -/
theorem ringBase_low {v : Nat} (hoff : (d.ring r).enable = false) :
    d.ringBase r 0 v = d.setRing r { d.ring r with base := (d.ring r).base / 2 ^ 32 * 2 ^ 32 + v } := by
  have hwritable : ¬ (d.ring r).enable = true := by simp [hoff]
  simp only [Dev.ringBase, if_neg hwritable, if_true]

/-- Size is written on a ring that is off. -/
theorem ringBase_size {v : Nat} (hoff : (d.ring r).enable = false) :
    d.ringBase r 8 v = d.setRing r { d.ring r with size := v } := by
  have hwritable : ¬ (d.ring r).enable = true := by simp [hoff]
  simp only [Dev.ringBase, if_neg hwritable, Nat.reduceEqDiff, if_false, if_true]

/-- A transmit descriptor whose bytes are one line that ends in a sentence is parsed and reported without an error. -/
theorem txFetch_of_sentence {ring st : Nat} {desc : TxDesc} {es : List PEvent} {y : Context} (hservice : d.inService = true)
    (havail : (d.ring (txRing ring)).avail ≠ 0) (hroom : d.itemsWaiting (212 + ring) < 2) (hread : desc.readError = false)
    (htunnel : desc.tunnel = none) (hst : st = desc.stamp.getD d.stamp)
    (hevents : hostEvents (d.options (212 + ring)) st d.quality desc.data = some es)
    (hlast : es.getLast? = some (.sentence y)) :
    d.txFetch ring desc = (d.parseEvents (212 + ring) d.now es).txResult ring 0 := by
  have hfetches : ¬ ((!d.inService) = true ∨ (d.ring (txRing ring)).avail = 0 ∨ 2 ≤ d.itemsWaiting (212 + ring)) := by
    simp [hservice, havail, hroom]
  have hhost : hostEvents (d.options (212 + ring)) (desc.stamp.getD d.stamp) d.quality desc.data = some es := hst ▸ hevents
  simp only [Dev.txFetch, if_neg hfetches, hread, Bool.false_eq_true, if_false, htunnel, hhost, hlast, Bool.not_true, b2n]

/-- A held signal is sent once its holdoff has passed. -/
theorem holdoffExpiry_of_past {a : Nat} (hsignal : (d.ring r).signal = some a)
    (hpast : a + (d.ring r).holdoff * usCycles < d.now) :
    d.holdoffExpiry r = (d.setRing r { d.ring r with signal := none }).vectorSend (d.ring r).vector := by
  simp only [Dev.holdoffExpiry, hsignal, if_pos hpast]

/-- Unmasking a vector sends the message that is pending. -/
theorem vectorUnmask_of_pending {v : Nat} (hpending : d.msix.pending.getD v false = true) :
    d.vectorUnmask v = ({ d with
      msix := { masked := d.msix.masked.set v false, pending := d.msix.pending.set v false } } : Dev).emit (.msix v) :=
  if_pos hpending

end Rings

/-- Settles O52, from the registers of a ring, the fetch of a descriptor and the messages of MSI-X. -/
theorem dmaRings : Obligations.DmaRings := by
  unfold Obligations.DmaRings
  refine ⟨?_, ?_, ?_, ?_, ?_, ?_, ?_, ?_⟩
  · exact fun s d t ring v hd hon hbar henable =>
      core_bar hd hon hbar ((if_pos henable).trans (ringControl_enables henable))
  · exact fun s d t ring v hd hon hbar hdisable hreceive hwas =>
      core_bar hd hon hbar ((if_pos hdisable).trans (ringControl_disables hdisable hreceive hwas))
  · exact fun s d t ring offset v hd hon hbar hoff hoffset => core_bar hd hon hbar (hoffset ▸ ringBase_low hoff)
  · exact fun s d t ring offset v hd hon hbar hoff hoffset => core_bar hd hon hbar (hoffset ▸ ringBase_size hoff)
  · exact fun s d t ring v sizes hd hon hbar => core_bar hd hon hbar rfl
  · exact fun s d t ring desc st es y hd hservice havail hroom hread htunnel hst hevents hlast =>
      core_next hd (coreOn_of_service hservice)
        (txFetch_of_sentence hservice havail hroom hread htunnel hst hevents hlast)
  · exact fun s d t ring a hd hon hsignal hpast => core_next hd hon (holdoffExpiry_of_past hsignal hpast)
  · exact fun s d t v hd hon hbar hpending => core_bar hd hon hbar (vectorUnmask_of_pending hpending)

end Sys2Proof.Proofs
end

section
/-! Power states, the temperature monitor and the resets of the whole device (R338 to R352, R364, R433, R439). -/

namespace Sys2Proof.Proofs

open Sys2Proof Sys2Proof.Machine Sys2Proof.Laws Sys2Proof.Safety

/-! ### Power requests (R339 to R344) -/

section Requests

variable {d : Dev}

/-- A request that is accepted in SERVICE for RUN or TRIM, whichever the unit is not in, takes effect two legs on. -/
theorem trimRequest_of_service {trim : Bool} (hservice : d.inService = true) (htrim : d.pw.trim ≠ trim) :
    d.trimRequest trim =
      ({ d with pw := { d.pw with change := some (trim, d.leg + 2 * d.legPu) } } : Dev).put 0x2001 3 1 :=
  (if_neg htrim).trans (if_pos hservice)

/-- A request that is accepted in SERVICE for BIVOUAC or SHELTER starts the drain. -/
theorem startDrain_of_service (g : DrainGoal) (hservice : d.inService = true) :
    d.startDrain g = { d with pw := { d.pw with drain := some (g, 2), drained := false } } :=
  if_pos hservice

/-- A request for RUN that the checks pass. -/
theorem powerRequest_run {pins : Bool} (hcheck : d.powerCheck 1 pins = 0) :
    d.powerRequest 1 pins = d.trimRequest false := by
  simp only [Dev.powerRequest, hcheck, ne_eq, not_true, if_false, if_true]

/-- A request for TRIM that the checks pass. -/
theorem powerRequest_trim {pins : Bool} (hcheck : d.powerCheck 2 pins = 0) :
    d.powerRequest 2 pins = d.trimRequest true := by
  simp only [Dev.powerRequest, hcheck, ne_eq, not_true, if_false, if_true, Nat.reduceEqDiff]

/-- A request for BIVOUAC that the checks pass. -/
theorem powerRequest_bivouac {pins : Bool} (hcheck : d.powerCheck 3 pins = 0) :
    d.powerRequest 3 pins = (d.startDrain .bivouac).put 0x2001 3 1 := by
  simp only [Dev.powerRequest, hcheck, ne_eq, not_true, if_false, if_true, Nat.reduceEqDiff]

/-- A request for SHELTER that the checks pass. -/
theorem powerRequest_shelter {pins : Bool} (hcheck : d.powerCheck 4 pins = 0) :
    d.powerRequest 4 pins = (d.startDrain .shelter).put 0x2001 3 1 := by
  simp only [Dev.powerRequest, hcheck, ne_eq, not_true, if_false, Nat.reduceEqDiff]

/-- Under pin control a held code makes the request of its power state. -/
theorem pinRequest_of_pins {code : Nat} (hservice : d.inService = true) (hpins : d.get 0x2001 4 ≠ 0) :
    d.pinRequest code = ({ d with pw := { d.pw with pwrPins := code } } : Dev).powerRequest (code + 1) true :=
  if_neg (by simp [hservice, hpins])

/-! ### Entry and wake (R340, R344, R347) -/

/-- Under pin control 0b11 moves a unit in BIVOUAC to SHELTER. -/
theorem pinShelter_of_bivouac (hst : d.pw.st = .bivouac) (hpins : d.get 0x2001 4 ≠ 0) :
    d.pinShelter = { d with pw := { d.pw with st := .shelter, armed := false, pwrPins := 3 } } :=
  if_neg (by simp [hst, hpins])

/-- A unit drained in CONFIG takes its snapshot, idles its core and enters SHELTER with nothing armed. -/
theorem lowPower_shelter {n done : Nat} {e f : Dev} (hst : d.pw.st = .config) (hdrain : d.pw.drain = some (.shelter, n))
    (hdrained : d.pw.drained = true) (he : e = d.snapNow)
    (hf : f = (({ e with log := { e.log with accum := e.ledger.strings } } : Dev).coreIdle.put 0x2001 6 0).put 0x2001 7 0) :
    d.lowPower done = ({ f with
      pw := { f.pw with
        st := .shelter, drain := none, drained := false, armed := false, armedAt := f.now, entryDone := done
        wakeDuring := none, wakeAlert := none, wakeOut := false, wakeAt := none } } : Dev).put 0x2001 3 0 := by
  have hconfig : ¬ d.inService = true := by simp [Dev.inService, hst]
  subst he hf
  simp only [Dev.lowPower, hdrain, if_pos hdrained, if_neg hconfig, if_true, Bool.not_true]

/-- A unit drained in SERVICE goes through CONFIG, takes its snapshot, idles its core and enters BIVOUAC with its wake sources
armed. -/
theorem lowPower_bivouac {n done : Nat} {e f : Dev} (hservice : d.inService = true)
    (hdrain : d.pw.drain = some (.bivouac, n)) (hdrained : d.pw.drained = true) (he : e = d.configEnter.snapNow)
    (hf : f = (((({ e with log := { e.log with accum := e.ledger.strings } } : Dev).coreIdle.put 0x2001 6 0).put 0x2001 7
      0).armSerial).armCan d) :
    d.lowPower done = ({ f with
      pw := { f.pw with
        st := .bivouac, drain := none, drained := false, armed := true, armedAt := f.now, entryDone := done
        wakeDuring := none, wakeAlert := none, wakeOut := false, wakeAt := none } } : Dev).put 0x2001 3 0 := by
  subst he hf
  simp only [Dev.lowPower, hdrain, if_pos hdrained, if_pos hservice, Bool.false_eq_true, if_false, Bool.not_false]

/-- A wake command to RUN or TRIM resumes a unit in BIVOUAC. -/
theorem wakeCommand_of_bivouac {o : Otp} {code : Nat} {e : BootEnv} (hst : d.pw.st = .bivouac) (hcode : code < 2) :
    d.wakeCommand o code e =
      ({ d with pw := { d.pw with pwrPins := code } } : Dev).resume e (max d.now d.pw.entryDone) (code = 1) := by
  have hbivouac : (d.pw.st == .bivouac) = true := beq_iff_eq.mpr hst
  simp only [Dev.wakeCommand, if_neg (Nat.not_le.mpr hcode), hbivouac, Bool.true_or, if_true]

end Requests

/-- Settles O53, from the power requests of entry and pins, the entry into low power and the wake. -/
theorem powerRequestsAndWake : Obligations.PowerRequestsAndWake := by
  unfold Obligations.PowerRequestsAndWake
  refine ⟨?_, ?_, ?_, ?_, ?_, ?_, ?_, ?_, ?_⟩
  · exact fun s d t tr hd ha hcheck hservice htrim => core_writeOd hd ha.1 ha.2 rfl
      ((powerRequest_run hcheck).trans (trimRequest_of_service hservice (by simp [htrim])))
  · exact fun s d t tr hd ha hcheck hservice htrim => core_writeOd hd ha.1 ha.2 rfl
      ((powerRequest_trim hcheck).trans (trimRequest_of_service hservice (by simp [htrim])))
  · exact fun s d t tr hd ha hcheck hservice => core_writeOd hd ha.1 ha.2 rfl
      ((powerRequest_bivouac hcheck).trans (congrArg (Dev.put · 0x2001 3 1) (startDrain_of_service _ hservice)))
  · exact fun s d t tr hd ha hcheck hservice => core_writeOd hd ha.1 ha.2 rfl
      ((powerRequest_shelter hcheck).trans (congrArg (Dev.put · 0x2001 3 1) (startDrain_of_service _ hservice)))
  · intro s d t code e hd hservice hpins he hcheck hcode
    have hservice' : e.inService = true := by rw [he]; exact hservice
    refine run_next hd ((pinRequest_of_pins hservice hpins).trans ?_)
    rw [← he, hcode, powerRequest_bivouac hcheck, startDrain_of_service _ hservice']
  · exact fun s d t hd hst hpins => run_next hd (pinShelter_of_bivouac hst hpins)
  · exact fun s d t done n e f hd hst hdrain hdrained he hf =>
      core_next hd (by simp [Dev.coreOn, Dev.on, hst]) (lowPower_shelter hst hdrain hdrained he hf)
  · exact fun s d t done n e f hd hservice hdrain hdrained he hf =>
      core_next hd (coreOn_of_service hservice) (lowPower_bivouac hservice hdrain hdrained he hf)
  · exact fun s d t code e hd hst hcode => run_next hd (wakeCommand_of_bivouac hst hcode)

/-! ### Temperature and thermal hold (R350, R352, R439) -/

section Temperature

variable {d : Dev} {tj : Int}

/-- From 125 °C on the thermal warning is raised. -/
theorem thermAssert_of_hot (hst : d.pw.st ≠ .off) (hon : d.coreOn = true) (hhot : 125 ≤ tj) :
    d.thermAssert tj = ({ d with pw := { d.pw with therm := true, tj := tj } } : Dev).raise 0xA600 2 (ofI32 tj) :=
  (if_neg (not_or_intro hst (Int.not_lt.mpr hhot))).trans (if_pos hon)

/-- Down to 120 °C the thermal warning is cleared. -/
theorem thermRelease_of_cool (hst : d.pw.st ≠ .off) (hon : d.coreOn = true) (hcool : tj ≤ 120) :
    d.thermRelease tj = ({ d with pw := { d.pw with therm := false, tj := tj } } : Dev).clearAlert 0xA600 :=
  (if_neg (not_or_intro hst (Int.not_lt.mpr hcool))).trans (if_pos hon)

/-- The first trip in SERVICE is journalled, and the unit enters HOLD. -/
theorem thermalTrip_of_service (hst : d.pw.st = .service) (htrip : d.pw.trip = none) (hhot : 140 ≤ tj) :
    d.thermalTrip tj =
      (({ d with pw := { d.pw with trip := some tj, tj := tj } } : Dev).journalKa 0xA601 3 (ofI32 tj)).enterHold := by
  have hmonitored : ¬ (d.pw.st = .off ∨ tj < 140) := by simp [hst, hhot]
  have hhold : ¬ d.pw.st = .hold := by simp [hst]
  simp only [Dev.thermalTrip, if_neg hmonitored, htrip, if_neg hhold]

/-- A sample is stored, and the maximum follows it. -/
theorem tempSample_eq {e : Dev} (hst : d.pw.st ≠ .off)
    (he : e = ({ d with pw := { d.pw with tj := tj } } : Dev).put 0x2007 1 (ofI32 tj)) :
    d.tempSample tj = if toI32 (e.get 0x2007 2) < tj then e.put 0x2007 2 (ofI32 tj) else e := by
  subst he
  exact if_neg (by simpa using hst)

end Temperature

/-- Settles O54, from the monitor's levels and its samples. -/
theorem temperatureAndHold : Obligations.TemperatureAndHold := by
  unfold Obligations.TemperatureAndHold
  refine ⟨?_, ?_, ?_, ?_, ?_⟩
  · exact fun s d t tj hd hst hon hhot => run_next hd (thermAssert_of_hot hst hon hhot)
  · exact fun s d t tj hd hst hon hcool => run_next hd (thermRelease_of_cool hst hon hcool)
  · exact fun s d t tj hd hst htrip hhot => run_next hd (thermalTrip_of_service hst htrip hhot)
  · exact fun s d t tj e hd hst he hnew => run_next hd ((tempSample_eq hst he).trans (if_pos hnew))
  · exact fun s d t tj e hd hst he hold => run_next hd ((tempSample_eq hst he).trans (if_neg (Int.not_lt.mpr hold)))

/-! ### Resets of the whole device and supplies (R349, R351, R364, R433) -/

section Resets

variable {d : Dev} {o : Otp} {e : BootEnv}

/-- The release of PORST_N with supplies in range boots the block from the levels of its pins. -/
theorem porstRelease_of_held (hporst : d.pw.porst = true) (hka : d.pw.noKa = false) :
    d.porstRelease o e = d.porstBoot o e :=
  if_neg (by simp [hporst, hka])

/-- PORST_N low resets the block, its scan port too, and holds it. -/
theorem porstLow_of_supplied {f : Dev} (hka : d.pw.noKa = false) (hf : f = d.resetBy 2) :
    d.porstLow = { f with pw := { f.pw with porst := true, brown := false }, tap := {} } := by
  subst hf
  exact if_neg (by simp [hka])

/-- SYSRST_N low resets the block, which boots at its release. -/
theorem sysReset_of_running (hporst : d.pw.porst = false) (hka : d.pw.noKa = false) (hbrown : d.pw.brown = false) :
    d.sysReset o e = (d.resetBy 3).boot o e :=
  if_neg (by simp [hporst, hka, hbrown])

/-- A brown-out in SERVICE leaves the last-gasp of its rails and resets the block. -/
theorem brownOut_of_service {f : Dev} {rails : Nat} (hst : d.pw.st = .service) (hrails : rails % 8 ≠ 0)
    (hf : f = ({ d with log := { d.log with gasp := some (d.gaspTake (rails % 8)) } } : Dev).resetBy 4) :
    d.brownOut rails none = { f with pw := { f.pw with brown := true } } := by
  have hmonitored : ¬ (d.pw.st = .off ∨ rails % 8 = 0) := by simp [hst, hrails]
  have hawake : ¬ d.pw.st = .shelter := by simp [hst]
  subst hf
  simp only [Dev.brownOut, if_neg hmonitored, Option.isSome_none, Bool.false_eq_true, if_false, if_neg hawake, b2n, Nat.mul_zero,
    Nat.add_zero]

/-- The block boots once every rail is in range again. -/
theorem brownRecovery_of_brown (hbrown : d.pw.brown = true) (hporst : d.pw.porst = false) (hka : d.pw.noKa = false) :
    d.brownRecovery o e = ({ d with pw := { d.pw with brown := false } } : Dev).boot o e :=
  if_neg (by simp [hbrown, hporst, hka])

/-- VDD_KA that returns while PORST_N is low restarts the RTC with its mark set, and notes its cause. -/
theorem kaRestore_of_held (hka : d.pw.noKa = true) (hporst : d.pw.porst = true) :
    d.kaRestore o e = { d with
      pw := { d.pw with noKa := false, causes := setBit d.pw.causes 1 true }
      clk := { rtcRuns := true, rtcMark := true, rtcBase := 0, rtcFrom := d.now } } :=
  (if_neg (by simp [hka])).trans (if_pos hporst)

/-- A boot that was held for its temperature goes on below 125 °C. -/
theorem holdEnd_of_cool {tj : Int} (hheld : d.pw.heldBoot = true) (hcool : tj < 125) :
    d.holdEnd o tj e = ({ d with pw := { d.pw with tj := tj } } : Dev).boot o e :=
  if_neg (by simp [hheld, hcool])

end Resets

/-- Settles O55, from the reset or boot of each cause. -/
theorem wholeDeviceResets : Obligations.WholeDeviceResets := by
  unfold Obligations.WholeDeviceResets
  refine ⟨?_, ?_, ?_, ?_, ?_, ?_, ?_, ?_⟩
  · exact fun s d t e hd hporst hka => run_next hd (porstRelease_of_held hporst hka)
  · exact fun s d t e hd hka he => run_next hd (porstLow_of_supplied hka he)
  · exact fun s d t e hd hporst hka hbrown => run_next hd (sysReset_of_running hporst hka hbrown)
  · rintro s d t rails _ e hd hst rfl hrails he
    exact run_next hd (brownOut_of_service hst hrails he)
  · exact fun s d t e hd hbrown hporst hka => run_next hd (brownRecovery_of_brown hbrown hporst hka)
  · rintro s d t _ hd rfl
    exact run_next hd rfl
  · exact fun s d t e hd hka hporst => run_next hd (kaRestore_of_held hka hporst)
  · exact fun s d t tj e hd hheld hcool => run_next hd (holdEnd_of_cool hheld hcool)

end Sys2Proof.Proofs
end

section
/-! Resets of one side, the PLLs, the keep-alive clock and the RTC (R355 to R357, R366, R367, R369). -/

namespace Sys2Proof.Proofs

open Sys2Proof Sys2Proof.Machine Sys2Proof.Laws Sys2Proof.Safety

/-! ### One side in reset (R366, R367) -/

section Sides

variable {d : Dev}

/-- A domain that is out of reset while the core is on can be reset on its own. -/
theorem sideRuns_of_on {x : Domain} (hon : d.coreOn = true) (hout : bit d.clk.inReset x.bit = false) :
    d.sideRuns x = true := by
  rw [Dev.sideRuns, hon, hout]
  rfl

/-- A reset of the PCIe domain frees the blocks of its transport, switches the rings off and ends the mailbox, MSI-X and the
held words. -/
theorem pcieReset_of_runs {e f : Dev} (hruns : d.sideRuns .pcie = true)
    (he : e = ((d.sideReset .pcie).freeBlocks .pcie).ringsOff)
    (hf : f = e.setMailbox { e.bridge.mailbox with status := 0, command := 0 }) :
    d.pcieReset = { f with msix := {}, words := f.words.set .pcie {} } := by
  rw [Dev.pcieReset, if_neg (by simp [hruns]), ← he, hf, setMailbox_words]

/-- A lost HLB clock releases the semaphore and abandons what accesses have left open. -/
theorem hlbReset_of_runs (hruns : d.sideRuns .hlb = true) : d.hlbReset = (d.sideReset .hlb).lockEnd.hlbAbandon := by
  simp only [Dev.hlbReset, hruns, Bool.not_true, Bool.false_eq_true, if_false]

/-- A lost lane of a backbone port resets the side of that port. -/
theorem laneLoss_port {p : Fin 5} {receiving : Bool} (h : p.val < 4) :
    d.laneLoss p receiving = d.laneReset (.port ⟨p.val, h⟩) receiving :=
  dif_pos h

/-- The release of a side that is no port clears its bit alone. -/
theorem sideRelease_of_not_port {x : Domain} (hport : ∀ p, x ≠ .port p) :
    d.sideRelease x = { d with clk := { d.clk with inReset := setBit d.clk.inReset x.bit false } } := by
  cases x with
  | port p => exact absurd rfl (hport p)
  | _ => rfl

end Sides

/-! ### PLLs (R357, R369) -/

section Plls

variable {d : Dev} {mask : Nat}

/-- A PLL that clocks no part of the engine stops what it clocks: the backbone ports, the rope, the PCIe domain. -/
theorem pllLoss_of_ports {e f x : Dev} (hoff : d.pw.st ≠ .off) (hshelter : d.pw.st ≠ .shelter) (hcore : bit mask 0 = false)
    (hstamp : bit mask 1 = false)
    (he : e = ({ d with clk := { d.clk with pll := d.clk.pll &&& (mask % 32 ^^^ 31) } } : Dev).raiseKa 0xA610 3
      (31 - (d.clk.pll &&& (mask % 32 ^^^ 31))))
    (hf : f = if bit mask 2 then (List.range 4).foldl (fun (d : Dev) p => d.linkChange p false 0) e else e)
    (hx : x = if bit mask 3 then f.ropeLost true else f) :
    d.pllLoss mask = if bit mask 4 then x.pcieReset else x := by
  have hclocked : ¬ (d.pw.st = .off ∨ d.pw.st = .shelter) := not_or_intro hoff hshelter
  have hengine : ¬ (bit mask 0 = true ∨ bit mask 1 = true) := by simp [hcore, hstamp]
  subst he hf hx
  simp only [Dev.pllLoss, if_neg hclocked, if_neg hengine]

/-- The loss of the PLL of the CORE clock alone takes the unit out of its role. -/
theorem pllLoss_of_core (hst : d.pw.st = .service) (hcore : bit mask 0 = true) (hports : bit mask 2 = false)
    (hrope : bit mask 3 = false) (hpcie : bit mask 4 = false) :
    d.pllLoss mask = (({ d with clk := { d.clk with pll := d.clk.pll &&& (mask % 32 ^^^ 31) } } : Dev).raiseKa 0xA610 3
      (31 - (d.clk.pll &&& (mask % 32 ^^^ 31)))).progressLost := by
  have hclocked : ¬ (d.pw.st = .off ∨ d.pw.st = .shelter) := by simp [hst]
  simp only [Dev.pllLoss, if_neg hclocked, hports, hrope, hpcie, Bool.false_eq_true, if_false, if_pos (Or.inl hcore)]

/-- The last PLL to lock again clears the alert. -/
theorem pllRegain_of_last (hon : d.coreOn = true) (hoff : d.pw.st ≠ .off) (hshelter : d.pw.st ≠ .shelter)
    (hall : d.clk.pll ||| mask % 32 = 31) :
    d.pllRegain mask = ({ d with clk := { d.clk with pll := 31 } } : Dev).clearAlert 0xA610 := by
  rw [← hall]
  exact (if_neg (not_or_intro hoff hshelter)).trans (if_pos ⟨hall, hon⟩)

/-- Before the last PLL locks the alert stays. -/
theorem pllRegain_of_some (hoff : d.pw.st ≠ .off) (hshelter : d.pw.st ≠ .shelter) (hsome : d.clk.pll ||| mask % 32 ≠ 31) :
    d.pllRegain mask = { d with clk := { d.clk with pll := d.clk.pll ||| mask % 32 } } :=
  (if_neg (not_or_intro hoff hshelter)).trans (if_neg fun h => hsome h.1)

end Plls

/-! ### Keep-alive clock and RTC (R355, R356) -/

section KeepAlive

variable {d : Dev} {ppm : Int}

/-- A lost KA_CLK_IN leaves the RC oscillator, whose deviation is noted and alerted. -/
theorem kaClockLoss_of_external (hka : d.pw.noKa = false) (hsrc : d.clk.kaSrc = 1) :
    d.kaClockLoss ppm =
      (({ d with clk := { d.clk with kaSrc := 2 } } : Dev).put 0x2005 3 (ofI32 ppm)).raiseKa 0xA612 2 (ofI32 ppm) :=
  if_neg (by simp [hka, hsrc])

/-- The trim of the RC oscillator in use is noted, and alerted outside ±0.5%. -/
theorem rcTrim_of_rc (hst : d.pw.st ≠ .off) (hsrc : d.clk.kaSrc ≠ 1) :
    d.rcTrim ppm = if ppm < -5000 ∨ 5000 < ppm then (d.put 0x2005 3 (ofI32 ppm)).raiseKa 0xA612 2 (ofI32 ppm)
      else d.put 0x2005 3 (ofI32 ppm) := by
  simp only [Dev.rcTrim, if_neg hst, if_neg hsrc]

/-- An RTC that stops keeps what it had counted when its last edge came, with its mark set. -/
theorem rtcStop_of_running (hka : d.pw.noKa = false) (hruns : d.clk.rtcRuns = true) (hst : d.pw.st ≠ .off) :
    d.rtcStop = ({ d with
      clk := { d.clk with rtcBase := d.rtcCycles - msCycles, rtcRuns := false, rtcMark := true } } : Dev).raiseKa 0xA613 1 0 :=
  (if_neg (by simp [hka, hruns])).trans (if_neg hst)

/-- An RTC that runs again counts on, and its alert is cleared. -/
theorem rtcRestart_of_stopped (hon : d.coreOn = true) (hka : d.pw.noKa = false) (hstopped : d.clk.rtcRuns = false) :
    d.rtcRestart = ({ d with clk := { d.clk with rtcFrom := d.now, rtcRuns := true } } : Dev).clearAlert 0xA613 :=
  (if_neg (by simp [hka, hstopped])).trans (if_pos hon)

end KeepAlive

/-- Settles O56, from the resets of each side, the PLLs, the keep-alive clock and the RTC. -/
theorem sideResetsAndClocks : Obligations.SideResetsAndClocks := by
  unfold Obligations.SideResetsAndClocks
  refine ⟨?_, ?_, ?_, ?_, ?_, ?_, ?_, ?_, ?_, ?_, ?_, ?_, ?_, ?_, ?_⟩
  · exact fun s d t e f hd hon hout he hf => core_next hd hon (pcieReset_of_runs (sideRuns_of_on hon hout) he hf)
  · rintro s d t _ hd hon hout rfl
    exact core_next hd hon (hlbReset_of_runs (sideRuns_of_on hon hout))
  · exact fun s d t p receiving h hd hon => core_next hd hon (laneLoss_port h)
  · exact fun s d t receiving hd hon => core_next hd hon rfl
  · rintro s d t p _ hd hon rfl
    exact core_next hd hon rfl
  · exact fun s d t domain hd hon hport => core_next hd hon (sideRelease_of_not_port hport)
  · exact fun s d t mask e f x hd hoff hshelter hcore hstamp he hf hx =>
      run_next hd (pllLoss_of_ports hoff hshelter hcore hstamp he hf hx)
  · exact fun s d t mask hd hst hcore hports hrope hpcie => run_next hd (pllLoss_of_core hst hcore hports hrope hpcie)
  · exact fun s d t mask hd hon hoff hshelter hall => run_next hd (pllRegain_of_last hon hoff hshelter hall)
  · exact fun s d t mask hd hoff hshelter hsome => run_next hd (pllRegain_of_some hoff hshelter hsome)
  · exact fun s d t ppm hd hka hsrc => run_next hd (kaClockLoss_of_external hka hsrc)
  · exact fun s d t ppm hd hst hsrc hlow hhigh => run_next hd ((rcTrim_of_rc hst hsrc).trans (if_neg (by omega)))
  · exact fun s d t ppm hd hst hsrc hhigh => run_next hd ((rcTrim_of_rc hst hsrc).trans (if_pos (.inr hhigh)))
  · exact fun s d t hd hka hruns hst => run_next hd (rtcStop_of_running hka hruns hst)
  · exact fun s d t hd hon hka hstopped => run_next hd (rtcRestart_of_stopped hon hka hstopped)

end Sys2Proof.Proofs
end

section
/-! Key import and erasure, the challenge, the tamper response and the transitions of the life cycle (R371 to R388). -/

namespace Sys2Proof.Proofs

open Sys2Proof Sys2Proof.Machine Sys2Proof.Laws Sys2Proof.Safety

/-! ### Import and challenge (R379, R383) -/

section Keys

variable {d : Dev}

/-- A running import ends with the result of its package. -/
theorem importDone_of_importing {pkg : List Byte} {key : Option (List Byte)} {r : Nat} {z : Option KeyCopy}
    (himporting : d.vault.importing = some (pkg, key)) (hresult : d.importResult pkg key = (r, z)) :
    d.importDone = d.importEnd r (beAt pkg 6 1) z := by
  simp only [Dev.importDone, himporting, hresult]

/-- A challenge of 16 bytes with a usable key starts on the message that the unit forms of it. -/
theorem challengeStart_of_key {e : Dev} {k x : List Byte} (hidle : d.get 0x2830 4 ≠ 1) (hunsealed : d.vault.st = 1)
    (he : e = ({ d with vault := { d.vault with response := [] } } : Dev)) (hkey : d.keyOf (d.get 0x2830 2) 3 = some k)
    (hx : x = SMap.get (fun _ => ([] : List Byte)) d.domains (odKey 0x2830 1)) (hlength : x.length = 16) :
    d.challengeStart = { e.put 0x2830 4 1 with
      vault := { e.vault with
        challenge := some (x ++ be 8 Config.serial.toNat ++ be 1 d.lifeCode ++ padTo 32 d.ledger.head, k) } } := by
  have hcached : e.keyOf (e.get 0x2830 2) 3 = some k := by rw [he]; exact hkey
  have hvault : ¬ e.vault.st ≠ 1 := by rw [he]; exact not_not_intro hunsealed
  rw [Dev.challengeStart, if_neg hidle, ← he, if_neg hvault, hcached, ← hx]
  subst he
  exact if_neg (not_not_intro hlength)

/-- A running challenge is answered with the first 16 bytes of its HMAC. -/
theorem challengeDone_of_running {msg k : List Byte} (hchallenge : d.vault.challenge = some (msg, k)) :
    d.challengeDone = ({ d.put 0x2830 4 2 with
      vault := { d.vault with challenge := none, response := (be 32 (Config.hmac (keyBits k) msg).toNat).take 16 } }
      : Dev).count 0x2840 6 := by
  simp only [Dev.challengeDone, hchallenge]

end Keys

/-! ### Tamper (R385 to R388) -/

section Tamper

variable {d e : Dev} {src : Nat} {copyA fused : Bool}

/-- A journal entry of the keep-alive domain changes nothing of the power state. -/
@[simp] theorem journalKa_pw (d : Dev) (code sev detail : Nat) : (d.journalKa code sev detail).pw = d.pw :=
  have kept : (unalerted (d.journalKa code sev detail)).pw = (unalerted d).pw :=
    congrArg Dev.pw (unalerted_journalQueue d code (sev + 4) detail d.stamp)
  kept

/-- The first alarm in SERVICE is latched and stamped; the running key operations end and the vault loses its keys. -/
theorem tamper_of_service (hka : d.pw.noKa = false) (htamper : d.tamperOn src = true) (hservice : d.inService = true)
    (hlatch : d.vault.latch = 0)
    (he : e = (({ d with vault := { d.vault with latch := setBit 0 src true, stamp := d.stamp } } : Dev).count 0x2840 1).raise
      0xA500 3 (setBit 0 src true)) (hunsealed : e.vault.st = 1) :
    d.tamper src copyA fused = ((e.abortAll copyA fused).keyless 2).ropeKeyCheck := by
  have hpresent : ¬ (d.pw.noKa = true ∨ (!d.tamperOn src) = true) := by simp [hka, htamper]
  have hawake : ¬ (d.pw.st == .bivouac || d.pw.st == .shelter || d.pw.st == .off) = true := by
    rw [beq_iff_eq.mp hservice]
    decide
  rw [Dev.tamper, if_neg hpresent]
  simp only [hlatch, if_true]
  subst he
  exact (if_neg hawake).trans (if_pos hunsealed)

/-- An alarm in SHELTER is latched and journalled, and its response is owed to the next unseal. -/
theorem tamper_of_shelter {f : Dev} (hka : d.pw.noKa = false) (htamper : d.tamperOn src = true) (hst : d.pw.st = .shelter)
    (he : e = ({ d with
      vault := { d.vault with
        latch := setBit d.vault.latch src true,
        stamp := if d.vault.latch = 0 then d.stamp else d.vault.stamp } } : Dev).count 0x2840 1)
    (hf : f = e.journalKa 0xA500 3 e.vault.latch) :
    d.tamper src copyA fused = { f with vault := { f.vault with coldAlarm := true, owed := true } } := by
  have hpresent : ¬ (d.pw.noKa = true ∨ (!d.tamperOn src) = true) := by simp [hka, htamper]
  have hcold : (d.pw.st == .bivouac || d.pw.st == .shelter || d.pw.st == .off) = true := by rw [hst]; rfl
  have halarm : (f.vault.coldAlarm || !(f.pw.st == .off)) = true := by
    have hpw : f.pw.st = .shelter := by rw [hf, journalKa_pw, he]; exact hst
    simp [hpw]
  have htaken : d.tamper src copyA fused =
      { f with vault := { f.vault with coldAlarm := f.vault.coldAlarm || !(f.pw.st == .off), owed := true } } := by
    rw [Dev.tamper, if_neg hpresent]
    subst hf he
    exact if_pos hcold
  rw [htaken, halarm]

/-- A clear bit that is cleared leaves 0. -/
theorem setBit_zero_false (i : Nat) : setBit 0 i false = 0 :=
  if_pos (Nat.zero_testBit i)

/-- Clearing bits of an empty latch leaves it empty. -/
theorem foldl_clear_zero (p : Nat → Prop) [DecidablePred p] (is : List Nat) :
    is.foldl (fun l i => if p i then setBit l i false else l) 0 = 0 := by
  induction is with
  | nil => rfl
  | cons i is ih => rw [List.foldl_cons, setBit_zero_false, ite_self, ih]

/-- The last latched source that no longer alarms empties the latch, and the alert is cleared. -/
theorem latchClear_of_last {v alarming : Nat} (hlatch : d.vault.latch = 1) (hv : bit v 0 = true)
    (hquiet : bit alarming 0 = false) :
    d.latchClear v alarming =
      ({ d with vault := { d.vault with latch := 0, owed := false } } : Dev).clearAlert 0xA500 := by
  have hcleared : (List.range 8).foldl (fun l i => if bit v i ∧ !bit alarming i then setBit l i false else l)
      d.vault.latch = 0 := by
    rw [hlatch, List.range_succ_eq_map, List.foldl_cons, if_pos ⟨hv, by simp [hquiet]⟩]
    exact foldl_clear_zero _ _
  simp only [Dev.latchClear, hcleared, if_true]

end Tamper

/-! ### The end of a transition (R371 to R373) -/

/-- With the core on a running transition ends: the fuses it leaves, and the effect on the block. -/
theorem transitionComplete_next {s : State} {d e : Dev} {t salt : Nat} {fuseFails : Bool} {b : BootEnv} {x : Transition}
    {o : Otp} (hd : d = s.at t) (hon : d.coreOn = true) (htransition : d.vault.transition = some x)
    (ho : s.otp.transition x fuseFails salt = o) (he : d.transitionEnd o fuseFails b = e) :
    exec (.transitionComplete t fuseFails salt b) s = .next (({ s with otp := o } : State).finish e) := by
  subst hd ho he
  have hrunning : s.dev.vault.transition = some x := htransition
  show execTransitionComplete t fuseFails salt b s = _
  rw [execTransitionComplete, hrunning]
  exact if_pos hon

/-- A fuse write that fails ends the transition with result 9 and notes the rows left. -/
theorem transitionEnd_of_failure {d : Dev} {o : Otp} {b : BootEnv} {x : Transition}
    (htransition : d.vault.transition = some x) :
    d.transitionEnd o true b = (d.transitionFail 9).put 0x2800 7 o.spare := by
  simp only [Dev.transitionEnd, htransition, if_true]

/-- A transition whose fuses are burnt reboots the block. -/
theorem transitionEnd_of_success {d : Dev} {o : Otp} {b : BootEnv} {x : Transition}
    (htransition : d.vault.transition = some x) :
    d.transitionEnd o false b = ((d.transitionDone x).rebootPrepare.resetBy 5).boot o b := by
  simp only [Dev.transitionEnd, htransition, Bool.false_eq_true, if_false]

/-- Settles O57, from the effect of each command on the vault, and of the end of a transition on fuses and block. -/
theorem keysTamperAndLife : Obligations.KeysTamperAndLife := by
  unfold Obligations.KeysTamperAndLife
  refine ⟨?_, ?_, ?_, ?_, ?_, ?_, ?_, ?_, ?_⟩
  · exact fun s d t pkg key r z hd hon himporting hresult => core_next hd hon (importDone_of_importing himporting hresult)
  · exact fun s d t tr v hd ha => core_writeOd hd ha.1 ha.2 rfl rfl
  · exact fun s d t tr e k x hd ha hidle hunsealed he hkey hx hlength =>
      core_writeOd hd ha.1 ha.2 rfl (challengeStart_of_key hidle hunsealed he hkey hx hlength)
  · exact fun s d t msg k hd hon hchallenge => core_next hd hon (challengeDone_of_running hchallenge)
  · exact fun s d t source copyA fused e hd hka htamper hservice hlatch _ he hunsealed =>
      run_next hd (tamper_of_service hka htamper hservice hlatch he hunsealed)
  · exact fun s d t source copyA fused e f hd hka htamper hst he hf => run_next hd (tamper_of_shelter hka htamper hst he hf)
  · exact fun s d t tr v alarming hd ha hlatch hv hquiet =>
      core_writeOd hd ha.1 ha.2 rfl (latchClear_of_last hlatch hv hquiet)
  · exact fun s d t salt e x hd hon htransition =>
      transitionComplete_next hd hon htransition rfl (transitionEnd_of_failure htransition)
  · rintro s d t salt e x o hd hon htransition hpermits rfl
    exact transitionComplete_next hd hon htransition (if_pos hpermits) (transitionEnd_of_success htransition)

end Sys2Proof.Proofs
end

section
/-! The lease ledger's closing and records, snapshots, histograms, the copy of the logbook and the scrubber (R396 to R398, R407 to R416). -/

namespace Sys2Proof.Proofs

open Sys2Proof Sys2Proof.Machine Sys2Proof.Laws Sys2Proof.Safety

/-! ### Closing and records (R396 to R398) -/

section Ledger

variable {d : Dev}

/-- One leg after a boundary the unit that leads closes the interval of every string that began before it. -/
theorem ledClose_of_due {b : Nat} (hclosing : d.ledger.closing = some b) (hleads : d.leads = true)
    (hdue : b + d.legPu ≤ d.stamp) :
    d.ledClose = { d with
      ledger := { d.ledger with
        closing := none, lastEnd := b,
        pending := (List.range 64).filter (fun n => ledValid (d.row .ledger n) && decide ((d.ledger.string n).start < b)) } } := by
  simp only [Dev.ledClose, hclosing, if_pos (And.intro hleads hdue)]

/-- With a key the next string's record is signed, chained to the head before it, and counted. -/
theorem ledSigned_of_key {n : Nat} {rest : List Nat} {k hd : List Byte} {e : Dev} (hpending : d.ledger.pending = n :: rest)
    (hleads : d.leads = true) (hkey : d.keyOf (d.get 0x2900 2) 2 = some k) (hserial : d.get 0x2910 6 ≠ 0)
    (hhd : hd = d.ledHeader n (0 ||| (d.ledger.string n).flags ||| 32 * b2n d.ledger.restart ||| 64 * b2n d.ledger.stateChange)
      (d.ledger.string n) d.ledger.lastEnd)
    (he : e = (d.setString n ((d.ledger.string n).closed d.ledger.lastEnd)).put 0x2910 3 ((d.get 0x2910 3 + 1) % 2 ^ 32)) :
    d.ledSigned = ((({ e with
      ledger := { e.ledger with
        pending := rest, head := shaBytes hd, stateChange := false, restart := false,
        owed := e.ledger.owed ++ [{
          string := n, number := d.get 0x2910 3,
          bytes := hd ++ be 64 (Config.ecdsaSign (keyBits k) hd).toNat ++ (d.ledger.string n).binBytes,
          finish := d.ledger.lastEnd, waits := d.nextDelta }] } } : Dev).count 0x2920 6).ledFlush) := by
  subst hhd he
  simp only [Dev.ledSigned, hpending, hleads, hkey, if_neg hserial, Option.isNone_some, Bool.not_true, Bool.false_eq_true, if_false,
    b2n]

end Ledger

/-! ### Snapshots (R408) -/

section Snapshots

variable {d : Dev}

/-- Once the interval is over a trigger comes. -/
theorem snapInterval_of_due (hon : d.on = true) (hdue : d.log.since + d.get 0x2A00 1 * secCycles ≤ d.now) :
    d.snapInterval = d.snapTrigger :=
  if_pos ⟨hon, hdue⟩

/-- A trigger while none runs starts a snapshot and the interval. -/
theorem snapTrigger_of_idle (hidle : d.log.running = none) :
    d.snapTrigger = { d with log := { d.log with running := some d.snapTake, since := d.now } } :=
  if_neg (by simp [hidle])

/-- A trigger while one runs is held. -/
theorem snapTrigger_of_running {x : Snap} (hrunning : d.log.running = some x) :
    d.snapTrigger = { d with log := { d.log with heldTrigger := true } } :=
  if_pos (by simp [hrunning])

/-- The end of a running snapshot with no trigger held. -/
theorem snapComplete_of_running {x : Snap} {e : Dev} {fault : Option Nat} (hrunning : d.log.running = some x)
    (hheld : d.log.heldTrigger = false) (he : d.snapEnd fault = e) :
    d.snapComplete fault = { e with log := { e.log with heldTrigger := false } } := by
  simp only [Dev.snapComplete, hrunning, hheld, he, Option.isNone_some, Bool.false_eq_true, if_false]

/-- A write that fails twice leaves the copy invalid and raises 0xA622. -/
theorem snapEnd_of_fault {x : Snap} {a : Nat} (hrunning : d.log.running = some x) :
    d.snapEnd (some a) = ({ d with log := d.log.store none } : Dev).raise 0xA622 2 a := by
  simp only [Dev.snapEnd, hrunning]

/-- A snapshot that completes becomes the newest copy, and its stamp and number are noted. -/
theorem snapComplete_of_success {x : Snap} {e : Dev} (hrunning : d.log.running = some x) (hheld : d.log.heldTrigger = false)
    (he : e = ({ d with
      log := { d.log.store (some x) with accum := x.strings, heldTrigger := false },
      clk := { d.clk with rtcMark := d.clk.rtcMark && !d.clk.rtcRuns } } : Dev)) :
    d.snapComplete none = (e.put 0x2A00 3 x.stamp).put 0x2A00 4 x.seq := by
  subst he
  refine (snapComplete_of_running hrunning hheld rfl).trans ?_
  simp only [Dev.snapEnd, hrunning]
  rfl

end Snapshots

/-! ### The copy of the logbook, the scrubber and the dwell second (R407, R415, R416) -/

section Diagnostics

variable {d : Dev}

/-- A transport that the dictionary admits takes its copy of the logbook. -/
theorem exportTaken_of_readable {e : Dev} {tr : Transport} (he : e = d.accessBegins tr) (hreaches : e.reaches tr = true)
    (hread : e.readCheck tr 0x2A10 1 = none) :
    d.exportTaken tr = { e with dom := e.dom.set tr { e.dom.get tr with copy := e.exportBytes } } := by
  subst he
  rw [accessBegins_reaches] at hreaches
  rw [accessBegins_readCheck] at hread
  exact if_neg (by simp [hreaches, hread])

/-- A scrub pass counts what it corrected, acts on each bad word, and counts itself. -/
theorem scrubPass_of_on {e : Dev} {corrected : Nat} {bad : List (Nat × ScrubAt)} (hon : d.on = true)
    (he : e = ({ d.count 0x2A20 1 corrected with
      mirror := { d.mirror with hScrub := d.mirror.hScrub + corrected } } : Dev)) :
    d.scrubPass corrected bad = (bad.foldl (fun d b => d.scrubBad b.1 b.2) e).count 0x2A20 3 := by
  subst he
  exact if_neg (by simp [hon])

/-- A second in SERVICE is counted in the bins of the temperature and of both supplies. -/
theorem dwellSecond_of_service {core sram : Nat} (hst : d.pw.st = .service) :
    d.dwellSecond core sram =
      ((d.histAdd 0 (dwellBin d.pw.tj)).histAdd 1 (supplyBin 720 core)).histAdd 2 (supplyBin 770 sram) :=
  if_pos (by simp [hst])

end Diagnostics

/-- Settles O58, from the closing, the records, the snapshots and the counts of the logbook. -/
theorem ledgerAndLogbook : Obligations.LedgerAndLogbook := by
  unfold Obligations.LedgerAndLogbook
  refine ⟨?_, ?_, ?_, ?_, ?_, ?_, ?_, ?_, ?_, ?_, ?_⟩
  · exact fun s d t b hd hon hclosing hleads hdue => core_next hd hon (ledClose_of_due hclosing hleads hdue)
  · exact fun s d t n rest k hd e hdev hon hpending hleads hkey hserial hhd he =>
      core_next hdev hon (ledSigned_of_key hpending hleads hkey hserial hhd he)
  · exact fun s d t hd hon hdue => core_next hd (coreOn_of_on hon) (snapInterval_of_due hon hdue)
  · exact fun s d t tr hd ha hidle => core_writeOd hd ha.1 ha.2 rfl (snapTrigger_of_idle hidle)
  · exact fun s d t tr x hd ha hrunning => core_writeOd hd ha.1 ha.2 rfl (snapTrigger_of_running hrunning)
  · exact fun s d t x e hd hon hrunning hheld he => core_next hd hon (snapComplete_of_success hrunning hheld he)
  · rintro s d t x a _ hd hon hrunning hheld rfl
    exact core_next hd hon (snapComplete_of_running hrunning hheld (snapEnd_of_fault hrunning))
  · exact fun s d t tr v hd ha => core_writeOd hd ha.1 ha.2 rfl rfl
  · intro s d t tr hd hreaches hread
    have hon : (s.at t).coreOn = true := by simpa [hd] using coreOn_of_reaches hreaches
    exact core_next rfl hon (exportTaken_of_readable hd hreaches hread)
  · exact fun s d t corrected bad e hd hon he => core_next hd (coreOn_of_on hon) (scrubPass_of_on hon he)
  · exact fun s d t core sram hd hst =>
      core_next hd (by simp [Dev.coreOn, Dev.on, hst]) (dwellSecond_of_service hst)

end Sys2Proof.Proofs
end

section
/-! The instructions of the boundary-scan port (R425 to R427). -/

namespace Sys2Proof.Proofs

open Sys2Proof Sys2Proof.Machine Sys2Proof.Laws Sys2Proof.Safety

section Tap

variable {d : Dev} {pins cells : List Bool}

/-- With PORST_N high and VDD_KA present the port is out of reset. -/
theorem tapRuns_of_released (hporst : d.pw.porst = false) (hka : d.pw.noKa = false) : d.tapRuns = true := by
  rw [Dev.tapRuns, hporst, hka]
  rfl

/-- An instruction that leaves the pins to the unit is loaded in every device state. -/
theorem tapBypass_of_runs (hruns : d.tapRuns = true) : d.tapBypass = d.tapLoad .bypass 0 false :=
  if_pos hruns

/-- IDCODE shifts out the identification of the device. -/
theorem tapIdcode_of_runs (hruns : d.tapRuns = true) : d.tapIdcode = d.tapLoad .idcode Machine.idcode false :=
  if_pos hruns

/-- SAMPLE/PRELOAD shifts out the pins' levels, then loads the boundary cells. -/
theorem tapSample_of_runs {e : Dev} (hruns : d.tapRuns = true) (he : e = d.tapLoad .samplePreload (pinsValue pins) false) :
    d.tapSample pins cells = { e with tap := { e.tap with cells := cells } } := by
  subst he
  exact if_pos hruns

/-- An instruction that takes the pins is loaded once the unit is in HOLD. -/
theorem tapHold_of_runs {e : Dev} {i : TapInstr} {dr : Nat} {drives : Bool} (hruns : d.tapRuns = true)
    (he : e = if d.pw.st = .hold then d else d.enterHold.journalKa 0xA631 1 0) :
    d.tapHold i dr drives = e.tapLoad i dr drives := by
  subst he
  exact if_neg (by simp [hruns])

end Tap

/-- Settles O59: each instruction loads and captures its register; those that drive or hold pins do so from HOLD. -/
theorem boundaryScan : Obligations.BoundaryScan := by
  unfold Obligations.BoundaryScan
  refine ⟨?_, ?_, ?_, ?_, ?_, ?_, ?_, ?_, ?_⟩
  · exact fun s d t hd => run_next hd rfl
  · exact fun s d t hd hporst hka => run_next hd (tapBypass_of_runs (tapRuns_of_released hporst hka))
  · exact fun s d t hd hporst hka => run_next hd (tapIdcode_of_runs (tapRuns_of_released hporst hka))
  · exact fun s d t pins cells e hd hporst hka he => run_next hd (tapSample_of_runs (tapRuns_of_released hporst hka) he)
  · exact fun s d t pins e hd hporst hka he => run_next hd (tapHold_of_runs (tapRuns_of_released hporst hka) he)
  · exact fun s d t e hd hporst hka he => run_next hd (tapHold_of_runs (tapRuns_of_released hporst hka) he)
  · exact fun s d t pins e hd hporst hka he => run_next hd (tapHold_of_runs (tapRuns_of_released hporst hka) he)
  · exact fun s d t pins e hd hporst hka he => run_next hd (tapHold_of_runs (tapRuns_of_released hporst hka) he)
  · exact fun s d t e hd hporst hka he => run_next hd (tapHold_of_runs (tapRuns_of_released hporst hka) he)

end Sys2Proof.Proofs
end
